-- ==== Sys2Proof/Word.lean ====
section
/-! DEFINITION. The words of the line: a character carries one byte; fields of two bytes are halves. -/

namespace Sys2Proof

/-- The eight data bits of one line character (R1). -/
abbrev Byte := BitVec 8

/-- A two-byte field, sent high byte first (01, section 1.4). -/
abbrev Half := BitVec 16

end Sys2Proof
end

