-- ==== Sys2Proof/Config.lean ====
section
/-! DEFINITION. What the part fixes: its capacities, its time base, its largest counts, and the one choice its rules
leave open between them (log 29). -/

namespace Sys2Proof.Config

/-- Line units in one millisecond (DESIGN CHOICE, log 3): with 2304 units to the millisecond every
character time of R1's rate table is a whole number of units. -/
def unitsPerMs : Nat := 2304

/-- Units in one bit time at a rate strap value (R1): 1/57600 s is 40 units, and each step of the
strap halves it. -/
def bitUnits (rate : Nat) : Nat := 40 / 2 ^ rate

/-- A character time is twelve bit times (R1). -/
def charUnits (rate : Nat) : Nat := 12 * bitUnits rate

/-- Entries of the posted buffer (R28). -/
def postedCap : Nat := 8

/-- Entries of the delayed-transaction table (R38). -/
def delayedCap : Nat := 4

/-- Entries of a hold list (R31). -/
def holdCap : Nat := 2

/-- Attempts of a posted or held entry, of a PARK, a WAKE or a due follow-up poll (R61). -/
def maxAttempts : Nat := 3

/-- Start times a start history keeps (R74). -/
def startsKept : Nat := 6

/-- The window over which the starts limit counts, in ms (R74, R145). -/
def startsWindow : Nat := 3600000

/-- Life of an uncollected result in ms (R41). -/
def doneLife : Nat := 2000

/-- Life of a lock sequence in ms (R27). -/
def lockLife : Nat := 10000

/-- Follow-up interval in ms (R58). -/
def followUp : Nat := 1000

/-- Grace after a sounding, in ms (R152). -/
def grace : Nat := 30000

/-- Milliseconds of the week (R163). -/
def weekMs : Nat := 604800000

/-- Minutes of the week (R163). -/
def weekMinutes : Nat := 10080

/-- Largest value of an 8-bit, a 16-bit, a 32-bit and a 48-bit count (R101). -/
def max8 : Nat := 255
def max16 : Nat := 65535
def max32 : Nat := 4294967295
def max48 : Nat := 281474976710655

/-- Unlock attempts (R187). -/
def unlockAttempts : Nat := 4

/-- Most addresses one WRITE SCAN LIST or READ SCAN LIST carries (R175, R184). -/
def scanRun : Nat := 24

/-- FREE VALUE (log 29): whether the part judges a SAVE under way before the range of a WRITE GROUP, as R138 says, or
after it, as R181 says. -/
opaque groupSaveFirst : Bool

/-- FREE VALUE (log 29): whether the part judges a SAVE under way before the range of a WRITE SCAN LIST, as R175 says,
or after it, as R181 says. -/
opaque scanListSaveFirst : Bool

end Sys2Proof.Config
end

