-- ==== Sys2Proof/Syntax.lean ====
section
/-! DEFINITION. The commands of the block, one constructor for each row of spec/opcode_table.json, and the
line records their operands are made of. -/

namespace Sys2Proof

/-- The two line ports (00_scope). -/
inductive Port where
  | c
  | f
deriving DecidableEq, Repr

/-- The error a completed character carries (R3). -/
inductive CharError where
  | framing
  | parity
deriving DecidableEq, Repr

/-- The samples of one character: three for each of its twelve bit times (R1, R2). Bit time `i` has bits
`3 * i`, `3 * i + 1` and `3 * i + 2`. -/
abbrev Samples := BitVec 36

/-- What ended a frame that is discarded (R4, R5, R7, R8). -/
inductive EndCause where
  | charError (e : CharError)
  | length
  | crc
  | shape
deriving DecidableEq, Repr

/-- The event of a FRAME_DISCARD (R4, R10): a marker character cut the frame off, or it ended for a cause. -/
inductive FrameEnd where
  | cutOff (opening : Samples)
  | ended (cause : EndCause)
deriving DecidableEq, Repr

/-- Run state of a station status record (01, section 1.4). -/
inductive RunState where
  | stopped
  | starting
  | running
  | stopping
deriving DecidableEq, Repr

/-- Stop cause of a station status record (01, section 1.4). -/
inductive StopCause where
  | none
  | commanded
  | parked
  | localStop
  | fault
deriving DecidableEq, Repr

/-- Station status record (01, section 1.4). Bit 0 of `flags` is ready, bit 1 energy-parked. -/
structure StatusRec where
  run : RunState
  cause : StopCause
  load : Half
  aux : Half
  flags : Byte
  spare : Byte
deriving DecidableEq, Repr

/-- Action of a set record (01, section 1.4). -/
inductive Action where
  | noop
  | run
  | stop
  | jog
  | setpoint
  | park
  | wake
deriving DecidableEq, Repr

/-- Set record (01, section 1.4). -/
structure SetRec where
  action : Action
  lock : Bool
  arg : Half
deriving DecidableEq, Repr

/-- Kind and payload of a frame (01, section 1.4). -/
inductive Body where
  | poll
  | status (r : StatusRec)
  | gateStatus (bytes : List Byte)
  | set (r : SetRec)
  | ack (cause : Byte)
  | nak (cause : Byte)
  | time (week : BitVec 32)
  | mgmt (bytes : List Byte)
  | mreply (bytes : List Byte)
deriving DecidableEq, Repr

/-- A frame: addressing, tag, kind and payload; its length and check follow from them (R7, R15). -/
structure Frame where
  dst : Byte
  src : Byte
  tag : Byte
  body : Body
deriving DecidableEq, Repr

/-- The kinds of request the delayed-transaction table holds (R38). -/
inductive ReqKind where
  | poll
  | set
deriving DecidableEq, Repr

/-- Key of a delayed entry: destination, kind and tag (R38). -/
structure DelayKey where
  dst : Byte
  kind : ReqKind
  tag : Byte
deriving DecidableEq, Repr

/-- What GATE_SET_OR_TIME addresses to the gate (R43). -/
inductive GateWord where
  | set (r : SetRec)
  | time (week : BitVec 32)
deriving DecidableEq, Repr

/-- The commands. A C-port frame command carries the frame's source and tag and, where the row does not fix
it, its destination; a management command carries the bytes that follow its request code (R183). -/
inductive Instr where
  | powerOnReset (addr : BitVec 7) (rate : BitVec 2) (imgIgn : Bool)
  | startUp
  | frameDiscard (p : Port) (e : FrameEnd)
  | interCharacterGap (p : Port)
  | transmitStart (p : Port)
  | sendCompletion (p : Port)
  | controllerPoll (src dst tag : Byte)
  | setIntake (src dst tag : Byte) (r : SetRec)
  | pollOfGate (src tag : Byte)
  | gateSetOrTime (src tag : Byte) (w : GateWord)
  | unexpectedFrame (f : Frame)
  | timeBroadcast (src tag : Byte) (week : BitVec 32)
  | broadcastSet (src tag : Byte) (r : SetRec)
  | reply (f : Frame)
  | strayFrame (f : Frame)
  | unsolicitedFrame (f : Frame)
  | fPortMgmt (f : Frame)
  | replyDeadline
  | gapEnd
  | followUpDue (a : Nat)
  | lockExpiry (a : Nat)
  | delayedDiscard (k : DelayKey)
  | stopTimeout (a : Nat)
  | startTimeout (a : Nat)
  | soundingEnd (z : Nat)
  | protectionTime (a : Nat)
  | wakeDueExpiry (a : Nat)
  | minuteBoundary
  | scanWaitEnd
  | storeCompletion (ok : Bool)
  | warmResetApplied
  | readStation (src tag : Byte) (fields : List Byte)
  | writeStationPolicy (src tag : Byte) (fields : List Byte)
  | holdAwake (src tag : Byte) (fields : List Byte)
  | release (src tag : Byte) (fields : List Byte)
  | clearFault (src tag : Byte) (fields : List Byte)
  | readStatistics (src tag : Byte) (fields : List Byte)
  | clearStatistics (src tag : Byte) (fields : List Byte)
  | readGroup (src tag : Byte) (fields : List Byte)
  | writeGroup (src tag : Byte) (fields : List Byte)
  | readWindow (src tag : Byte) (fields : List Byte)
  | writeWindow (src tag : Byte) (fields : List Byte)
  | readZone (src tag : Byte) (fields : List Byte)
  | writeZone (src tag : Byte) (fields : List Byte)
  | setClock (src tag : Byte) (fields : List Byte)
  | setMode (src tag : Byte) (fields : List Byte)
  | wakeZones (src tag : Byte) (fields : List Byte)
  | readScanList (src tag : Byte) (fields : List Byte)
  | writeScanList (src tag : Byte) (fields : List Byte)
  | scanStart (src tag : Byte) (fields : List Byte)
  | scanStop (src tag : Byte) (fields : List Byte)
  | readGateParameters (src tag : Byte) (fields : List Byte)
  | writeGateParameters (src tag : Byte) (fields : List Byte)
  | ackAttention (src tag : Byte) (fields : List Byte)
  | readLastLost (src tag : Byte) (fields : List Byte)
  | unlock (src tag : Byte) (fields : List Byte)
  | lock (src tag : Byte) (fields : List Byte)
  | setAccessCode (src tag : Byte) (fields : List Byte)
  | freeze (src tag : Byte) (fields : List Byte)
  | save (src tag : Byte) (fields : List Byte)
  | warmReset (src tag : Byte) (fields : List Byte)
  | completedCharacter (p : Port) (x : Samples)
  | unknownRequestCode (src tag code : Byte) (fields : List Byte)
deriving DecidableEq, Repr

end Sys2Proof
end

