-- ==== Sys2Proof/Decode.lean ====
section
/-! DEFINITION. The words of the opcode table: no row of spec/opcode_table.json has bits, so no word spells a
command. Commands reach the block as line characters and frames, whose formats are in Machine/Operands.lean. -/

namespace Sys2Proof

/-- The command a word of the table spells: none, for the table gives no row any bits. -/
def decodeTableWord (_nbits _w : Nat) : Option Instr := none

end Sys2Proof
end

