-- ==== Sys2Proof/Machine/State.lean ====
section
/-! DEFINITION. The state of the gate as plain data: every register, queue, table, counter and mark the spec
gives it, the working tables apart from the runtime, and the queue of waiting commands. Times are readings of
the monotonic counter in milliseconds, but for those of the line, which are in line units (log 3). -/

namespace Sys2Proof.Machine

/-- No command of this block stops the machine with a fault: the spec gives every event an effect. -/
inductive Fault where
deriving DecidableEq, Repr

/-- Why a command has no meaning. -/
inductive Refusal where
  /-- A row of the table that has no meaning yet, by its mnemonic; raised by `exec` alone. Safe. -/
  | notModelled (mnemonic : String)
deriving DecidableEq, Repr

/-! ## Ports (R4, R10, R12) -/

/-- A frame in progress (R4); its count is the number of its characters. -/
structure FrameInProgress where
  chars : List Byte
  firstErr : Option CharError
  /-- When the last character ended, in line units. -/
  lastEnd : Nat
deriving DecidableEq, Repr

/-- Frame states of a receiver (R4). -/
inductive RxState where
  | hunting
  | assembling (p : FrameInProgress)
deriving DecidableEq, Repr

/-- States of a transmitter and its slot (R12); `ends` is when the last stop bit goes out, in line units. -/
inductive TxState where
  | idle
  | deferring (f : Frame)
  | sending (f : Frame) (ends : Nat)
deriving DecidableEq, Repr

/-- The seven discard counters of a port (R10). -/
structure LineCounters where
  framing : Nat
  parity : Nat
  timeout : Nat
  cutOff : Nat
  length : Nat
  crc : Nat
  shape : Nat
deriving DecidableEq, Repr

def LineCounters.zero : LineCounters := ⟨0, 0, 0, 0, 0, 0, 0⟩

/-- One line port: receiver, transmitter, counters. -/
structure PortState where
  rx : RxState
  tx : TxState
  cnt : LineCounters
deriving DecidableEq, Repr

def PortState.reset : PortState := ⟨.hunting, .idle, .zero⟩

/-- Values sampled from the strap pins (R20). -/
structure Straps where
  /-- The gate's bus address, 1..127. -/
  addr : Nat
  /-- The line rate, 0..3. -/
  rate : Nat
  imgIgn : Bool
deriving DecidableEq, Repr

/-! ## Forwarding (R28 to R47) -/

/-- What a posted or held entry carries: a set record, or the week time of a TIME broadcast (R28, R44). -/
inductive Posting where
  | set (r : SetRec)
  | time (week : BitVec 32)
deriving DecidableEq, Repr

/-- An entry of the posted buffer or of a hold list (R28, R31). -/
structure Entry where
  /-- Order of delivery to the Forwarding unit (R37). -/
  seq : Nat
  src : Byte
  dst : Byte
  tag : Byte
  what : Posting
  acceptedAt : Nat
  attempts : Nat
deriving DecidableEq, Repr

/-- A stored result (R40). -/
inductive Result where
  | frame (f : Frame)
  | noReply
deriving DecidableEq, Repr

/-- State of a delayed entry (R38). -/
inductive DelayState where
  | queued
  | inFlight
  | done (r : Result) (time : Nat)
deriving DecidableEq, Repr

/-- A used entry of the delayed-transaction table (R38); a POLL carries no payload. -/
structure Delayed where
  key : DelayKey
  src : Byte
  payload : Option SetRec
  st : DelayState
  allocAt : Nat
  /-- Order of delivery to the Forwarding unit (R37). -/
  seq : Nat
deriving DecidableEq, Repr

/-- Cause of a loss (R30, R184). -/
inductive LostCause where
  | none
  | refused
  | noReply
  | reset
deriving DecidableEq, Repr

/-- The last-lost record (R30). -/
structure LastLost where
  station : Nat
  tag : Byte
  action : Action
  cause : LostCause
  stationCause : Byte
deriving DecidableEq, Repr

/-- The seven forwarding counters (R45). -/
structure FwdCounters where
  lost : Nat
  coalesced : Nat
  noopDrop : Nat
  rewrite : Nat
  broadcastDrop : Nat
  delayedDiscard : Nat
  unexpected : Nat
deriving DecidableEq, Repr

/-- The Forwarding unit. -/
structure Fwd where
  posted : List Entry
  delayed : List Delayed
  lastLost : LastLost
  cnt : FwdCounters
  /-- Next order number of an accepted or filed request (log 9). -/
  seq : Nat
deriving DecidableEq, Repr

def Fwd.reset : Fwd :=
  { posted := [], delayed := [], lastLost := ⟨0, 0, .noop, .none, 0⟩, cnt := ⟨0, 0, 0, 0, 0, 0, 0⟩, seq := 0 }

/-! ## Field line master (R48) -/

/-- The four request classes (03, section 3.2). -/
inductive ReqClass where
  | r
  | p
  | g
  | s
deriving DecidableEq, Repr

/-- The gate's own requests for a station (R57). -/
inductive GateReq where
  | park
  | wake
  | followUp
deriving DecidableEq, Repr

/-- Which request an exchange carries (R48). -/
inductive ReqRef where
  | delayed (k : DelayKey)
  | entry (seq : Nat)
  | gate (a : Nat) (q : GateReq)
  | scan (a : Nat)
deriving DecidableEq, Repr

/-- The current exchange (R48). The reply kinds that fit it are those of its frame's kind (R50). -/
structure Exchange where
  cls : ReqClass
  req : ReqRef
  frame : Frame
deriving DecidableEq, Repr

/-- Exchange states of the master (R48); deadline and gap end in line units. -/
inductive MasterState where
  | idle
  | sending (x : Exchange)
  | awaitReply (x : Exchange) (deadline : Nat)
  | gap (x : Exchange) (ends : Nat)
deriving DecidableEq, Repr

/-- The Field line master (R48). -/
structure Master where
  st : MasterState
  gPass : Nat
  sPass : Nat
  gateTag : Byte
  stray : Nat
  unsolicited : Nat
  replyTimeouts : Nat
  fMgmt : Nat
deriving DecidableEq, Repr

def Master.reset : Master := ⟨.idle, 0, 0, 0, 0, 0, 0, 0⟩

/-! ## Station records (R67 to R70, R101) -/

inductive StationClass where
  | absent
  | pass
  | managed
deriving DecidableEq, Repr

/-- The policy part of a record (R68). -/
structure Policy where
  cls : StationClass
  nonPosted : Bool
  setpointWakes : Bool
  wakeAtClose : Bool
  zone : Nat
  tIdle : Nat
  tBusy : Nat
  wBase : Nat
  wSlope : Nat
  drain : Nat
  cPark : Nat
  minRun : Nat
  minOff : Nat
  startsLimit : Nat
  stopTimeout : Nat
  startTimeout : Nat
  parkHorizon : Nat
  wakeLead : Nat
  weight : Nat
  rated : Nat
  failLimit : Nat
deriving DecidableEq, Repr

/-- The defaults of R68. -/
def Policy.default : Policy :=
  { cls := .pass, nonPosted := false, setpointWakes := false, wakeAtClose := false, zone := 0, tIdle := 0,
    tBusy := 1000, wBase := 1, wSlope := 0, drain := 0, cPark := 65535, minRun := 0, minOff := 0,
    startsLimit := 0, stopTimeout := 60, startTimeout := 60, parkHorizon := 0, wakeLead := 0, weight := 0,
    rated := 0, failLimit := 0 }

/-- The eight station states (R70). -/
inductive StState where
  | unknown
  | free
  | parkQueued
  | parking
  | parked
  | wakeQueued
  | waking
  | faulted
deriving DecidableEq, Repr

/-- Phases of a park or wake operation (R69). -/
inductive Phase where
  | none
  | command
  | coast
  | warn
  | settle
deriving DecidableEq, Repr

inductive Shadow where
  | unset
  | run
  | stop
deriving DecidableEq, Repr

/-- Fault causes (R69). -/
inductive FaultCause where
  | parkNoReply
  | parkTimeout
  | wakeNoReply
  | wakeRefused
  | wakeTimeout
  | stationFault
  | supportFault
deriving DecidableEq, Repr

/-- The snapshot of the latest observation (R69, R72); its load is clamped to 1000. -/
structure Snapshot where
  run : RunState
  cause : StopCause
  load : Nat
  aux : Nat
  ready : Bool
deriving DecidableEq, Repr

/-- The nine statistics (R101). -/
structure Stats where
  parks : Nat
  wakes : Nat
  parkRefusals : Nat
  parkFailures : Nat
  wakeFailures : Nat
  localOverrides : Nat
  busyResets : Nat
  parkedSeconds : Nat
  energy : Nat
deriving DecidableEq, Repr

def Stats.zero : Stats := ⟨0, 0, 0, 0, 0, 0, 0, 0, 0⟩

/-- The runtime and statistics parts of a station record (R69, R101), with its scan-miss count (10). -/
structure Station where
  state : StState
  phase : Phase
  shadow : Shadow
  credit : Nat
  lastObs : Nat
  remainder : Nat
  snapshot : Option Snapshot
  seen : Option Nat
  notFresh : Bool
  /-- Lock sequence: open until the expiry time it holds, or closed (R27). -/
  lock : Option Nat
  exempt : Bool
  autoExempt : Bool
  demand : Bool
  attempts : Nat
  phaseDeadline : Option Nat
  nextFollowUp : Option Nat
  parkMark : Option Nat
  parkedSince : Option Nat
  wakeDue : Option Nat
  /-- Start history, oldest first (R74). -/
  starts : List Nat
  lastStart : Option Nat
  /-- Hold list, oldest first (R31). -/
  hold : List Entry
  fault : Option FaultCause
  /-- When this park operation's first PARK was granted, in line units: rank 3 of R57 (log 13). -/
  firstSent : Option Nat
  /-- When this wake's zone warning was satisfied: rank 1 of R57 (R154, log 13). -/
  satisfiedAt : Option Nat
  stats : Stats
  scanMiss : Nat
deriving DecidableEq, Repr

/-- A record after a power-on reset (R89, R180). -/
def Station.reset : Station :=
  { state := .unknown, phase := .none, shadow := .unset, credit := 0, lastObs := 0, remainder := 0,
    snapshot := none, seen := none, notFresh := false, lock := none, exempt := false, autoExempt := false,
    demand := false, attempts := 0, phaseDeadline := none, nextFollowUp := none, parkMark := none,
    parkedSince := none, wakeDue := none, starts := [], lastStart := none, hold := [], fault := none,
    firstSent := none, satisfiedAt := none, stats := .zero, scanMiss := 0 }

/-! ## Tables written by management -/

/-- A group table entry as written (R126). -/
inductive Group where
  | empty
  | quorum (members : List Nat) (k ref pLow pRestore : Nat)
  | support (supporters supported : List Nat)
deriving DecidableEq, Repr

/-- A window table entry (R167). -/
structure Window where
  zoneMask : Nat
  dayMask : Nat
  openMin : Nat
  closeMin : Nat
deriving DecidableEq, Repr

inductive Pattern where
  | steady
  | slow
  | fast
deriving DecidableEq, Repr

/-- The configured fields of a zone record (R150). -/
structure ZoneCfg where
  warnTime : Nat
  pattern : Pattern
deriving DecidableEq, Repr

inductive ScanMode where
  | single
  | sequence
  | repeating
deriving DecidableEq, Repr

/-- The scan list and the six scanner parameters (R175). -/
structure ScanCfg where
  slots : Vector Nat 32
  len : Nat
  mode : ScanMode
  startIdx : Nat
  spacing : Nat
  period : Nat
  freshWindow : Nat
  autoStart : Bool
deriving DecidableEq, Repr

/-- The four gate parameters (R186). -/
structure GateParams where
  budget : Nat
  parkLimit : Nat
  replyTimeout : Nat
  takeTime : Bool
deriving DecidableEq, Repr

/-- The working tables: what management configures and SAVE stores (R190), the mode apart. -/
structure Tables where
  policies : Vector Policy 127
  groups : Vector Group 32
  windows : Vector Window 16
  zones : Vector ZoneCfg 8
  scan : ScanCfg
  params : GateParams
  /-- The access code, sixteen bytes; all zeros means no code (R187). -/
  code : List Byte
deriving DecidableEq, Repr

/-- The access code that means no code (R187). -/
def noCode : List Byte := List.replicate 16 0

/-- The defaults of every table (R68, R126, R150, R167, R175, R186, R188). -/
def Tables.default : Tables :=
  { policies := .replicate 127 .default
    groups := .replicate 32 .empty
    windows := .replicate 16 ⟨0, 0, 0, 0⟩
    zones := .replicate 8 ⟨0, .steady⟩
    scan := { slots := .replicate 32 0, len := 0, mode := .repeating, startIdx := 0, spacing := 100,
              period := 60, freshWindow := 10, autoStart := false }
    params := { budget := 8, parkLimit := 2, replyTimeout := 20, takeTime := true }
    code := noCode }

/-! ## Time, mode, zones, scanner, management -/

/-- The week clock (R163). -/
structure Clock where
  valid : Bool
  base : Nat
  baseAt : Nat
deriving DecidableEq, Repr

/-- The gate mode (R173). -/
inductive Mode where
  | pass
  | active
  | draining
deriving DecidableEq, Repr

/-- A sounding in progress: its start, its end and the pattern it keeps (R150). -/
structure Sounding where
  start : Nat
  ends : Nat
  pattern : Pattern
deriving DecidableEq, Repr

/-- The runtime fields of a zone record (R150): the line is SOUNDING while a sounding is present. -/
structure Zone where
  sounding : Option Sounding
  warnedUntil : Nat
deriving DecidableEq, Repr

inductive ScanState where
  | idle
  | scanning
  | waiting
deriving DecidableEq, Repr

/-- The night scanner's runtime (10, opening; R176 to R180). -/
structure Scanner where
  st : ScanState
  pos : Nat
  passStart : Nat
  waitEnd : Option Nat
  stopPending : Bool
  /-- The mode of the scan under way (R176, log 15). -/
  running : ScanMode
  freshSkips : Nat
deriving DecidableEq, Repr

def Scanner.reset : Scanner := ⟨.idle, 0, 0, none, false, .repeating, 0⟩

/-- Access states (R187). -/
inductive Access where
  | isOpen
  | locked
  | unlocked
  | frozen
deriving DecidableEq, Repr

/-- The eight sticky attention flags (R189); the two level flags are their conditions (log 23). -/
structure Attention where
  imageInvalid : Bool
  stationFault : Bool
  parkLimit : Bool
  postedLost : Bool
  broadcastDropped : Bool
  groupStarved : Bool
  lineErrors : Bool
  saveFailed : Bool
deriving DecidableEq, Repr

def Attention.clear : Attention := ⟨false, false, false, false, false, false, false, false⟩

/-- The contents of the stored image (R190). -/
structure Image where
  cfg : Tables
  mode : Mode
deriving DecidableEq, Repr

/-- The warm-reset drain (R47, R192): whether it runs, and whether its ACCEPTED has been sent. -/
inductive Drain where
  | off
  | running (acceptedSent : Bool)
deriving DecidableEq, Repr

/-! ## The whole state -/

/-- Everything the spec gives the gate, and the queue of waiting commands. -/
structure State where
  /-- The ports are on the line: start-up has ended and no power-on reset is held (R14). -/
  online : Bool
  straps : Straps
  /-- The monotonic counter, ms (R162). -/
  mono : Nat
  /-- Line units elapsed in the counter's present millisecond (log 3). -/
  frac : Nat
  cport : PortState
  fport : PortState
  /-- Answers waiting for the C-port slot, oldest first (R22). -/
  answers : List Frame
  fwd : Fwd
  master : Master
  /-- Records of the addresses 1..127, in address order (R67). -/
  stations : Vector Station 127
  parkQ : List Nat
  demandQ : List Nat
  schedQ : List Nat
  /-- Starved flag of each group entry (R126). -/
  starved : Vector Bool 32
  zones : Vector Zone 8
  clock : Clock
  mode : Mode
  /-- TIME-range count (R166). -/
  timeRange : Nat
  scan : Scanner
  cfg : Tables
  access : Access
  /-- Unlock attempts left (R187). -/
  unlocks : Nat
  flags : Attention
  image : Image
  imageValid : Bool
  /-- The contents fixed for a store write under way; absent while the save state is IDLE (R190). -/
  saving : Option Image
  drain : Drain
  /-- Commands waiting to be taken, first in, first out. -/
  pending : List Instr
deriving DecidableEq, Repr

/-- After a power-on reset and a start-up that loads defaults (R191): straps all low (log 4), an image never
written (log 7), nothing pending. -/
def State.reset : State :=
  { online := true
    straps := ⟨127, 0, false⟩
    mono := 0
    frac := 0
    cport := .reset
    fport := .reset
    answers := []
    fwd := .reset
    master := .reset
    stations := .replicate 127 .reset
    parkQ := []
    demandQ := []
    schedQ := []
    starved := .replicate 32 false
    zones := .replicate 8 ⟨none, 0⟩
    clock := ⟨false, 0, 0⟩
    mode := .pass
    timeRange := 0
    scan := .reset
    cfg := .default
    access := .isOpen
    unlocks := 4
    flags := { Attention.clear with imageInvalid := true }
    image := ⟨.default, .pass⟩
    imageValid := false
    saving := none
    drain := .off
    pending := [] }

end Sys2Proof.Machine
end

