-- ==== Sys2Proof/Machine/Operands.lean ====
section
/-! DEFINITION. The formats of 01 and 11 as operand forms: the bits and samples of a character, the frame with
its CRC-16 and shape, and the coded fields of records and requests. -/

namespace Sys2Proof

/-! ## Multi-byte fields, high byte first (01, section 1.4) -/

/-- The byte of a count or code. -/
def byte (n : Nat) : Byte := BitVec.ofNat 8 n

/-- Two bytes, high byte first. -/
def be16 (n : Nat) : List Byte := [byte (n / 256), byte n]

/-- Four bytes, high byte first. -/
def be32 (n : Nat) : List Byte := be16 (n / 65536) ++ be16 n

/-- Six bytes, high byte first. -/
def be48 (n : Nat) : List Byte := be16 (n / 4294967296) ++ be32 n

/-- The value of bytes sent high byte first. -/
def beVal (bs : List Byte) : Nat := bs.foldl (fun n b => n * 256 + b.toNat) 0

def flagByte (b : Bool) : Byte := if b then 1 else 0

/-- A one-byte flag: 0 or 1. -/
def flagOf (b : Byte) : Option Bool :=
  match b.toNat with
  | 0 => some false
  | 1 => some true
  | _ => none

/-! ## Characters (R1 to R3) -/

/-- The majority of the three samples of bit time `i` (R2): a start bit is valid when this is low. -/
def sampled (x : Samples) (i : Nat) : Bool :=
  (x.getLsbD (3 * i) && x.getLsbD (3 * i + 1)) || (x.getLsbD (3 * i) && x.getLsbD (3 * i + 2))
    || (x.getLsbD (3 * i + 1) && x.getLsbD (3 * i + 2))

/-- A completed character as read: its data bits, its marker and the error it carries (R3). -/
structure CharRead where
  data : Byte
  marker : Bool
  err : Option CharError
deriving DecidableEq, Repr

/-- The data bits, bit times 1 to 8, least significant first (R1). -/
def sampledData (x : Samples) : Byte :=
  BitVec.ofNat 8 ((List.range 8).foldl (fun n i => n + (if sampled x (i + 1) then 2 ^ i else 0)) 0)

/-- Ones over data, marker and parity, bit times 1 to 10 (R3). -/
def sampledOnes (x : Samples) : Nat :=
  (List.range 10).foldl (fun n i => n + (if sampled x (i + 1) then 1 else 0)) 0

/-- Start test and reading of one character (R2, R3): `none` is a false start. -/
def readChar (x : Samples) : Option CharRead :=
  if sampled x 0 then none
  else
    some
      { data := sampledData x
        marker := sampled x 9
        err :=
          if sampled x 11 = false then some .framing
          else if sampledOnes x % 2 = 1 then some .parity
          else none }

/-- The twelve bit times of a character the gate sends (R1), bit time 0 first. -/
def charBits (d : Byte) (marker : Bool) : List Bool :=
  let data := (List.range 8).map (fun i => d.getLsbD i)
  let parity := ((data.countP id) + (if marker then 1 else 0)) % 2 = 1
  false :: data ++ [marker, parity, true]

/-- The samples of a character whose twelve bit times are read cleanly. -/
def cleanSamples (bits : List Bool) : Samples :=
  BitVec.ofNat 36 (bits.foldr (fun b n => n * 8 + (if b then 7 else 0)) 0)

/-! ## CRC-16 (R7) -/

/-- One bit of the CRC register: polynomial 0x1021, most significant bit first. -/
def crcBit (c : BitVec 16) : BitVec 16 :=
  if c.getLsbD 15 then (c <<< 1) ^^^ 0x1021#16 else c <<< 1

/-- One byte into the CRC register. -/
def crcByte (c : BitVec 16) (b : Byte) : BitVec 16 :=
  Nat.repeat crcBit 8 (c ^^^ (b.setWidth 16 <<< 8))

/-- CRC-16 of a run of bytes: register preset to 0xFFFF, no reflection, no final inversion (R7). -/
def crc16 (bs : List Byte) : BitVec 16 := bs.foldl crcByte 0xFFFF#16

/-! ## Coded fields of the records (01, section 1.4) -/

def RunState.code : RunState → Byte
  | .stopped => 0 | .starting => 1 | .running => 2 | .stopping => 3

def RunState.ofCode (b : Byte) : Option RunState :=
  match b.toNat with
  | 0 => some .stopped | 1 => some .starting | 2 => some .running | 3 => some .stopping
  | _ => none

def StopCause.code : StopCause → Byte
  | .none => 0 | .commanded => 1 | .parked => 2 | .localStop => 3 | .fault => 4

def StopCause.ofCode (b : Byte) : Option StopCause :=
  match b.toNat with
  | 0 => some .none | 1 => some .commanded | 2 => some .parked | 3 => some .localStop
  | 4 => some .fault
  | _ => Option.none

def Action.code : Action → Byte
  | .noop => 0 | .run => 1 | .stop => 2 | .jog => 3 | .setpoint => 4 | .park => 5 | .wake => 6

def Action.ofCode (b : Byte) : Option Action :=
  match b.toNat with
  | 0 => some .noop | 1 => some .run | 2 => some .stop | 3 => some .jog | 4 => some .setpoint
  | 5 => some .park | 6 => some .wake
  | _ => none

/-- The ready bit of a station status record (R16). -/
def StatusRec.ready (r : StatusRec) : Bool := r.flags.getLsbD 0

def StatusRec.bytes (r : StatusRec) : List Byte :=
  [r.run.code, r.cause.code] ++ be16 r.load.toNat ++ be16 r.aux.toNat ++ [r.flags, r.spare]

def StatusRec.ofBytes : List Byte → Option StatusRec
  | [b0, b1, b2, b3, b4, b5, b6, b7] =>
    match RunState.ofCode b0, StopCause.ofCode b1 with
    | some run, some cause =>
      some ⟨run, cause, BitVec.ofNat 16 (beVal [b2, b3]), BitVec.ofNat 16 (beVal [b4, b5]), b6, b7⟩
    | _, _ => none
  | _ => none

def SetRec.bytes (r : SetRec) : List Byte :=
  [r.action.code, flagByte r.lock] ++ be16 r.arg.toNat

def SetRec.ofBytes : List Byte → Option SetRec
  | [b0, b1, b2, b3] =>
    match Action.ofCode b0, flagOf b1 with
    | some action, some lock => some ⟨action, lock, BitVec.ofNat 16 (beVal [b2, b3])⟩
    | _, _ => none
  | _ => none

/-! ## Frames (01, sections 1.2 and 1.4) -/

/-- Frame kind codes. -/
def Body.kind : Body → Byte
  | .poll => 1
  | .status _ => 2
  | .gateStatus _ => 2
  | .set _ => 3
  | .ack _ => 4
  | .nak _ => 5
  | .time _ => 6
  | .mgmt _ => 7
  | .mreply _ => 8

def Body.payload : Body → List Byte
  | .poll => []
  | .status r => r.bytes
  | .gateStatus bs => bs
  | .set r => r.bytes
  | .ack c => [c]
  | .nak c => [c]
  | .time w => be32 w.toNat
  | .mgmt bs => bs
  | .mreply bs => bs

/-- Kind, length and coded fields of a received payload against the table of R8: `none` is ill-formed. -/
def Body.ofPayload (kind : Byte) (bs : List Byte) : Option Body :=
  match kind.toNat with
  | 1 => if bs = [] then some .poll else none
  | 2 => (StatusRec.ofBytes bs).map .status
  | 3 => (SetRec.ofBytes bs).map .set
  | 4 =>
    match bs with
    | [c] => if c.toNat ≤ 1 then some (.ack c) else none
    | _ => none
  | 5 =>
    match bs with
    | [c] => some (.nak c)
    | _ => none
  | 6 => if bs.length = 4 then some (.time (BitVec.ofNat 32 (beVal bs))) else none
  | 7 => if 1 ≤ bs.length ∧ bs.length ≤ 32 then some (.mgmt bs) else none
  | 8 => if 2 ≤ bs.length ∧ bs.length ≤ 32 then some (.mreply bs) else none
  | _ => none

/-- Everything of a frame before its check (01, Frame layout). -/
def Frame.head (f : Frame) : List Byte :=
  [f.dst, f.src, f.body.kind, f.tag, byte f.body.payload.length] ++ f.body.payload

/-- The characters of a frame, its check recomputed (R7, R15). -/
def Frame.bytes (f : Frame) : List Byte := f.head ++ be16 (crc16 f.head).toNat

/-- Characters of a frame on the line: length plus 7. -/
def Frame.chars (f : Frame) : Nat := f.body.payload.length + 7

/-- What the test of a complete frame finds (R7, R8). -/
inductive FrameTest where
  | valid (f : Frame)
  | bad (cause : EndCause)
deriving DecidableEq, Repr

/-- The shape test of R8, on a frame whose check is good. -/
def shapeTest (dst src kind tag : Byte) (payload : List Byte) : FrameTest :=
  if dst.toNat > 127 ∨ src.toNat = 0 ∨ src.toNat > 127 then .bad .shape
  else
    match Body.ofPayload kind payload with
    | none => .bad .shape
    | some b => .valid ⟨dst, src, tag, b⟩

/-- The CRC test and the shape test of a frame of `length + 7` characters without a character error (R7). -/
def frameTest (chars : List Byte) : FrameTest :=
  match chars with
  | dst :: src :: kind :: tag :: len :: rest =>
    if (crc16 (chars.take (len.toNat + 5))).toNat ≠ beVal (chars.drop (len.toNat + 5)) then .bad .crc
    else shapeTest dst src kind tag (rest.take len.toNat)
  | _ => .bad .crc

/-- Whether a frame given whole fits R8: the addresses, and a payload its kind allows on receipt. -/
def Frame.shapeOk (f : Frame) : Bool :=
  f.dst.toNat ≤ 127 && 1 ≤ f.src.toNat && f.src.toNat ≤ 127
    && decide (Body.ofPayload f.body.kind f.body.payload = some f.body)

namespace Machine

/-! ## NAK causes (01, ACK and NAK causes) -/

def nakRetry : Byte := 0xE1
def nakBusy : Byte := 0xE2
def nakHeldFull : Byte := 0xE3
def nakParkedWaking : Byte := 0xE4
def nakConflict : Byte := 0xE5
def nakReservedAction : Byte := 0xE6
def nakNoReply : Byte := 0xE7

/-- ACK cause of an accepted posted SET (R15). -/
def ackPosted : Byte := 1

/-! ## Management requests and results (01, Management request and reply) -/

/-- The thirty requests. -/
inductive Req where
  | readStation | writeStationPolicy | holdAwake | release | clearFault | readStatistics | clearStatistics
  | readGroup | writeGroup | readWindow | writeWindow | readZone | writeZone | setClock | setMode | wakeZones
  | readScanList | writeScanList | scanStart | scanStop | readGateParameters | writeGateParameters
  | ackAttention | readLastLost | unlock | lock | setAccessCode | freeze | save | warmReset
deriving DecidableEq, Repr

def Req.code : Req → Byte
  | .readStation => 0x10 | .writeStationPolicy => 0x11 | .holdAwake => 0x12 | .release => 0x13
  | .clearFault => 0x14 | .readStatistics => 0x15 | .clearStatistics => 0x16
  | .readGroup => 0x20 | .writeGroup => 0x21
  | .readWindow => 0x30 | .writeWindow => 0x31 | .readZone => 0x32 | .writeZone => 0x33
  | .setClock => 0x34 | .setMode => 0x35 | .wakeZones => 0x36
  | .readScanList => 0x40 | .writeScanList => 0x41 | .scanStart => 0x42 | .scanStop => 0x43
  | .readGateParameters => 0x50 | .writeGateParameters => 0x51 | .ackAttention => 0x52 | .readLastLost => 0x53
  | .unlock => 0x60 | .lock => 0x61 | .setAccessCode => 0x62 | .freeze => 0x63
  | .save => 0x70 | .warmReset => 0x71

def Req.ofCode (b : Byte) : Option Req :=
  match b.toNat with
  | 0x10 => some .readStation | 0x11 => some .writeStationPolicy | 0x12 => some .holdAwake
  | 0x13 => some .release | 0x14 => some .clearFault | 0x15 => some .readStatistics
  | 0x16 => some .clearStatistics
  | 0x20 => some .readGroup | 0x21 => some .writeGroup
  | 0x30 => some .readWindow | 0x31 => some .writeWindow | 0x32 => some .readZone | 0x33 => some .writeZone
  | 0x34 => some .setClock | 0x35 => some .setMode | 0x36 => some .wakeZones
  | 0x40 => some .readScanList | 0x41 => some .writeScanList | 0x42 => some .scanStart
  | 0x43 => some .scanStop
  | 0x50 => some .readGateParameters | 0x51 => some .writeGateParameters | 0x52 => some .ackAttention
  | 0x53 => some .readLastLost
  | 0x60 => some .unlock | 0x61 => some .lock | 0x62 => some .setAccessCode | 0x63 => some .freeze
  | 0x70 => some .save | 0x71 => some .warmReset
  | _ => none

/-- Result codes of an MREPLY. -/
inductive Res where
  | ok | accepted | unknownRequest | badLength | range | access | frozen | badCode | busy | stationState
  | groupLimit | groupCycle
deriving DecidableEq, Repr

def Res.code : Res → Byte
  | .ok => 0 | .accepted => 1 | .unknownRequest => 2 | .badLength => 3 | .range => 4 | .access => 5
  | .frozen => 6 | .badCode => 7 | .busy => 8 | .stationState => 9 | .groupLimit => 10 | .groupCycle => 11

/-! ## Codes of request fields and reply data (R183, R184) -/

def StationClass.code : StationClass → Byte
  | .absent => 0 | .pass => 1 | .managed => 2

def StationClass.ofCode (b : Byte) : Option StationClass :=
  match b.toNat with
  | 0 => some .absent | 1 => some .pass | 2 => some .managed
  | _ => none

def Pattern.code : Pattern → Byte
  | .steady => 0 | .slow => 1 | .fast => 2

def Pattern.ofCode (b : Byte) : Option Pattern :=
  match b.toNat with
  | 0 => some .steady | 1 => some .slow | 2 => some .fast
  | _ => none

def ScanMode.code : ScanMode → Byte
  | .single => 0 | .sequence => 1 | .repeating => 2

def ScanMode.ofCode (b : Byte) : Option ScanMode :=
  match b.toNat with
  | 0 => some .single | 1 => some .sequence | 2 => some .repeating
  | _ => none

def ScanState.code : ScanState → Byte
  | .idle => 0 | .scanning => 1 | .waiting => 2

def StState.code : StState → Byte
  | .unknown => 0 | .free => 1 | .parkQueued => 2 | .parking => 3 | .parked => 4 | .wakeQueued => 5
  | .waking => 6 | .faulted => 7

def Phase.code : Phase → Byte
  | .none => 0 | .command => 1 | .coast => 2 | .warn => 3 | .settle => 4

def Shadow.code : Shadow → Byte
  | .unset => 0 | .run => 1 | .stop => 2

def FaultCause.code : FaultCause → Byte
  | .parkNoReply => 1 | .parkTimeout => 2 | .wakeNoReply => 3 | .wakeRefused => 4 | .wakeTimeout => 5
  | .stationFault => 6 | .supportFault => 7

def LostCause.code : LostCause → Byte
  | .none => 0 | .refused => 1 | .noReply => 2 | .reset => 3

def Mode.code : Mode → Byte
  | .pass => 0 | .active => 1 | .draining => 2

def Access.code : Access → Byte
  | .isOpen => 0 | .locked => 1 | .unlocked => 2 | .frozen => 3

/-- The ranges of R68. -/
def Policy.inRange (p : Policy) : Bool :=
  p.zone ≤ 7 && p.tIdle ≤ 999 && p.tIdle + 1 ≤ p.tBusy && p.tBusy ≤ 1000 && 1 ≤ p.wBase && p.wBase ≤ 8
    && p.wSlope ≤ 8 && p.drain ≤ 255 && 1 ≤ p.cPark && p.cPark ≤ 65535 && p.minRun ≤ 3600
    && p.minOff ≤ 3600 && p.startsLimit ≤ 6 && 1 ≤ p.stopTimeout && p.stopTimeout ≤ 255
    && 1 ≤ p.startTimeout && p.startTimeout ≤ 255 && p.parkHorizon ≤ 240 && p.wakeLead ≤ 240
    && p.weight ≤ 15 && p.rated ≤ 65535 && p.failLimit ≤ 255

/-- The policy body of 27 bytes (R183). -/
def Policy.bytes (p : Policy) : List Byte :=
  [p.cls.code, flagByte p.nonPosted, flagByte p.setpointWakes, flagByte p.wakeAtClose, byte p.zone]
    ++ be16 p.tIdle ++ be16 p.tBusy ++ [byte p.wBase, byte p.wSlope, byte p.drain] ++ be16 p.cPark
    ++ be16 p.minRun ++ be16 p.minOff
    ++ [byte p.startsLimit, byte p.stopTimeout, byte p.startTimeout, byte p.parkHorizon, byte p.wakeLead,
        byte p.weight]
    ++ be16 p.rated ++ [byte p.failLimit]

/-- The policy a body carries: `none` when it has not 27 bytes or a coded field lies outside its list. -/
def Policy.ofBytes : List Byte → Option Policy
  | [b0, b1, b2, b3, b4, b5, b6, b7, b8, b9, b10, b11, b12, b13, b14, b15, b16, b17, b18, b19, b20, b21, b22,
     b23, b24, b25, b26] =>
    match StationClass.ofCode b0, flagOf b1, flagOf b2, flagOf b3 with
    | some cls, some np, some sw, some wc =>
      some
        { cls := cls, nonPosted := np, setpointWakes := sw, wakeAtClose := wc, zone := b4.toNat,
          tIdle := beVal [b5, b6], tBusy := beVal [b7, b8], wBase := b9.toNat, wSlope := b10.toNat,
          drain := b11.toNat, cPark := beVal [b12, b13], minRun := beVal [b14, b15],
          minOff := beVal [b16, b17], startsLimit := b18.toNat, stopTimeout := b19.toNat,
          startTimeout := b20.toNat, parkHorizon := b21.toNat, wakeLead := b22.toNat, weight := b23.toNat,
          rated := beVal [b24, b25], failLimit := b26.toNat }
    | _, _, _, _ => none
  | _ => none

/-- A list of addresses sent in eight slots, the unused ones 0 (R183). -/
def eightSlots (as : List Nat) : List Byte := (as ++ List.replicate 8 0).take 8 |>.map byte

/-- The kind of a group entry. -/
def Group.kind : Group → Byte
  | .empty => 0
  | .quorum .. => 1
  | .support .. => 2

/-- The kind's fields of a group entry (R183). -/
def Group.fields : Group → List Byte
  | .empty => []
  | .quorum ms k ref lo hi =>
    [byte ms.length] ++ eightSlots ms ++ [byte k, byte ref] ++ be16 lo ++ be16 hi
  | .support ps qs => [byte ps.length] ++ eightSlots ps ++ [byte qs.length] ++ eightSlots qs

/-- The addresses a count and its slots name; a count above 8 leaves a list longer than 8 (R138). -/
def namedSlots (count : Byte) (slots : List Byte) : List Nat :=
  if count.toNat ≤ 8 then (slots.take count.toNat).map BitVec.toNat else List.replicate 9 0

/-- A group entry from the bytes after its kind. The length of the bytes has been judged (R183). -/
def Group.ofFields (kind : Byte) (bs : List Byte) : Option Group :=
  match kind.toNat with
  | 0 => some .empty
  | 1 =>
    some (.quorum (namedSlots (bs.getD 0 0) ((bs.drop 1).take 8)) (bs.getD 9 0).toNat (bs.getD 10 0).toNat
      (beVal ((bs.drop 11).take 2)) (beVal ((bs.drop 13).take 2)))
  | 2 =>
    some (.support (namedSlots (bs.getD 0 0) ((bs.drop 1).take 8))
      (namedSlots (bs.getD 9 0) ((bs.drop 10).take 8)))
  | _ => none

def Window.bytes (w : Window) : List Byte :=
  [byte w.zoneMask, byte w.dayMask] ++ be16 w.openMin ++ be16 w.closeMin

/-- The six scanner parameters as the parameter form carries them (R183). -/
def ScanCfg.paramBytes (c : ScanCfg) : List Byte :=
  [c.mode.code, byte c.startIdx] ++ be16 c.spacing ++ be16 c.period ++ [byte c.freshWindow, flagByte c.autoStart]

end Machine

end Sys2Proof
end

