-- ==== Sys2Proof/Machine/Flags.lean ====
section
/-! DEFINITION. The attention flags (R189): raising a sticky flag, the level flags, the bits of the gate status
record and ACK ATTENTION. -/

namespace Sys2Proof.Machine

/-- The sticky attention flags. -/
inductive Flag where
  | imageInvalid
  | stationFault
  | parkLimit
  | postedLost
  | broadcastDropped
  | groupStarved
  | lineErrors
  | saveFailed
deriving DecidableEq, Repr

def Attention.raised (t : Attention) : Flag → Attention
  | .imageInvalid => { t with imageInvalid := true }
  | .stationFault => { t with stationFault := true }
  | .parkLimit => { t with parkLimit := true }
  | .postedLost => { t with postedLost := true }
  | .broadcastDropped => { t with broadcastDropped := true }
  | .groupStarved => { t with groupStarved := true }
  | .lineErrors => { t with lineErrors := true }
  | .saveFailed => { t with saveFailed := true }

/-- Raising a sticky flag; a raised one stays raised (R189). -/
def State.raise (s : State) (f : Flag) : State := { s with flags := s.flags.raised f }

/-- CLOCK_UNSET stands while the week clock is invalid (R163). -/
def State.clockUnset (s : State) : Bool := !s.clock.valid

/-- ACCESS_FROZEN stands while the access state is FROZEN (R187). -/
def State.accessFrozen (s : State) : Bool := s.access = .frozen

/-- The ten flags in their bit positions, bit 0 first (01, Gate status record). -/
def State.attention (s : State) : List Bool :=
  [s.flags.imageInvalid, s.clockUnset, s.flags.stationFault, s.flags.parkLimit, s.flags.postedLost,
   s.flags.broadcastDropped, s.flags.groupStarved, s.flags.lineErrors, s.accessFrozen, s.flags.saveFailed]

/-- The attention field of the gate status record; bits 10 to 15 are 0. -/
def State.attentionBits (s : State) : Nat :=
  s.attention.foldr (fun b n => 2 * n + (if b then 1 else 0)) 0

/-- ACK ATTENTION with a mask (R189): masked sticky flags fall, a level flag follows its condition. -/
def Attention.acked (t : Attention) (mask : Nat) : Attention :=
  { imageInvalid := t.imageInvalid && !mask.testBit 0
    stationFault := t.stationFault && !mask.testBit 2
    parkLimit := t.parkLimit && !mask.testBit 3
    postedLost := t.postedLost && !mask.testBit 4
    broadcastDropped := t.broadcastDropped && !mask.testBit 5
    groupStarved := t.groupStarved && !mask.testBit 6
    lineErrors := t.lineErrors && !mask.testBit 7
    saveFailed := t.saveFailed && !mask.testBit 9 }

end Sys2Proof.Machine
end

