-- ==== Sys2Proof/Machine/Ops.lean ====
section
/-! DEFINITION. The named operations over the state's records, tables and ports that every block uses. -/

namespace Sys2Proof.Machine

/-- A count with a largest value, saturating (00_scope, Saturation). -/
def satAdd (max n k : Nat) : Nat := min (n + k) max

/-- Every station address in rising order (R67). -/
def addresses : List Nat := List.range' 1 127

/-! ## Time -/

/-- "Now": the reading of the monotonic counter (R162). -/
def State.now (s : State) : Nat := s.mono

/-- The same instant in line units (log 3). -/
def State.lineTime (s : State) : Nat := s.mono * Config.unitsPerMs + s.frac

/-- One character time at the sampled line rate (R1). -/
def State.charTime (s : State) : Nat := Config.charUnits s.straps.rate

/-! ## Station records -/

/-- The record at an address; an address without a record reads as one after reset. -/
def State.st (s : State) (a : Nat) : Station :=
  match a with
  | 0 => .reset
  | n + 1 => s.stations[n]?.getD .reset

/-- Replace the record at an address; an address without a record is left out. -/
def State.setSt (s : State) (a : Nat) (r : Station) : State :=
  match a with
  | 0 => s
  | n + 1 => { s with stations := s.stations.setIfInBounds n r }

def State.modSt (s : State) (a : Nat) (f : Station → Station) : State := s.setSt a (f (s.st a))

/-- The policy part at an address (R67). -/
def State.pol (s : State) (a : Nat) : Policy :=
  match a with
  | 0 => .default
  | n + 1 => s.cfg.policies[n]?.getD .default

def State.setPol (s : State) (a : Nat) (p : Policy) : State :=
  match a with
  | 0 => s
  | n + 1 => { s with cfg := { s.cfg with policies := s.cfg.policies.setIfInBounds n p } }

/-- States in which a station is in the gate's hands (R70). -/
def StState.gateHeld : StState → Bool
  | .parking | .parked | .wakeQueued | .waking => true
  | .unknown | .free | .parkQueued | .faulted => false

def State.held (s : State) (a : Nat) : Bool := (s.st a).state.gateHeld

/-- Whether any station is gate-held (R44, R174). -/
def State.anyHeld (s : State) : Bool := addresses.any s.held

/-- Number of stations in a state (R18). -/
def State.count (s : State) (x : StState) : Nat := addresses.countP (fun a => (s.st a).state = x)

/-- The park concurrency count is the number of stations in PARKING (R116, log 12). -/
def State.parkCount (s : State) : Nat := s.count .parking

/-- Inrush in use is the sum of the inrush weights of the stations that are WAKING (R148, log 12). -/
def State.inrush (s : State) : Nat :=
  addresses.foldl (fun n a => if (s.st a).state = .waking then n + (s.pol a).weight else n) 0

def State.anyWaking (s : State) : Bool := addresses.any (fun a => (s.st a).state = .waking)

/-- Warm-reset drain under way (R47). -/
def State.draining (s : State) : Bool := s.drain != .off

/-- Whether the access state refuses nothing of a station name: 1..127 and not the gate's own (R67). -/
def State.named (s : State) (a : Nat) : Bool := 1 ≤ a && a ≤ 127 && a != s.straps.addr

/-! ## Zones, groups, windows -/

def State.zoneCfg (s : State) (z : Nat) : ZoneCfg := s.cfg.zones[z]?.getD ⟨0, .steady⟩

def State.zone (s : State) (z : Nat) : Zone := s.zones[z]?.getD ⟨none, 0⟩

def State.setZone (s : State) (z : Nat) (r : Zone) : State := { s with zones := s.zones.setIfInBounds z r }

/-- Level of output ZWz (R150): low when OFF and from the sounding end on, else by the pattern. DESIGN CHOICE (log
21): low while the gate is held offline, before start-up ends, for which the spec gives no level. -/
def State.zoneOutput (s : State) (z : Nat) : Bool :=
  match (s.zone z).sounding with
  | none => false
  | some x =>
    s.online && s.now < x.ends &&
      match x.pattern with
      | .steady => true
      | .slow => (s.now - x.start) / 500 % 2 = 0
      | .fast => (s.now - x.start) / 125 % 2 = 0

def State.group (s : State) (i : Nat) : Group := s.cfg.groups[i]?.getD .empty

def State.isStarved (s : State) (i : Nat) : Bool := s.starved[i]?.getD false

/-! ## Ports (R4, R10, R12) -/

def State.port (s : State) : Port → PortState
  | .c => s.cport
  | .f => s.fport

def State.setPort (s : State) (p : Port) (q : PortState) : State :=
  match p with
  | .c => { s with cport := q }
  | .f => { s with fport := q }

/-- A port's receiver is on the line: start-up has ended and the port is not sending (R12, R14). -/
def State.listening (s : State) (p : Port) : Bool :=
  s.online &&
    match (s.port p).tx with
    | .sending _ _ => false
    | _ => true

/-- The receiver goes to HUNTING (R4). -/
def State.hunt (s : State) (p : Port) : State := s.setPort p { s.port p with rx := .hunting }

/-- The moment the last stop bit of a frame begun now goes out: its characters back to back (R1, R12). -/
def State.sendEnd (s : State) (f : Frame) : Nat := s.lineTime + f.chars * s.charTime

/-- Offer a frame to an empty slot (R12): sent at once from HUNTING, deferred while ASSEMBLING. -/
def State.offer (s : State) (p : Port) (f : Frame) : State :=
  let q := s.port p
  match q.rx with
  | .hunting => s.setPort p { q with tx := .sending f (s.sendEnd f) }
  | .assembling _ => s.setPort p { q with tx := .deferring f }

/-- One answer of the gate in answer order (R22): offered when the slot is empty and none waits before it. -/
def State.answer (s : State) (f : Frame) : State :=
  match s.cport.tx, s.answers with
  | .idle, [] => s.offer .c f
  | _, _ => { s with answers := s.answers ++ [f] }

/-- An answer the gate builds itself (R15): to the request's source, with its tag, from the gate's address. -/
def State.ownFrame (s : State) (src tag : Byte) (b : Body) : Frame :=
  { dst := src, src := byte s.straps.addr, tag := tag, body := b }

def State.answerOwn (s : State) (src tag : Byte) (b : Body) : State := s.answer (s.ownFrame src tag b)

def LineCounters.counted (c : LineCounters) : EndCause → LineCounters
  | .charError .framing => { c with framing := satAdd Config.max16 c.framing 1 }
  | .charError .parity => { c with parity := satAdd Config.max16 c.parity 1 }
  | .length => { c with length := satAdd Config.max16 c.length 1 }
  | .crc => { c with crc := satAdd Config.max16 c.crc 1 }
  | .shape => { c with shape := satAdd Config.max16 c.shape 1 }

/-- The error a frame in progress holds, if there is one (R10). -/
def RxState.firstErr : RxState → Option CharError
  | .hunting => none
  | .assembling p => p.firstErr

/-- A frame is discarded (R10): counted once, under its first character error if it holds one and else by
`count`; LINE_ERRORS is raised and the receiver goes to HUNTING. -/
def State.discardBy (s : State) (p : Port) (count : LineCounters → LineCounters) : State :=
  let q := s.port p
  let cnt :=
    match q.rx.firstErr with
    | some e => q.cnt.counted (.charError e)
    | none => count q.cnt
  (s.setPort p { q with rx := .hunting, cnt := cnt }).raise .lineErrors

/-- A frame ended by a character error, the length, the CRC or the shape is discarded. -/
def State.discard (s : State) (p : Port) (c : EndCause) : State := s.discardBy p (fun n => n.counted c)

/-- A frame cut off by a marker character is discarded (R4). -/
def State.discardCutOff (s : State) (p : Port) : State :=
  s.discardBy p (fun n => { n with cutOff := satAdd Config.max16 n.cutOff 1 })

/-- A frame whose inter-character gap was exceeded is discarded (R6). -/
def State.discardTimeout (s : State) (p : Port) : State :=
  s.discardBy p (fun n => { n with timeout := satAdd Config.max16 n.timeout 1 })

/-! ## Pending SETs and held-back entries (R31, R37) -/

/-- A hold list is sendable while its station is not gate-held (R31). -/
def State.sendable (s : State) (a : Nat) : List Entry :=
  if s.held a then [] else (s.st a).hold

/-- A broadcast entry of the posted buffer (R28). -/
def Entry.broadcast (e : Entry) : Bool := e.dst.toNat = 0

/-- A delayed entry that still goes, or is, on the line. -/
def Delayed.outstanding (d : Delayed) : Bool :=
  match d.st with
  | .queued | .inFlight => true
  | .done _ _ => false

/-- A SET is pending for a station in the sense of R37. -/
def State.setPending (s : State) (a : Nat) : Bool :=
  s.fwd.posted.any (fun e => e.dst.toNat = a || e.broadcast)
    || !(s.sendable a).isEmpty
    || s.fwd.delayed.any (fun d => d.key.dst.toNat = a && d.key.kind = .set && d.outstanding)

/-- Whether an exchange is under way: granted, and its reply, deadline or broadcast send not yet come (R63). -/
def Master.underWay (m : Master) : Option Exchange :=
  match m.st with
  | .sending x => some x
  | .awaitReply x _ => some x
  | .idle | .gap _ _ => none

end Sys2Proof.Machine
end

