-- ==== Sys2Proof/Machine/Clock.lean ====
section
/-! DEFINITION. The week clock, the night windows and what is worked out from them: whether a zone is open, its
span end, the window test for parking and the wake-due time (R109, R163, R167, R168, R171). -/

namespace Sys2Proof.Machine

/-- The week clock's reading at now (R163). -/
def State.weekTime (s : State) : Nat := (s.clock.base + (s.now - s.clock.baseAt)) % Config.weekMs

/-- The week minute of a reading (R163). -/
def State.weekMinute (s : State) : Nat := s.weekTime / 60000

/-- Length in minutes of the spans an entry opens (R167). -/
def Window.spanLength (w : Window) : Nat :=
  if w.openMin < w.closeMin then w.closeMin - w.openMin else w.closeMin + 1440 - w.openMin

/-- Whether an entry covers zone `z` at week minute `m` (R167): one of its spans, one for each named day and
carried on past the end of the week, holds the minute. -/
def Window.covers (w : Window) (z m : Nat) : Bool :=
  w.zoneMask.testBit z &&
    (List.range 7).any fun d =>
      w.dayMask.testBit d &&
        (m + Config.weekMinutes - (d * 1440 + w.openMin)) % Config.weekMinutes < w.spanLength

/-- Zone `z` is open at week minute `m` (R168). -/
def State.openAt (s : State) (z m : Nat) : Bool := s.cfg.windows.toList.any (fun w => w.covers z m)

/-- Zone `z` is open at now (R168): never while the clock is invalid. -/
def State.zoneOpen (s : State) (z : Nat) : Bool := s.clock.valid && s.openAt z s.weekMinute

/-- The first `k` of a run of `fuel` minutes at which `isOpen` fails. -/
def firstClosed (isOpen : Nat → Bool) : Nat → Nat → Option Nat
  | 0, _ => none
  | fuel + 1, k => if isOpen k then firstClosed isOpen fuel (k + 1) else some k

/-- Minutes from now's minute to the first minute at which zone `z` is not open, looking at 10,080 minutes:
`none` for a zone open all week (R168). -/
def State.spanMinutes (s : State) (z : Nat) : Option Nat :=
  firstClosed (fun k => s.openAt z ((s.weekMinute + k) % Config.weekMinutes)) Config.weekMinutes 0

/-- Time to span end in ms (R168); 0 or less when the zone is not open now, `none` when open all week. -/
def State.timeToSpanEnd (s : State) (z : Nat) : Option Int :=
  (s.spanMinutes z).map (fun k => (k * 60000 : Int) - ((s.weekTime % 60000 : Nat) : Int))

/-- The window test for parking (R109). -/
def State.windowTest (s : State) (a : Nat) : Bool :=
  let p := s.pol a
  s.zoneOpen p.zone &&
    match s.timeToSpanEnd p.zone with
    | none => true
    | some t => decide ((p.parkHorizon * 60000 : Int) ≤ t - (p.wakeLead * 60000 : Int))

/-- The wake-due time of a PARKED station worked out at now (R171): absent without wake-at-close, while the
clock is invalid and where the zone has no span end. A time before the counter's 0 is held as 0: it is due. -/
def State.wakeDueNow (s : State) (a : Nat) : Option Nat :=
  let p := s.pol a
  if p.wakeAtClose && s.clock.valid then
    (s.timeToSpanEnd p.zone).map (fun t => ((s.now : Int) + t - (p.wakeLead * 60000 : Int)).toNat)
  else none

/-- Arm, move or clear the wake-due time of a station (R171). -/
def State.armWakeDue (s : State) (a : Nat) : State :=
  let due := s.wakeDueNow a
  s.modSt a (fun r => { r with wakeDue := due })

/-- The valid week clock reads a whole minute (R169). -/
def State.atMinute (s : State) : Bool := s.clock.valid && s.weekTime % 60000 = 0

/-- The zones open at the minute before now's. -/
def State.openBefore (s : State) : List Nat :=
  (List.range 8).filter (fun z => s.openAt z ((s.weekMinute + Config.weekMinutes - 1) % Config.weekMinutes))

/-- The zones a clock set or a window write counts as open before it (R164 step 1, R170): those open at now, and at a
whole minute those open at the minute before, whose closing the minute boundary of the same instant may not have taken
yet: a closing is acted on once, in whichever of the two steps first finds it (R164). -/
def State.openUntilNow (s : State) : List Nat :=
  (List.range 8).filter (fun z => s.zoneOpen z || (s.atMinute && s.openBefore.contains z))

end Sys2Proof.Machine
end

