-- ==== Sys2Proof/Machine/Credit.lean ====
section
/-! DEFINITION. The Credit unit on one record: credit computation, parked time and energy, recorded starts
(R74, R91 to R95, R99). -/

namespace Sys2Proof.Machine

/-- Units and remainder of an elapsed time (R92). -/
def elapsedUnits (elapsed : Nat) : Nat × Nat :=
  if elapsed / 100 ≤ 600 then (elapsed / 100, elapsed % 100) else (600, 0)

/-- The elapsed-units stage of a record (R92), with the units it counts. -/
def Station.elapse (now : Nat) (r : Station) : Station × Nat :=
  let u := elapsedUnits (now - r.lastObs)
  ({ r with remainder := u.2, lastObs := now - u.2 }, u.1)

/-- Weight of an idle load (R94). -/
def idleWeight (p : Policy) (load : Nat) : Nat := p.wBase + (p.tIdle - load) * p.wSlope / (p.tIdle + 1)

/-- The busy band of R93. -/
def busyBand (p : Policy) (load : Nat) : Bool := p.tBusy ≤ load

/-- Credit after the load band (R93 to R95). -/
def creditAfter (p : Policy) (load units credit : Nat) : Nat :=
  if busyBand p load then 0
  else if load ≤ p.tIdle then satAdd Config.max16 credit (units * idleWeight p load)
  else credit - units * p.drain

/-- The credit computation of an observation (R91 to R95). -/
def Station.creditUpdate (now : Nat) (p : Policy) (load : Nat) (r : Station) : Station :=
  let e := r.elapse now
  { e.1 with
    credit := creditAfter p load e.2 r.credit
    stats :=
      if busyBand p load then { r.stats with busyResets := satAdd Config.max16 r.stats.busyResets 1 }
      else r.stats }

/-- A credit fault (R81): the elapsed units are used up and the credit is 0. -/
def Station.creditFault (now : Nat) (r : Station) : Station := { (r.elapse now).1 with credit := 0 }

/-- Accounting of parked time and energy to now (R99); a record without a park mark has nothing to account. -/
def Station.account (now rated : Nat) (r : Station) : Station :=
  match r.parkMark with
  | none => r
  | some m =>
    let secs := (now - m) / 1000
    { r with
      parkMark := some (m + 1000 * secs)
      stats :=
        { r.stats with
          parkedSeconds := satAdd Config.max32 r.stats.parkedSeconds secs
          energy := satAdd Config.max48 r.stats.energy (rated * secs) } }

/-- Recording a start (R74): the history keeps the six latest. -/
def Station.recordStart (now : Nat) (r : Station) : Station :=
  let starts := r.starts ++ [now]
  { r with starts := starts.drop (starts.length - Config.startsKept), lastStart := some now }

/-- Start-history entries no more than 3,600,000 ms older than now (R74, R145), oldest first. -/
def Station.recentStarts (now : Nat) (r : Station) : List Nat :=
  r.starts.filter (fun t => now ≤ t + Config.startsWindow)

/-- Account a PARKED station to now in the table (R100). -/
def State.account (s : State) (a : Nat) : State :=
  let now := s.now
  let rated := (s.pol a).rated
  s.modSt a (Station.account now rated)

/-- Raise a statistic or other field of a record. -/
def State.bump (s : State) (a : Nat) (f : Stats → Stats) : State :=
  s.modSt a (fun r => { r with stats := f r.stats })

end Sys2Proof.Machine
end

