-- ==== Sys2Proof/Machine/Groups.lean ====
section
/-! DEFINITION. The Group unit's questions and checks: supporters, permission to park, readiness by groups, the
checks of a group write (R126 to R130, R136 to R138). -/

namespace Sys2Proof.Machine

def State.groupList (s : State) : List Group := s.cfg.groups.toList

/-- The stations a group entry makes supporters of `a`. -/
def Group.supportersOf (a : Nat) : Group → List Nat
  | .support ps qs => if qs.contains a then ps else []
  | .empty | .quorum .. => []

/-- The stations a group entry makes `p` support. -/
def Group.supportedBy (p : Nat) : Group → List Nat
  | .support ps qs => if ps.contains p then qs else []
  | .empty | .quorum .. => []

/-- Direct supporters of a station, across every SUPPORT entry, in rising address order (R126). -/
def State.supporters (s : State) (a : Nat) : List Nat :=
  let named := s.groupList.flatMap (Group.supportersOf a)
  addresses.filter named.contains

/-- The stations a station supports, in rising address order (R126). -/
def State.supported (s : State) (p : Nat) : List Nat :=
  let named := s.groupList.flatMap (Group.supportedBy p)
  addresses.filter named.contains

/-- Direct supporters whose class is not ABSENT. -/
def State.liveSupporters (s : State) (a : Nat) : List Nat :=
  (s.supporters a).filter (fun p => (s.pol p).cls != .absent)

/-- A running member (R128). -/
def State.running (s : State) (m : Nat) : Bool :=
  let r := s.st m
  (s.pol m).cls = .managed &&
    match r.state with
    | .free => r.snapshot.any (fun x => x.run = .running)
    | .parkQueued => true
    | .waking => r.phase = .command || r.phase = .settle
    | .unknown | .parking | .parked | .wakeQueued | .faulted => false

/-- The quorum test of one entry for a member (R129); other entries pass. -/
def State.quorumTest (s : State) (m i : Nat) : Bool :=
  match s.group i with
  | .quorum ms k _ _ _ =>
    !ms.contains m
      || (if s.isStarved i then ms.length else k) + 1 ≤ ms.countP s.running
  | .empty | .support .. => true

/-- A station at rest for its supporters (R130). -/
def State.atRest (s : State) (a : Nat) : Bool :=
  let r := s.st a
  (s.pol a).cls = .absent || r.state = .parked
    || (r.state = .free && r.shadow = .stop && r.snapshot.any (fun x => x.run = .stopped))

/-- Whether the Group unit permits a station to park (R127). -/
def State.permitted (s : State) (m : Nat) : Bool :=
  (List.range 32).all (s.quorumTest m) && (s.supported m).all s.atRest

/-- Readiness by groups: every direct supporter not ABSENT is FREE (R136). -/
def State.readyByGroups (s : State) (a : Nat) : Bool :=
  (s.liveSupporters a).all (fun p => (s.st p).state = .free)

/-- The faulted-supporter test (R137). -/
def State.faultedSupporter (s : State) (a : Nat) : Bool :=
  (s.liveSupporters a).any (fun p => (s.st p).state = .faulted)

/-- Whether a station is a member of a starved QUORUM entry (R133). -/
def State.starvedMember (s : State) (m : Nat) : Bool :=
  (List.range 32).any fun i =>
    s.isStarved i &&
      match s.group i with
      | .quorum ms _ _ _ _ => ms.contains m
      | .empty | .support .. => false

/-! ## Checks of a group write (R138) -/

/-- No address twice in a list. -/
def distinct : List Nat → Bool
  | [] => true
  | a :: as => !as.contains a && distinct as

def State.goodList (s : State) (as : List Nat) : Bool :=
  1 ≤ as.length && as.length ≤ 8 && as.all s.named && distinct as

/-- Check 1, RANGE, of the fields of an entry. -/
def State.groupInRange (s : State) : Group → Bool
  | .empty => true
  | .quorum ms k ref lo hi =>
    s.goodList ms && k ≤ ms.length && (ref = 0 || s.named ref) && (ref = 0 || lo < hi)
  | .support ps qs => s.goodList ps && s.goodList qs && ps.all (fun p => !qs.contains p)

/-- The stations named in an entry (R126). -/
def Group.names : Group → List Nat
  | .empty => []
  | .quorum ms _ ref _ _ => if ref = 0 then ms else ref :: ms
  | .support ps qs => ps ++ qs

/-- Check 2: no station of the new entry is named in more than 4 entries of the table as it would stand. -/
def withinLimit (table : List Group) (g : Group) : Bool :=
  g.names.all (fun a => table.countP (fun e => e.names.contains a) ≤ 4)

/-- The stations some SUPPORT entry of a table makes `p` support. -/
def supportedIn (table : List Group) (p : Nat) : List Nat := table.flatMap (Group.supportedBy p)

/-- The stations reached from `as` by following supporter to supported at most `fuel` times, `as` among them. -/
def reach (table : List Group) : Nat → List Nat → List Nat
  | 0, as => as
  | fuel + 1, as =>
    let more := ((as.flatMap (supportedIn table)).filter (fun a => !as.contains a)).dedup
    if more = [] then as else reach table fuel (as ++ more)

/-- Check 3: some station would reach itself by following supporter to supported. -/
def hasCycle (table : List Group) : Bool :=
  (table.flatMap Group.names).any (fun a => (reach table 127 (supportedIn table a).dedup).contains a)

end Sys2Proof.Machine
end

