-- ==== Sys2Proof/Machine/Wake.lean ====
section
/-! DEFINITION. The Wake engine, the Zone warning unit and the entries to FREE and FAULTED that admission
depends on: wake queues, chained supporters, supporter faults, admission passes, warnings (R77, R82, R134,
R137, R142 to R152). -/

namespace Sys2Proof.Machine

/-! ## Queues (R111, R144) -/

/-- Take an address out of every queue, the entries behind it keeping their order. -/
def State.dequeue (s : State) (a : Nat) : State :=
  { s with parkQ := s.parkQ.filter (· != a), demandQ := s.demandQ.filter (· != a), schedQ := s.schedQ.filter (· != a) }

/-- Priority of a wake request (R141). -/
inductive Priority where
  | demand
  | scheduled
deriving DecidableEq, Repr

/-- Append to a wake queue at its tail. -/
def State.enqueue (s : State) (a : Nat) : Priority → State
  | .demand => { s with demandQ := s.demandQ ++ [a] }
  | .scheduled => { s with schedQ := s.schedQ ++ [a] }

def State.setDemand (s : State) (a : Nat) : State := s.modSt a (fun r => { r with demand := true })

/-! ## Admission (R145 to R151) -/

/-- Min off (R145): a record without parked-since has no min off to run. -/
def State.minOffOver (s : State) (a : Nat) : Bool :=
  match (s.st a).parkedSince with
  | none => true
  | some t => (s.pol a).minOff * 1000 ≤ s.now - t

/-- Starts limit (R145). -/
def State.startsBelow (s : State) (a : Nat) : Bool :=
  (s.pol a).startsLimit = 0 || ((s.st a).recentStarts s.now).length < (s.pol a).startsLimit

/-- Readiness of a WAKE_QUEUED station (R145). -/
def State.ready (s : State) (a : Nat) : Bool := s.minOffOver a && s.startsBelow a && s.readyByGroups a

/-- A ready entry fits (R146). -/
def State.fits (s : State) (a : Nat) : Bool :=
  s.inrush + (s.pol a).weight ≤ s.cfg.params.budget || !s.anyWaking

/-- The warning of a station in WARN is satisfied at time `t`: phase COMMAND (R154, R61). -/
def State.satisfy (s : State) (a t : Nat) : State :=
  s.modSt a (fun r => { r with phase := .command, attempts := 0, satisfiedAt := some t })

/-- Warning at admission (R151): satisfied at once, joined to a sounding, or a sounding starts now. -/
def State.warnAdmitted (s : State) (a : Nat) : State :=
  let z := (s.pol a).zone
  let cfg := s.zoneCfg z
  let zr := s.zone z
  if cfg.warnTime = 0 then s.satisfy a s.now
  else
    match zr.sounding with
    | some _ => s
    | none =>
      if s.now < zr.warnedUntil then s.satisfy a s.now
      else
        s.setZone z { zr with sounding := some ⟨s.now, s.now + cfg.warnTime * 1000, cfg.pattern⟩ }

/-- Admission of one station (R149). -/
def State.admitOne (s : State) (a : Nat) : State :=
  ((s.dequeue a).modSt a (fun r => { r with state := .waking, phase := .warn, attempts := 0 })).warnAdmitted a

/-- The walk of an admission pass over the entries still to judge (R146). -/
def State.admitWalk (s : State) : List Nat → State
  | [] => s
  | a :: rest =>
    if s.ready a then
      if s.fits a then (s.admitOne a).admitWalk rest else s
    else s.admitWalk rest

/-- An admission pass (R146): demand queue, then scheduled queue; none during a warm-reset drain (R161). -/
def State.admissionPass (s : State) : State :=
  if s.draining then s else s.admitWalk (s.demandQ ++ s.schedQ)

/-! ## Entry to FAULTED and supporter faults (R82, R102, R137) -/

/-- The record of a station entering FAULTED (R82). -/
def Station.faultWith (now rated : Nat) (c : FaultCause) (r : Station) : Station :=
  let r1 := r.account now rated
  { r1 with
    state := .faulted, phase := .none, phaseDeadline := none, nextFollowUp := none, wakeDue := none,
    attempts := 0, demand := false, parkMark := none, firstSent := none, satisfiedAt := none, fault := some c
    stats :=
      match r.state with
      | .parking | .parked => { r1.stats with parkFailures := satAdd Config.max8 r1.stats.parkFailures 1 }
      | _ => { r1.stats with wakeFailures := satAdd Config.max8 r1.stats.wakeFailures 1 } }

/-- The park-failure limit test (R102): a limit of 0 is none. -/
def State.failLimitTest (s : State) (a : Nat) : State :=
  let limit := (s.pol a).failLimit
  if limit ≠ 0 ∧ limit ≤ (s.st a).stats.parkFailures then
    (s.modSt a (fun r => { r with autoExempt := true })).raise .parkLimit
  else s

/-- One station enters FAULTED (R82), without what follows for those it supports. -/
def State.faultOne (s : State) (a : Nat) (c : FaultCause) : State :=
  let was := (s.st a).state
  let now := s.now
  let rated := (s.pol a).rated
  let s1 := ((s.dequeue a).modSt a (Station.faultWith now rated c)).raise .stationFault
  match was with
  | .parking | .parked => s1.failLimitTest a
  | _ => s1

/-- The WAKE_QUEUED stations a station supports. -/
def State.waitingOn (s : State) (p : Nat) : List Nat :=
  (s.supported p).filter (fun q => (s.st q).state = .wakeQueued)

/-- Supporter faults spreading from the stations of a work list (R137). -/
def State.spreadFaults (s : State) : Nat → List Nat → State
  | 0, _ => s
  | _ + 1, [] => s
  | fuel + 1, p :: rest =>
    let victims := s.waitingOn p
    (victims.foldl (fun t q => t.faultOne q .supportFault) s).spreadFaults fuel (victims ++ rest)

/-- A station enters FAULTED and the WAKE_QUEUED stations it supports follow (R82, R137). -/
def State.faultSpread (s : State) (a : Nat) (c : FaultCause) : State :=
  (s.faultOne a c).spreadFaults 256 [a]

/-- Entry to FAULTED with the admission pass its departures ask for (R147): an exit from WAKING, or the
departure of a WAKE_QUEUED station. -/
def State.enterFaulted (s : State) (a : Nat) (c : FaultCause) : State :=
  let s1 := s.faultSpread a c
  if (s.st a).state = .waking ∨ s1.demandQ.length + s1.schedQ.length < s.demandQ.length + s.schedQ.length then
    s1.admissionPass
  else s1

/-! ## Entry to a wake queue (R134, R143) -/

/-- The queue of a WAKE_QUEUED station. -/
def State.queueOf (s : State) (a : Nat) : Priority := if s.demandQ.contains a then .demand else .scheduled

/-- A PARKED station joins a wake queue (R143). -/
def State.joinQueue (s : State) (a : Nat) (q : Priority) : State :=
  ((s.account a).modSt a fun r =>
      { r with state := .wakeQueued, parkMark := none, wakeDue := none, demand := r.demand || q = .demand }).enqueue a q

/-- A station of the scheduled queue moves to the tail of the demand queue (R143). -/
def State.moveToDemand (s : State) (a : Nat) : State := ((s.dequeue a).setDemand a).enqueue a .demand

/-- One supporter of a station that entered queue `q` (R134), and whether it was appended or moved. -/
def State.chainOne (s : State) (q : Priority) (p : Nat) : State × Bool :=
  match (s.st p).state with
  | .parked => (s.joinQueue p q, true)
  | .wakeQueued => if q = .demand ∧ s.queueOf p = .scheduled then (s.moveToDemand p, true) else (s, false)
  | _ => (s, false)

/-- The direct supporters of a station in turn (R134), with those appended or moved. -/
def State.chainAll (s : State) (q : Priority) : List Nat → State × List Nat
  | [] => (s, [])
  | p :: rest =>
    let one := s.chainOne q p
    let more := one.1.chainAll q rest
    (more.1, if one.2 then p :: more.2 else more.2)

/-- The faulted-supporter test and the breadth-first walk of supporters over a work list (R134, R137). -/
def State.chainWalk (s : State) : Nat → List Nat → State
  | 0, _ => s
  | _ + 1, [] => s
  | fuel + 1, a :: rest =>
    if (s.st a).state ≠ .wakeQueued then s.chainWalk fuel rest
    else if s.faultedSupporter a then (s.faultSpread a .supportFault).chainWalk fuel rest
    else
      let next := s.chainAll (s.queueOf a) (s.liveSupporters a)
      next.1.chainWalk fuel (rest ++ next.2)

/-- What follows a station's entry to a queue, admission apart (R143). -/
def State.afterEntry (s : State) (a : Nat) : State := s.chainWalk 256 [a]

/-- Taking a wake request (R142). -/
def State.takeWake (s : State) (a : Nat) (q : Priority) : State :=
  match (s.st a).state, q with
  | .parked, _ => ((s.joinQueue a q).afterEntry a).admissionPass
  | .wakeQueued, .demand =>
    match s.queueOf a with
    | .scheduled => ((s.moveToDemand a).afterEntry a).admissionPass
    | .demand => s.setDemand a
  | .waking, .demand => s.setDemand a
  | .parking, .demand => s.setDemand a
  | _, _ => s

/-! ## Entry to FREE (R77) -/

/-- The record of a station entering FREE (R77). -/
def Station.freed (now rated : Nat) (r : Station) : Station :=
  let r1 := r.account now rated
  { r1 with
    state := .free, phase := .none, phaseDeadline := none, nextFollowUp := none, wakeDue := none, attempts := 0,
    demand := false, parkMark := none, firstSent := none, satisfiedAt := none
    lastObs := if r.state = .parkQueued then r.lastObs else now
    remainder := if r.state = .parkQueued then r.remainder else 0 }

/-- Whether a station is a direct supporter, not ABSENT, of a WAKE_QUEUED station (R147). -/
def State.supportsQueued (s : State) (p : Nat) : Bool :=
  (s.pol p).cls != .absent && (s.demandQ ++ s.schedQ).any (fun q => (s.supporters q).contains p)

/-- Entry to FREE (R77), with `f` what the causing rule gives for the record beyond it, and the admission pass
of R147 where the entry asks for one. -/
def State.enterFree (s : State) (a : Nat) (f : Station → Station) : State :=
  let was := (s.st a).state
  let now := s.now
  let rated := (s.pol a).rated
  let s1 := (s.dequeue a).modSt a (fun r => f (r.freed now rated))
  if was = .waking ∨ was = .wakeQueued ∨ s1.supportsQueued a then s1.admissionPass else s1

/-- A PARK_QUEUED station leaves the park queue to FREE with credit 0 or kept (R112); a request for a station
that has already left is dropped (R71). -/
def State.leavePark (s : State) (a : Nat) (zeroed : Bool) : State :=
  if (s.st a).state = .parkQueued then
    s.enterFree a (fun r => if zeroed then { r with credit := 0 } else r)
  else s

/-- Several stations leave the park queue in the order given, credit kept (R114, R115). -/
def State.leaveParkAll (s : State) (as : List Nat) : State := as.foldl (fun t a => t.leavePark a false) s

/-- Wake requests of one priority for several stations in the order given. -/
def State.takeWakes (s : State) (q : Priority) (as : List Nat) : State := as.foldl (fun t a => t.takeWake a q) s

/-! ## Sounding end (R152) -/

/-- Stations in WAKING phase WARN of a zone, in rising address order. -/
def State.warned (s : State) (z : Nat) : List Nat :=
  addresses.filter (fun a => (s.st a).state = .waking && (s.st a).phase = .warn && (s.pol a).zone = z)

/-- The sounding of zone `z` that ends at `t` ends (R152). -/
def State.endSounding (s : State) (z t : Nat) : State :=
  (s.warned z).foldl (fun u a => u.satisfy a t) (s.setZone z ⟨none, t + Config.grace⟩)

/-! ## Closing zones and wake-due times (R164, R169, R172) -/

/-- A closing zone's queued stations leave the park queue, in queue order (R115, R169). -/
def State.closeZone (s : State) (z : Nat) : State :=
  s.leaveParkAll (s.parkQ.filter (fun a => (s.pol a).zone = z))

/-- Each zone of a list that is not open now is closing (R164 step 3, R169, R170). Several zones that close in one step
do so in the order of the list, which is rising zone number: the model's choice (log 28). -/
def State.closeThose (s : State) (was : List Nat) : State :=
  was.foldl (fun t z => if t.zoneOpen z then t else t.closeZone z) s

/-- A wake-due time at or before now expires (R172): cleared, and a scheduled wake is requested. -/
def State.expireWakeDue (s : State) (a : Nat) : State :=
  match (s.st a).wakeDue with
  | none => s
  | some t =>
    if t ≤ s.now then (s.modSt a (fun r => { r with wakeDue := none })).takeWake a .scheduled else s

/-- PARKED stations with wake-at-close, in rising address order. -/
def State.parkedAtClose (s : State) : List Nat :=
  addresses.filter (fun a => (s.st a).state = .parked && (s.pol a).wakeAtClose)

/-- Work out afresh every wake-due time and let those at or before now expire (R164 step 4, R170). -/
def State.rearmWakeDue (s : State) : State :=
  let as := s.parkedAtClose
  as.foldl State.expireWakeDue (as.foldl State.armWakeDue s)

/-- A clock set to `v` (R164). -/
def State.setWeek (s : State) (v : Nat) : State :=
  let was := s.openUntilNow
  (({ s with clock := ⟨true, v, s.now⟩ }).closeThose was).rearmWakeDue

end Sys2Proof.Machine
end

