-- ==== Sys2Proof/Machine/Park.lean ====
section
/-! DEFINITION. The Park engine: eligibility, the park queue, the may-send test, entry to PARKED and the ends of
a park operation (R78, R108 to R123, R133, R135). -/

namespace Sys2Proof.Machine

/-- Park eligibility (R108). A record without a last start time has not run for min run (log 17). -/
def State.eligible (s : State) (a : Nat) : Bool :=
  let r := s.st a
  let p := s.pol a
  s.mode = .active && p.cls = .managed && r.shadow = .run && r.snapshot.any (fun x => x.run = .running)
    && p.cPark ≤ r.credit && !r.exempt && !r.autoExempt && r.lock.isNone
    && r.lastStart.any (fun t => p.minRun * 1000 ≤ s.now - t)
    && s.windowTest a && s.permitted a

/-- Entry to PARK_QUEUED at the tail of the park queue (R110). -/
def State.queuePark (s : State) (a : Nat) : State :=
  { s.modSt a (fun r => { r with state := .parkQueued }) with parkQ := s.parkQ ++ [a] }

/-- The eligibility test of a FREE station after its credit computation (R96, R108). -/
def State.parkTest (s : State) (a : Nat) : State := if s.eligible a then s.queuePark a else s

/-- The head of the park queue, when it may be sent (R117). -/
def State.mayPark (s : State) : Option Nat :=
  match s.parkQ with
  | [] => none
  | h :: _ =>
    if s.parkCount < s.cfg.params.parkLimit ∧ s.setPending h = false ∧ (s.st h).lock = none then some h else none

/-- The re-check of the head at its grant (R118). -/
def State.recheck (s : State) (a : Nat) : Bool := s.windowTest a && s.permitted a

/-- The granted head becomes PARKING in phase COMMAND (R118). -/
def State.startPark (s : State) (a : Nat) : State :=
  let t := s.lineTime
  (s.dequeue a).modSt a fun r =>
    { r with state := .parking, phase := .command, attempts := 0, firstSent := some t }

/-! ## Entry to PARKED (R78) -/

/-- The record of a station entering PARKED (R78). -/
def Station.parkedAt (now : Nat) (r : Station) : Station :=
  { r with
    state := .parked, credit := 0, parkMark := some now, parkedSince := some now, phase := .none,
    phaseDeadline := none, nextFollowUp := none, attempts := 0, firstSent := none, satisfiedAt := none }

/-- A member parked into a starved group (R133). -/
def State.starvedWake (s : State) (a : Nat) : State :=
  if s.starvedMember a then s.takeWake a .demand else s

/-- A supporter reaching PARKED while needed (R135). -/
def State.neededWake (s : State) (a : Nat) : State :=
  let waiting := s.waitingOn a
  if waiting.any s.demandQ.contains then s.takeWake a .demand
  else if waiting = [] then s
  else s.takeWake a .scheduled

/-- Entry to PARKED (R78): the record, the wake-due time, and the Group unit told. DESIGN CHOICE (log 11): where both
group wakes are due, the starved member's (R133), with its admission pass, is taken before the needed supporter's
(R135). -/
def State.enterParked (s : State) (a : Nat) (f : Station → Station) : State :=
  let now := s.now
  (((s.modSt a (fun r => f (r.parkedAt now))).armWakeDue a).starvedWake a).neededWake a

/-- What the Park engine does on the record as the entry to PARKED left it (R123), first line that holds. The
release is dropped for a station that is no longer PARKED (R71). -/
def State.actAtParked (s : State) (a : Nat) : State :=
  let r := s.st a
  if r.demand then s.takeWake a .demand
  else if r.hold ≠ [] then
    if r.state = .parked then s.enterFree a (fun x => { x with credit := 0 }) else s
  else if s.mode ≠ .active then s.takeWake a .scheduled
  else s

/-- Completion at PARKED (R123), with the wake-due time that is at or before now taken last (log 11). -/
def State.completePark (s : State) (a : Nat) : State :=
  let parked (r : Station) : Station :=
    { r with stats := { r.stats with parks := satAdd Config.max16 r.stats.parks 1 } }
  ((s.enterParked a parked).actAtParked a).expireWakeDue a

/-- A station adopted as PARKED while the gate is not ACTIVE, or of class PASS, is woken (R75). -/
def State.adoptWake (s : State) (a : Nat) : State :=
  if s.mode ≠ .active ∨ (s.pol a).cls = .pass then s.takeWake a .scheduled else s

/-- A station adopted as PARKED while exempt is given a demand wake (R75). -/
def State.exemptWake (s : State) (a : Nat) : State := if (s.st a).exempt then s.takeWake a .demand else s

/-- Adoption as PARKED (R75). Where both a scheduled and a demand wake are due, the scheduled one is taken first, with
its walk and its admission pass: R75 leaves the order open (log 11). -/
def State.adoptParked (s : State) (a : Nat) : State :=
  (((s.enterParked a (fun r => { r with shadow := .run })).adoptWake a).exemptWake a).expireWakeDue a

/-! ## Ends of phase COMMAND (R119) and of COAST (R121) -/

/-- A request of station `a` in the phase named: requests from elsewhere are dropped (R71). -/
def State.inPhase (s : State) (a : Nat) (x : StState) (ph : Phase) : Bool :=
  (s.st a).state = x && (s.st a).phase = ph

/-- The PARK is answered ACK (R119). -/
def State.parkAcked (s : State) (a : Nat) : State :=
  let now := s.now
  let p := s.pol a
  s.modSt a fun r =>
    { r with
      phase := .coast, phaseDeadline := some (now + p.stopTimeout * 1000), attempts := 0,
      nextFollowUp := some (now + Config.followUp), firstSent := none }

/-- The PARK is answered NAK (R119). -/
def State.parkRefused (s : State) (a : Nat) : State :=
  s.enterFree a fun r =>
    { r with credit := 0, stats := { r.stats with parkRefusals := satAdd Config.max16 r.stats.parkRefusals 1 } }

/-- An observation of a coasting station without stop cause FAULT (R121). -/
def State.coastObserved (s : State) (a : Nat) (o : Snapshot) : State :=
  match o.run, o.cause with
  | .stopped, .parked => s.completePark a
  | .stopped, _ => s.enterFree a id
  | _, _ => s

end Sys2Proof.Machine
end

