-- ==== Sys2Proof/Machine/Observe.lean ====
section
/-! DEFINITION. Observations: every STATUS a station answers with, taken into its record and dispatched by class
and state (R72 to R81, R120, R121, R131, R132, R156 to R158). -/

namespace Sys2Proof.Machine

/-- The snapshot a STATUS gives, its load clamped (R16, R72). -/
def snapshotOf (r : StatusRec) : Snapshot :=
  { run := r.run, cause := r.cause, load := min r.load.toNat 1000, aux := r.aux.toNat, ready := r.ready }

def RunState.started : RunState → Bool
  | .starting | .running => true
  | .stopped | .stopping => false

/-- The start test (R74): seen stopped or stopping before, starting or running now. -/
def startTest (before : Option Snapshot) (o : Snapshot) : Bool :=
  before.any (fun b => !RunState.started b.run) && RunState.started o.run

/-- The record of a station started at its panel, beyond its entry to FREE (R79). -/
def Station.overridden (now : Nat) (r : Station) : Station :=
  { { r with credit := 0 }.recordStart now with
    stats := { r.stats with localOverrides := satAdd Config.max16 r.stats.localOverrides 1 } }

/-- The record of a wake that settles, beyond its entry to FREE (R158). -/
def Station.settled (now : Nat) (r : Station) : Station :=
  { { r with credit := 0 }.recordStart now with
    stats := { r.stats with wakes := satAdd Config.max16 r.stats.wakes 1 } }

/-- The record of a station adopted as FREE, beyond its entry to FREE (R76). -/
def Station.adopted (now : Nat) (o : Snapshot) (r : Station) : Station :=
  { r with credit := 0, shadow := if RunState.started o.run then .run else .stop, lastStart := some now }

/-- A local start (R79). -/
def State.localStart (s : State) (a : Nat) : State := s.enterFree a (Station.overridden s.now)

/-- A wake settles (R158). -/
def State.settle (s : State) (a : Nat) : State := s.enterFree a (Station.settled s.now)

/-- The credit computation on the table (R91). -/
def State.creditUpdate (s : State) (a load : Nat) : State :=
  let now := s.now
  let p := s.pol a
  s.modSt a (Station.creditUpdate now p load)

/-- A credit fault on the table (R81). -/
def State.creditFault (s : State) (a : Nat) : State :=
  let now := s.now
  s.modSt a (Station.creditFault now)

/-- The credit computation and the eligibility test after it (R91, R96). -/
def State.creditAndTest (s : State) (a load : Nat) : State := (s.creditUpdate a load).parkTest a

/-- Adoption as FREE (R76), with the same observation's credit computation or credit fault. -/
def State.adoptFree (s : State) (a : Nat) (o : Snapshot) : State :=
  let s1 := s.enterFree a (Station.adopted s.now o)
  if o.cause = .fault then s1.creditFault a else s1.creditAndTest a o.load

/-- A start is recorded where the start test finds one (R74). -/
def State.noteStart (s : State) (a : Nat) (before : Option Snapshot) (o : Snapshot) : State :=
  if startTest before o then s.modSt a (Station.recordStart s.now) else s

/-- Observation dispatch by state (R73); `before` is the snapshot before the observation. -/
def State.dispatchObs (s : State) (a : Nat) (before : Option Snapshot) (o : Snapshot) : State :=
  let r := s.st a
  match r.state with
  | .unknown =>
    if o.run = .stopped ∧ o.cause = .parked ∧ s.setPending a = false then s.adoptParked a else s.adoptFree a o
  | .free =>
    if o.cause = .fault then s.creditFault a
    else (s.noteStart a before o).creditAndTest a o.load
  | .parkQueued =>
    if o.cause = .fault then (s.creditFault a).leavePark a true
    else if o.run ≠ .running then s.leavePark a false
    else
      let s1 := s.creditUpdate a o.load
      if busyBand (s.pol a) o.load then s1.leavePark a true else s1
  | .parking =>
    if o.cause = .fault then s.enterFaulted a .stationFault
    else if r.phase = .coast then s.coastObserved a o
    else s
  | .parked =>
    if o.cause = .fault then s.enterFaulted a .stationFault
    else if RunState.started o.run then s.localStart a
    else s.account a
  | .wakeQueued =>
    if o.cause = .fault then s.enterFaulted a .stationFault
    else if RunState.started o.run then s.localStart a
    else s
  | .waking =>
    if o.cause = .fault then s.enterFaulted a .stationFault
    else if r.phase = .warn then (if RunState.started o.run then s.localStart a else s)
    else if r.phase = .settle then (if o.run = .running ∧ o.ready then s.settle a else s)
    else s
  | .faulted => s

/-! ## Pressure references (R131, R132) -/

def State.setStarved (s : State) (i : Nat) (b : Bool) : State := { s with starved := s.starved.setIfInBounds i b }

/-- What entering starvation does to one member, by its state at that moment (R132). -/
def State.starveMember (s : State) (m : Nat) : State :=
  match (s.st m).state with
  | .parked => s.takeWake m .demand
  | .wakeQueued => if s.queueOf m = .scheduled then s.takeWake m .demand else s
  | .parkQueued => s.leavePark m false
  | _ => s

/-- A QUORUM entry enters starvation (R132). -/
def State.starve (s : State) (i : Nat) (members : List Nat) : State :=
  (addresses.filter members.contains).foldl State.starveMember ((s.setStarved i true).raise .groupStarved)

/-- One entry judged at an observation of station `a` with aux `aux` (R131). -/
def State.judgeStarved (s : State) (a aux i : Nat) : State :=
  match s.group i with
  | .quorum ms _ ref lo hi =>
    if ref ≠ 0 ∧ ref = a then
      if s.isStarved i then (if hi ≤ aux then s.setStarved i false else s)
      else if aux < lo then s.starve i ms
      else s
    else s
  | .empty | .support .. => s

/-- The reference hand-over of an observation, entries in rising index order (R72, R131). -/
def State.referenceSeen (s : State) (a aux : Nat) : State :=
  (List.range 32).foldl (fun t i => t.judgeStarved a aux i) s

/-- What every observation does to its record first (R72). -/
def Station.observed (now : Nat) (o : Snapshot) (r : Station) : Station :=
  { r with snapshot := some o, seen := some now, notFresh := false }

/-- An observation of station `a` (R72): the record, the state dispatch for PASS and MANAGED, then the reference
hand-over (log 10). No request is sent for the gate's own address, whose record stays UNKNOWN (R67). -/
def State.observe (s : State) (a : Nat) (st : StatusRec) : State :=
  if a = s.straps.addr then s
  else
    let o := snapshotOf st
    let before := (s.st a).snapshot
    let now := s.now
    let s1 := s.modSt a (Station.observed now o)
    let s2 := if (s.pol a).cls = .absent then s1 else s1.dispatchObs a before o
    s2.referenceSeen a o.aux

end Sys2Proof.Machine
end

