-- ==== Sys2Proof/Machine/Forward.lean ====
section
/-! DEFINITION. The Forwarding unit: acceptance, posted buffer, hold lists, delayed transactions, the status
rewrite, broadcasts, losses and the eligibility of entries for the field (R21 to R45). -/

namespace Sys2Proof.Machine

def State.setFwd (s : State) (f : Fwd) : State := { s with fwd := f }

/-- Raise forwarding counters. -/
def State.countFwd (s : State) (f : FwdCounters → FwdCounters) : State :=
  { s with fwd := { s.fwd with cnt := f s.fwd.cnt } }

def State.nak (s : State) (src tag cause : Byte) : State := s.answerOwn src tag (.nak cause)

/-! ## Acceptance (R25 to R27) -/

/-- The shadow after an accepted SET (R26). -/
def shadowAfter (r : SetRec) (x : Shadow) : Shadow :=
  match r.action with
  | .run | .jog => .run
  | .stop => .stop
  | .noop | .setpoint | .park | .wake => x

/-- The lock after an accepted SET (R27). -/
def lockAfter (now : Nat) (r : SetRec) : Option Nat := if r.lock then some (now + Config.lockLife) else none

/-- Acceptance of a SET for a station (R25): shadow, lock, not-fresh mark, and the park queue left. -/
def State.accept (s : State) (a : Nat) (r : SetRec) : State :=
  let now := s.now
  (s.modSt a fun x =>
    { x with shadow := shadowAfter r x.shadow, lock := lockAfter now r, notFresh := true }).leavePark a true

/-! ## Entries (R28, R31, R34) -/

/-- The entry of a request delivered now (R28, R31). -/
def State.newEntry (s : State) (src dst tag : Byte) (w : Posting) : Entry :=
  { seq := s.fwd.seq, src := src, dst := dst, tag := tag, what := w, acceptedAt := s.now, attempts := 0 }

/-- Append to the posted buffer under its room test (R28); `none` is full. -/
def State.buffer (s : State) (e : Entry) : Option State :=
  if s.fwd.posted.length < Config.postedCap then
    some { s with fwd := { s.fwd with posted := s.fwd.posted ++ [e], seq := s.fwd.seq + 1 } }
  else none

/-- Whether an entry's exchange is under way. -/
def State.entryUnderWay (s : State) (e : Entry) : Bool :=
  s.master.underWay.any (fun x => x.req = .entry e.seq)

def Entry.isSetpoint (e : Entry) : Bool :=
  match e.what with
  | .set r => r.action = .setpoint
  | .time _ => false

/-- Whether a SETPOINT coalesces with the youngest entry of a hold list (R34). -/
def State.coalesces (s : State) (a : Nat) (r : SetRec) : Bool :=
  r.action = .setpoint
    && (s.st a).hold.getLast?.any (fun y => y.isSetpoint && !s.entryUnderWay y)

/-- Place a posted SET in the hold list (R31, R34): coalesced, joined at the tail, or `none` when full. -/
def State.holdPlace (s : State) (a : Nat) (r : SetRec) (e : Entry) : Option State :=
  let bumped : State := { s with fwd := { s.fwd with seq := s.fwd.seq + 1 } }
  if s.coalesces a r then
    some ((bumped.modSt a (fun x => { x with hold := x.hold.dropLast ++ [e] })).countFwd fun c =>
      { c with coalesced := satAdd Config.max16 c.coalesced 1 })
  else if (s.st a).hold.length < Config.holdCap then
    some (bumped.modSt a (fun x => { x with hold := x.hold ++ [e] }))
  else none

/-- Where a posted SET goes when it is placed as for a station not gate-held (R24, R35): the posted buffer when
the hold list is empty, the hold list otherwise. -/
def State.placeFree (s : State) (a : Nat) (r : SetRec) (e : Entry) : Option State :=
  if (s.st a).hold = [] then s.buffer e else s.holdPlace a r e

/-- The NAK cause when `placeFree` finds no room. -/
def State.noRoom (s : State) (a : Nat) : Byte := if (s.st a).hold = [] then nakBusy else nakHeldFull

/-! ## SETs to gate-held stations (R32, R33, R35, R39) -/

/-- A demand action of a station (R33). -/
def State.isDemand (s : State) (a : Nat) (r : SetRec) : Bool :=
  match r.action with
  | .run | .jog => true
  | .setpoint => (s.pol a).setpointWakes
  | .noop | .stop | .park | .wake => false

/-- States and phases in which a STOP releases the station (R35). -/
def State.releasable (s : State) (a : Nat) : Bool :=
  match (s.st a).state with
  | .parked | .wakeQueued => true
  | .waking => (s.st a).phase = .warn
  | _ => false

/-- A posted SET accepted: answered ACK POSTED (R24, R25). -/
def State.accepted (s : State) (src tag : Byte) (a : Nat) (r : SetRec) : State :=
  (s.accept a r).answerOwn src tag (.ack ackPosted)

/-- Accepted where there was room, refused with `cause` otherwise. -/
def State.acceptIf (s : State) (src tag : Byte) (a : Nat) (r : SetRec) (cause : Byte) : Option State → State
  | some t => t.accepted src tag a r
  | none => s.nak src tag cause

/-- A posted SET to a station (R24, test 4). -/
def State.postSet (s : State) (src dst tag : Byte) (r : SetRec) : State :=
  let a := dst.toNat
  let e := s.newEntry src dst tag (.set r)
  if s.held a then
    match r.action with
    | .noop =>
      (s.countFwd fun c => { c with noopDrop := satAdd Config.max16 c.noopDrop 1 }).accepted src tag a r
    | .stop =>
      if s.releasable a then
        match s.placeFree a r e with
        | some t => (t.accepted src tag a r).enterFree a id
        | none => s.nak src tag (s.noRoom a)
      else s.acceptIf src tag a r nakHeldFull (s.holdPlace a r e)
    | _ =>
      match s.holdPlace a r e with
      | some t =>
        if s.isDemand a r then (t.accepted src tag a r).takeWake a .demand else t.accepted src tag a r
      | none => s.nak src tag nakHeldFull
  else s.acceptIf src tag a r (s.noRoom a) (s.placeFree a r e)

/-- What a non-posted SET refused with PARKED_WAKING still does (R39). -/
def State.refusedSet (s : State) (a : Nat) (r : SetRec) : State :=
  if (s.st a).state = .parkQueued then s.leavePark a true
  else if s.isDemand a r then s.takeWake a .demand
  else if r.action = .stop ∧ s.releasable a then s.enterFree a (fun x => { x with shadow := .stop })
  else s

/-! ## Delayed transactions (R38 to R42) -/

def State.findDelayed (s : State) (k : DelayKey) : Option Delayed := s.fwd.delayed.find? (fun d => d.key = k)

def State.freeDelayed (s : State) (k : DelayKey) : State :=
  { s with fwd := { s.fwd with delayed := s.fwd.delayed.filter (fun d => d.key ≠ k) } }

/-- The status rewrite of a gate-held station (R42). -/
def rewritten (x : Shadow) (r : StatusRec) : StatusRec :=
  { r with
    run := if x = .run then .running else .stopped
    cause := if x = .run then .none else .commanded
    flags := r.flags ||| 2 }

/-- A stored reply as it goes upstream (R23, R42): to the collecting source, a STATUS of a station gate-held now
rewritten. -/
def State.upstream (s : State) (src : Byte) (f : Frame) : Frame :=
  let a := f.src.toNat
  match f.body with
  | .status r =>
    { f with dst := src, body := .status (if s.held a then rewritten (s.st a).shadow r else r) }
  | _ => { f with dst := src }

/-- Whether delivering a result counts as a rewrite (R42). -/
def State.rewrites (s : State) (f : Frame) : Bool :=
  match f.body with
  | .status _ => s.held f.src.toNat
  | _ => false

/-- A matching repeat collects a result and the entry is freed (R41). -/
def State.collect (s : State) (src tag : Byte) (k : DelayKey) : Result → State
  | .noReply => (s.freeDelayed k).nak src tag nakNoReply
  | .frame f =>
    let s1 := (s.freeDelayed k).answer (s.upstream src f)
    if s.rewrites f then s1.countFwd (fun c => { c with rewrite := satAdd Config.max16 c.rewrite 1 }) else s1

/-- A new entry of the delayed-transaction table (R38). -/
def State.fileDelayed (s : State) (src : Byte) (k : DelayKey) (p : Option SetRec) : State :=
  { s with
    fwd :=
      { s.fwd with
        delayed :=
          s.fwd.delayed
            ++ [{ key := k, src := src, payload := p, st := .queued, allocAt := s.now, seq := s.fwd.seq }]
        seq := s.fwd.seq + 1 } }

/-- A new request that matches no entry (R38, last three lines; R39). -/
def State.newDelayed (s : State) (src : Byte) (k : DelayKey) (p : Option SetRec) : State :=
  let a := k.dst.toNat
  match p with
  | some r =>
    if s.held a ∨ (s.st a).state = .parkQueued then (s.nak src k.tag nakParkedWaking).refusedSet a r
    else if s.fwd.delayed.length < Config.delayedCap then
      ((s.fileDelayed src k p).accept a r).nak src k.tag nakRetry
    else s.nak src k.tag nakBusy
  | none =>
    if s.fwd.delayed.length < Config.delayedCap then (s.fileDelayed src k p).nak src k.tag nakRetry
    else s.nak src k.tag nakBusy

/-- A request judged against the delayed-transaction table (R38). -/
def State.delayedRequest (s : State) (src : Byte) (k : DelayKey) (p : Option SetRec) : State :=
  match s.findDelayed k with
  | none => s.newDelayed src k p
  | some d =>
    if d.payload ≠ p then s.nak src k.tag nakConflict
    else
      match d.st with
      | .done res _ => s.collect src k.tag k res
      | .queued | .inFlight => s.nak src k.tag nakRetry

/-- A POLL to a station of class PASS or MANAGED (R38); during a drain only a result is delivered (R47). -/
def State.pollStation (s : State) (src dst tag : Byte) : State :=
  let k : DelayKey := ⟨dst, .poll, tag⟩
  if s.draining then
    match s.findDelayed k with
    | some ⟨_, _, none, .done res _, _, _⟩ => s.collect src tag k res
    | _ => s.nak src tag nakBusy
  else s.delayedRequest src k none

/-- A SET to a station of class PASS or MANAGED, judged in R24's order. -/
def State.setStation (s : State) (src dst tag : Byte) (r : SetRec) : State :=
  if s.draining then s.nak src tag nakBusy
  else if r.action = .park ∨ r.action = .wake then s.nak src tag nakReservedAction
  else if (s.pol dst.toNat).nonPosted then s.delayedRequest src ⟨dst, .set, tag⟩ (some r)
  else s.postSet src dst tag r

/-- A DONE entry whose 2000 ms have run is freed (R41). -/
def State.discardDelayed (s : State) (k : DelayKey) : State :=
  match s.findDelayed k with
  | some ⟨_, _, _, .done _ t, _, _⟩ =>
    if t + Config.doneLife ≤ s.now then
      (s.freeDelayed k).countFwd fun c => { c with delayedDiscard := satAdd Config.max16 c.delayedDiscard 1 }
    else s
  | _ => s

/-! ## Broadcasts (R44) -/

/-- A TIME or SET broadcast is dropped (R44). -/
def State.dropBroadcast (s : State) : State :=
  (s.countFwd fun c => { c with broadcastDrop := satAdd Config.max16 c.broadcastDrop 1 }).raise .broadcastDropped

/-- Forward a broadcast under the room test, `none` when it is dropped (R44). -/
def State.forwardBroadcast (s : State) (src tag : Byte) (w : Posting) : Option State :=
  if s.draining then none else s.buffer (s.newEntry src 0 tag w)

/-- The acceptance of a forwarded broadcast SET for every station of class PASS or MANAGED (R44). -/
def State.acceptAll (s : State) (r : SetRec) : State :=
  addresses.foldl (fun t a => if (t.pol a).cls = .absent then t else t.accept a r) s

/-- A broadcast SET (R44). -/
def State.setBroadcast (s : State) (src tag : Byte) (r : SetRec) : State :=
  if r.action = .park ∨ r.action = .wake ∨ s.anyHeld then s.dropBroadcast
  else
    match s.forwardBroadcast src tag (.set r) with
    | none => s.dropBroadcast
    | some t => t.acceptAll r

/-- The clock's judgement of a TIME broadcast (R166). -/
def State.judgeTime (s : State) (v : Nat) : State :=
  if s.cfg.params.takeTime = false then s
  else if Config.weekMs ≤ v then { s with timeRange := satAdd Config.max16 s.timeRange 1 }
  else s.setWeek v

/-- A TIME broadcast (R44, R166). -/
def State.timeBroadcast (s : State) (src tag : Byte) (w : BitVec 32) : State :=
  let s1 := s.judgeTime w.toNat
  match s1.forwardBroadcast src tag (.time w) with
  | none => s1.dropBroadcast
  | some t => t

/-- A C-port frame dropped for its kind (R21, R43, R44). -/
def State.countUnexpected (s : State) : State :=
  s.countFwd fun c => { c with unexpected := satAdd Config.max16 c.unexpected 1 }

/-! ## Losses (R29, R30) -/

def Posting.action : Posting → Action
  | .set r => r.action
  | .time _ => .noop

/-- Loss of a posted or held entry (R30). -/
def State.lose (s : State) (e : Entry) (c : LostCause) (stationCause : Byte) : State :=
  { s with
    fwd :=
      { s.fwd with
        lastLost := ⟨e.dst.toNat, e.tag, e.what.action, c, stationCause⟩
        cnt := { s.fwd.cnt with lost := satAdd Config.max16 s.fwd.cnt.lost 1 } } }.raise .postedLost

/-- The posted or held entry of an order number, the held ones of station `a`. -/
def State.findEntry (s : State) (a seq : Nat) : Option Entry :=
  (s.fwd.posted.find? (fun e => e.seq = seq)).or ((s.st a).hold.find? (fun e => e.seq = seq))

/-- An entry leaves the buffer or its hold list. -/
def State.removeEntry (s : State) (a seq : Nat) : State :=
  { s with fwd := { s.fwd with posted := s.fwd.posted.filter (fun e => e.seq ≠ seq) } }.modSt a fun r =>
    { r with hold := r.hold.filter (fun e => e.seq ≠ seq) }

/-- An entry's attempt count rises by 1; it stays where it is. -/
def State.countAttempt (s : State) (a seq : Nat) : State :=
  let up (e : Entry) : Entry := if e.seq = seq then { e with attempts := e.attempts + 1 } else e
  { s with fwd := { s.fwd with posted := s.fwd.posted.map up } }.modSt a fun r => { r with hold := r.hold.map up }

/-- The outcome of a posted or held entry's exchange (R29): a reply frame, or `none` for no reply. -/
def State.entryOutcome (s : State) (a seq : Nat) (reply : Option Frame) : State :=
  match s.findEntry a seq with
  | none => s
  | some e =>
    match reply with
    | some f =>
      match f.body with
      | .nak c => (s.removeEntry a seq).lose e .refused c
      | _ => s.removeEntry a seq
    | none =>
      if e.attempts + 1 < Config.maxAttempts then s.countAttempt a seq
      else (s.removeEntry a seq).lose e .noReply 0

/-- A delayed entry's exchange ends (R40). -/
def State.delayedOutcome (s : State) (k : DelayKey) (reply : Option Frame) : State :=
  let res : Result := match reply with
    | some f => .frame f
    | none => .noReply
  { s with
    fwd :=
      { s.fwd with
        delayed :=
          s.fwd.delayed.map fun d =>
            if d.key = k ∧ d.st = .inFlight then { d with st := .done res s.now } else d } }

/-! ## Eligibility of entries (R37, R47, R56) -/

/-- An entry of the posted buffer that stands for station `a`. -/
def Entry.standsFor (e : Entry) (a : Nat) : Bool := e.dst.toNat = a || e.broadcast

/-- A delayed entry, not DONE, for station `a` filed before order number `n`. -/
def State.delayedBefore (s : State) (a n : Nat) : Bool :=
  s.fwd.delayed.any (fun d => d.key.dst.toNat = a && d.outstanding && d.seq < n)

/-- A posted or sendable held entry for station `a` accepted before order number `n`. -/
def State.postedBefore (s : State) (a n : Nat) : Bool :=
  s.fwd.posted.any (fun e => e.standsFor a && e.seq < n) || (s.sendable a).any (fun e => e.seq < n)

/-- An entry for one station is eligible (R37). -/
def State.entryEligible (s : State) (e : Entry) : Bool :=
  let a := e.dst.toNat
  !s.postedBefore a e.seq && !s.delayedBefore a e.seq

/-- A broadcast entry is eligible (R37): it counts as an entry for every station (log 9). -/
def State.broadcastEligible (s : State) (e : Entry) : Bool :=
  !s.fwd.posted.any (fun x => x.seq < e.seq)
    && !addresses.any (fun a => (s.sendable a).any (fun x => x.seq < e.seq))
    && !s.fwd.delayed.any (fun d => d.outstanding && d.seq < e.seq)

/-- A posted-buffer entry is eligible during a drain (R47). -/
def State.drainEligible (s : State) (e : Entry) : Bool :=
  !s.fwd.posted.any (fun x => x.seq < e.seq && (e.broadcast || x.standsFor e.dst.toNat))
    && !s.fwd.delayed.any (fun d =>
        (e.broadcast || d.key.dst = e.dst) && d.st = .inFlight && d.seq < e.seq)

/-- Class P (R56): the eligible posted and sendable held entries; during a drain the posted ones alone. -/
def State.classP (s : State) : List Entry :=
  if s.draining then s.fwd.posted.filter s.drainEligible
  else
    s.fwd.posted.filter (fun e => if e.broadcast then s.broadcastEligible e else s.entryEligible e)
      ++ addresses.flatMap (fun a => (s.sendable a).filter s.entryEligible)

/-- Class R (R56): the eligible QUEUED delayed entries; empty during a drain. -/
def State.classR (s : State) : List Delayed :=
  if s.draining then []
  else s.fwd.delayed.filter (fun d => d.st = .queued && !s.postedBefore d.key.dst.toNat d.seq)

end Sys2Proof.Machine
end

