-- ==== Sys2Proof/Machine/Scan.lean ====
section
/-! DEFINITION. The night scanner: starting, selecting, the outcome of its poll, stopping (R176 to R180). -/

namespace Sys2Proof.Machine

def State.setScan (s : State) (c : Scanner) : State := { s with scan := c }

/-- The scanner becomes IDLE. -/
def Scanner.idled (c : Scanner) : Scanner := { c with st := .idle, waitEnd := none, stopPending := false }

/-- A fresh station (R177). -/
def State.fresh (s : State) (a : Nat) : Bool :=
  !(s.st a).notFresh && (s.st a).seen.any (fun t => s.now - t < s.cfg.scan.freshWindow * 1000)

/-- The slot at the current position. -/
def State.scanSlot (s : State) : Nat := s.cfg.scan.slots[s.scan.pos]?.getD 0

/-- The entry at the current position is skipped: in SINGLE mode the scanner becomes IDLE, otherwise `next`
selects again (R177). -/
def State.scanSkip (s : State) (counted : Bool) (next : State → State) : State :=
  let c := { s.scan with
    pos := s.scan.pos + 1
    freshSkips := if counted then satAdd Config.max16 s.scan.freshSkips 1 else s.scan.freshSkips }
  if c.running = .single then s.setScan c.idled else next (s.setScan c)

/-- Entry selection (R177). The gate's own address is passed over as an ABSENT one is (R67, log 14). A pass begun
at once is followed by no other in the same step, so 80 selections are never used up. -/
def State.scanSelect : Nat → State → State
  | 0, s => s.setScan s.scan.idled
  | fuel + 1, s =>
    let c := s.scan
    if s.cfg.scan.len ≤ c.pos then
      match c.running with
      | .single | .sequence => s.setScan c.idled
      | .repeating =>
        let due := c.passStart + s.cfg.scan.period * 1000
        if s.now < due then s.setScan { c with st := .waiting, waitEnd := some due }
        else scanSelect fuel (s.setScan { c with passStart := s.now, pos := s.cfg.scan.startIdx })
    else
      let a := s.scanSlot
      if (s.pol a).cls = .absent ∨ a = s.straps.addr then s.scanSkip false (scanSelect fuel)
      else if s.fresh a then s.scanSkip true (scanSelect fuel)
      else s.setScan { c with st := .scanning, waitEnd := none }

def State.scanNext (s : State) : State := State.scanSelect 80 s

/-- A scan starts (R176). -/
def State.startScan (s : State) (m : ScanMode) : State :=
  (s.setScan { s.scan with
    pos := s.cfg.scan.startIdx, passStart := s.now, stopPending := false, waitEnd := none, running := m }).scanNext

/-- Auto-start at the end of each reset (R176): as REPEAT. -/
def State.autoScan (s : State) : State :=
  if s.cfg.scan.autoStart ∧ 0 < s.cfg.scan.len then s.startScan .repeating else s

/-- The scan poll's exchange ends (R178, R179). -/
def State.scanOutcome (s : State) (a : Nat) (replied : Bool) : State :=
  let s1 :=
    if replied then s else s.modSt a (fun r => { r with scanMiss := satAdd Config.max16 r.scanMiss 1 })
  let c := s1.scan
  if c.running = .single then s1.setScan c.idled
  else
    let c1 := { c with pos := c.pos + 1 }
    if c.stopPending then s1.setScan c1.idled
    else if s1.cfg.scan.spacing = 0 then (s1.setScan c1).scanNext
    else s1.setScan { c1 with st := .waiting, waitEnd := some (s1.now + s1.cfg.scan.spacing) }

/-- The scanner's poll waits in class S (R59): SCANNING, and its exchange not under way. -/
def State.scanOffers (s : State) : Bool :=
  s.scan.st = .scanning && !s.master.underWay.any (fun x => x.cls = .s)

/-- SCAN STOP (R179). -/
def State.stopScan (s : State) : State :=
  match s.scan.st with
  | .idle => s
  | .waiting => s.setScan s.scan.idled
  | .scanning => if s.scanOffers then s.setScan s.scan.idled else s.setScan { s.scan with stopPending := true }

end Sys2Proof.Machine
end

