-- ==== Sys2Proof/Machine/Master.lean ====
section
/-! DEFINITION. The Field line master: the four classes, arbitration, grants, the ends of exchanges, and what
every step ends with (R49, R53 to R62, R174). -/

namespace Sys2Proof.Machine

def State.setMaster (s : State) (m : Master) : State := { s with master := m }

/-! ## Picking within a class -/

/-- The entry of a list with the smallest value of `key`, the first of equals. -/
def least {α : Type} (key : α → Nat) : List α → Option α
  | [] => none
  | x :: xs =>
    match least key xs with
    | none => some x
    | some y => if key x ≤ key y then some x else some y

/-- The address with the smallest time among those `time` gives one, equal times by lower address (R57). -/
def earliest (time : Nat → Option Nat) : Option Nat :=
  (least Prod.snd (addresses.filterMap (fun a => (time a).map (fun t => (a, t))))).map Prod.fst

/-- Rank 1 of class G: WAKEs, by warning satisfaction (R57). -/
def State.pickWake (s : State) : Option Nat :=
  earliest fun a => if s.inPhase a .waking .command then some ((s.st a).satisfiedAt.getD 0) else none

/-- A follow-up that is due (R58). -/
def State.followUpTime (s : State) (a : Nat) : Option Nat :=
  if s.inPhase a .parking .coast || s.inPhase a .waking .settle then
    (s.st a).nextFollowUp.filter (fun t => t ≤ s.now)
  else none

/-- Rank 2 of class G: follow-up polls that are due (R57). -/
def State.pickFollowUp (s : State) : Option Nat := earliest s.followUpTime

/-- Rank 3 of class G: PARK retries, earliest first send first (R57). -/
def State.pickRetry (s : State) : Option Nat :=
  earliest fun a => if s.inPhase a .parking .command then some ((s.st a).firstSent.getD 0) else none

/-- A request class G offers. -/
inductive Offer where
  | request (a : Nat) (q : GateReq)
  | head (a : Nat)
deriving DecidableEq, Repr

/-- The first request of class G (R57); none during a drain. -/
def State.pickG (s : State) : Option Offer :=
  if s.draining then none
  else
    match s.pickWake with
    | some a => some (.request a .wake)
    | none =>
      match s.pickFollowUp with
      | some a => some (.request a .followUp)
      | none =>
        match s.pickRetry with
        | some a => some (.request a .park)
        | none => s.mayPark.map .head

/-- What an arbitration grants. -/
inductive Grant where
  | r (d : Delayed)
  | p (e : Entry)
  | g (o : Offer)
  | s (a : Nat)
deriving DecidableEq, Repr

/-- Class S (R59): the scanner's poll; none during a drain. -/
def State.pickS (s : State) : Option Nat := if !s.draining && s.scanOffers then some s.scanSlot else none

/-- Arbitration (R60): the first line of the table that applies. -/
def State.arbitration (s : State) : Option Grant :=
  let r := (least Delayed.seq s.classR).map Grant.r
  let p := (least Entry.seq s.classP).map Grant.p
  let g := s.pickG.map Grant.g
  let sc := s.pickS.map Grant.s
  if g.isSome ∧ s.master.gPass = 4 then g
  else if sc.isSome ∧ s.master.sPass = 8 then sc
  else r.or (p.or (g.or sc))

/-! ## Grants (R49, R55, R60) -/

/-- The pass counts after a grant (R60). -/
def Master.passed (m : Master) : ReqClass → Master
  | .r | .p => { m with gPass := min (m.gPass + 1) 4, sPass := min (m.sPass + 1) 8 }
  | .g => { m with gPass := 0, sPass := min (m.sPass + 1) 8 }
  | .s => { m with gPass := 0, sPass := 0 }

/-- The current exchange is built and its frame offered to the F-port (R49). -/
def State.startExchange (s : State) (x : Exchange) : State :=
  (s.setMaster { s.master.passed x.cls with st := .sending x }).offer .f x.frame

/-- A frame of the gate's own for the field with the current gate tag, which then rises by 1 (R55). -/
def State.startOwn (s : State) (c : ReqClass) (q : ReqRef) (a : Nat) (b : Body) : State :=
  let f : Frame := { dst := byte a, src := byte s.straps.addr, tag := s.master.gateTag, body := b }
  (s.setMaster { s.master with gateTag := s.master.gateTag + 1 }).startExchange ⟨c, q, f⟩

/-- The body of a gate request (R55). -/
def GateReq.body : GateReq → Body
  | .park => .set ⟨.park, false, 0⟩
  | .wake => .set ⟨.wake, false, 0⟩
  | .followUp => .poll

def Posting.body : Posting → Body
  | .set r => .set r
  | .time w => .time w

/-- The frame of a delayed request (R23). -/
def Delayed.frame (d : Delayed) : Frame :=
  { dst := d.key.dst, src := d.src, tag := d.key.tag
    body := match d.payload with
      | some r => .set r
      | none => .poll }

/-- The frame of a posted or held entry (R23). -/
def Entry.frame (e : Entry) : Frame := { dst := e.dst, src := e.src, tag := e.tag, body := e.what.body }

def State.markInFlight (s : State) (k : DelayKey) : State :=
  { s with
    fwd :=
      { s.fwd with delayed := s.fwd.delayed.map fun d => if d.key = k then { d with st := .inFlight } else d } }

/-- One arbitration after another until a grant stands or no class has a request (R60, R62): a head that fails its
re-check leaves the park queue and the grant is withdrawn. -/
def State.arbitrate : Nat → State → State
  | 0, s => s
  | fuel + 1, s =>
    match s.arbitration with
    | none => s
    | some (.r d) => (s.markInFlight d.key).startExchange ⟨.r, .delayed d.key, d.frame⟩
    | some (.p e) => s.startExchange ⟨.p, .entry e.seq, e.frame⟩
    | some (.g (.request a q)) => s.startOwn .g (.gate a q) a q.body
    | some (.g (.head a)) =>
      if s.recheck a then (s.startPark a).startOwn .g (.gate a .park) a GateReq.park.body
      else arbitrate fuel (s.leavePark a false)
    | some (.s a) => s.startOwn .s (.scan a) a .poll

/-- Whether the master may take a grant: IDLE, on the line (R60, R65). -/
def State.mayGrant (s : State) : Bool := s.online && s.master.st = .idle

/-- A drain of the gate mode that has no station left in hand ends in PASS (R174). -/
def State.modeCheck (s : State) : State :=
  if s.mode = .draining ∧ s.anyHeld = false then { s with mode := .pass } else s

/-- What a step that may have changed a request or a state ends with: the mode check and, with the master IDLE,
an arbitration (R60, R174). DESIGN CHOICE (log 30): where one step brings several requests to an IDLE master, it
arbitrates once, at the step's end, among all of them, and not at the first to arise. -/
def State.finish (s : State) : State :=
  let s1 := s.modeCheck
  if s1.mayGrant then State.arbitrate (s1.parkQ.length + 1) s1 else s1

/-! ## Ends of exchanges (R49 to R54, R58, R61) -/

/-- Whether a frame is the reply of an exchange (R50). -/
def Exchange.fits (x : Exchange) (f : Frame) : Bool :=
  f.src = x.frame.dst && f.tag = x.frame.tag &&
    match x.frame.body, f.body with
    | .poll, .status _ => true
    | .poll, .nak _ => true
    | .set _, .ack _ => true
    | .set _, .nak _ => true
    | _, _ => false

/-- The master enters GAP for 3 character times (R53). -/
def State.enterGap (s : State) (x : Exchange) : State :=
  s.setMaster { s.master with st := .gap x (s.lineTime + 3 * s.charTime) }

/-- The attempt count of a station rises by 1. -/
def State.countTry (s : State) (a : Nat) : State := s.modSt a (fun r => { r with attempts := r.attempts + 1 })

/-- The outcome of a PARK (R61, R119). -/
def State.parkOutcome (s : State) (a : Nat) (reply : Option Frame) : State :=
  if s.inPhase a .parking .command then
    match reply with
    | some f =>
      match f.body with
      | .ack _ => s.parkAcked a
      | _ => s.parkRefused a
    | none =>
      if (s.st a).attempts + 1 < Config.maxAttempts then s.countTry a else s.enterFaulted a .parkNoReply
  else s

/-- The WAKE is answered ACK (R156). -/
def State.wakeAcked (s : State) (a : Nat) : State :=
  let now := s.now
  let p := s.pol a
  s.modSt a fun r =>
    { r with
      phase := .settle, phaseDeadline := some (now + p.startTimeout * 1000), attempts := 0,
      nextFollowUp := some (now + Config.followUp), satisfiedAt := none }

/-- The outcome of a WAKE (R61, R156). -/
def State.wakeOutcome (s : State) (a : Nat) (reply : Option Frame) : State :=
  if s.inPhase a .waking .command then
    match reply with
    | some f =>
      match f.body with
      | .ack _ => s.wakeAcked a
      | _ => s.enterFaulted a .wakeRefused
    | none =>
      if (s.st a).attempts + 1 < Config.maxAttempts then s.countTry a else s.enterFaulted a .wakeNoReply
  else s

/-- The outcome of a follow-up poll (R58). -/
def State.followUpOutcome (s : State) (a : Nat) (replied : Bool) : State :=
  let now := s.now
  if s.inPhase a .parking .coast || s.inPhase a .waking .settle then
    if replied ∨ Config.maxAttempts ≤ (s.st a).attempts + 1 then
      s.modSt a (fun r => { r with attempts := 0, nextFollowUp := some (now + Config.followUp) })
    else s.countTry a
  else s

/-- The outcome of an exchange goes to the request's owner (R54). -/
def State.outcome (s : State) (x : Exchange) (reply : Option Frame) : State :=
  match x.req with
  | .delayed k => s.delayedOutcome k reply
  | .entry n => s.entryOutcome x.frame.dst.toNat n reply
  | .gate a .park => s.parkOutcome a reply
  | .gate a .wake => s.wakeOutcome a reply
  | .gate a .followUp => s.followUpOutcome a reply.isSome
  | .scan a => s.scanOutcome a reply.isSome

/-- A STATUS that replies to an exchange is an observation of its source (R54, R72). -/
def State.observeReply (s : State) (f : Frame) : State :=
  match f.body with
  | .status r => s.observe f.src.toNat r
  | _ => s

/-- An exchange ends with a reply (R50, R54): GAP, the observation, then the owner's outcome (log 24). -/
def State.takeReply (s : State) (x : Exchange) (f : Frame) : State :=
  (((s.enterGap x).observeReply f).outcome x (some f)).finish

/-- An exchange ends at its reply deadline (R49). -/
def State.missReply (s : State) (x : Exchange) : State :=
  let s1 := s.enterGap x
  let s2 := s1.setMaster { s1.master with replyTimeouts := satAdd Config.max16 s1.master.replyTimeouts 1 }
  (s2.outcome x none).finish

/-- Send completion of the F-port's frame at the master (R44, R49): a broadcast entry is removed and the master
goes to GAP; any other request awaits its reply. -/
def State.requestSent (s : State) : State :=
  match s.master.st with
  | .sending x =>
    match x.req, x.frame.dst.toNat with
    | .entry n, 0 => (s.removeEntry 0 n).enterGap x
    | _, _ =>
      s.setMaster
        { s.master with
          st := .awaitReply x (s.lineTime + s.cfg.params.replyTimeout * Config.unitsPerMs) }
  | _ => s

/-- A valid F-port frame at the master (R50 to R52). -/
def State.fieldFrame (s : State) (f : Frame) : State :=
  match f.body with
  | .mgmt _ => s.setMaster { s.master with fMgmt := satAdd Config.max16 s.master.fMgmt 1 }
  | _ =>
    match s.master.st with
    | .awaitReply x _ =>
      if x.fits f then s.takeReply x f
      else s.setMaster { s.master with stray := satAdd Config.max16 s.master.stray 1 }
    | _ => s.setMaster { s.master with unsolicited := satAdd Config.max16 s.master.unsolicited 1 }

end Sys2Proof.Machine
end

