-- ==== Sys2Proof/Machine/Manage.lean ====
section
/-! DEFINITION. The Management unit: the check order, the thirty requests with their effects and reply data, and
the gate status record (R18, R19, R181 to R190, and the requests' own rules). -/

namespace Sys2Proof.Machine

/-- What a request leaves: the state, the result and the reply data. -/
structure Verdict where
  state : State
  res : Res
  data : List Byte
deriving DecidableEq, Repr

def State.refuse (s : State) (r : Res) : Verdict := ⟨s, r, []⟩
def State.ok (s : State) : Verdict := ⟨s, .ok, []⟩
def State.reply (s : State) (data : List Byte) : Verdict := ⟨s, .ok, data⟩

/-! ## Check order (R181, R182) -/

/-- The requests admitted in every access state (R182). -/
def Req.always : Req → Bool
  | .readStation | .readStatistics | .readGroup | .readWindow | .readZone | .readScanList
  | .readGateParameters | .readLastLost | .scanStop | .ackAttention | .freeze => true
  | _ => false

/-- Check 3 (R182, R187): UNLOCK is admitted in LOCKED, nothing guarded is in FROZEN. -/
def State.accessRefusal (s : State) (q : Req) : Option Res :=
  if q.always then none
  else
    match s.access with
    | .isOpen | .unlocked => none
    | .locked => if q = .unlock then none else some .access
    | .frozen => some .frozen

/-- Whether a request's refusal during a SAVE goes before RANGE. R181's table puts it after; for WRITE GROUP and WRITE
SCAN LIST the request's own rule puts it before (R138, R175), no rule decides between the two, and the part's order is
left free (log 29). -/
def Req.saveFirst : Req → Bool
  | .writeGroup => Config.groupSaveFirst
  | .writeScanList => Config.scanListSaveFirst
  | _ => false

/-- A SAVE under way shuts the request out (R182). -/
def State.shutOut (s : State) (q : Req) : Bool := !q.always && s.saving.isSome

/-- Checks 2 to 5 of R181, up to the request's own state tests, which `act` holds. They are taken in R181's order, but
that a SAVE under way may go before the range of the two requests of `Req.saveFirst` (log 29). -/
def State.judge (s : State) (q : Req) (lengthOk rangeOk : Bool) (act : Verdict) : Verdict :=
  if lengthOk = false then s.refuse .badLength
  else
    match s.accessRefusal q with
    | some r => s.refuse r
    | none =>
      if s.shutOut q && (rangeOk || q.saveFirst) then s.refuse .busy
      else if rangeOk = false then s.refuse .range
      else act

/-! ## Station requests (R84 to R88, R104, R105, R185) -/

/-- READ STATION, part 0 (R184, R185). -/
def State.runtimeBytes (s : State) (a : Nat) : List Byte :=
  let r := s.st a
  let snap := r.snapshot.getD ⟨.stopped, .none, 0, 0, false⟩
  let queue : Byte := if s.demandQ.contains a then 1 else if s.schedQ.contains a then 2 else 0
  [r.state.code, r.phase.code, queue, r.shadow.code, (r.fault.map FaultCause.code).getD 0] ++ be16 r.credit
    ++ [byte r.remainder, flagByte r.exempt, flagByte r.autoExempt, flagByte r.demand, flagByte r.lock.isSome,
        flagByte r.notFresh, flagByte r.snapshot.isSome, snap.run.code, snap.cause.code]
    ++ be16 snap.load ++ be16 snap.aux
    ++ [flagByte snap.ready, byte r.hold.length, byte (r.recentStarts s.now).length] ++ be16 r.scanMiss

def State.reqReadStation (s : State) : List Byte → Verdict
  | [a, part] =>
    s.judge .readStation true (s.named a.toNat && part.toNat ≤ 1)
      (s.reply (if part = 0 then s.runtimeBytes a.toNat else (s.pol a.toNat).bytes))
  | _ => s.judge .readStation false true s.ok

/-- States in which policy may be written (R87). -/
def StState.writable : StState → Bool
  | .unknown | .free | .faulted => true
  | _ => false

/-- An accepted policy write (R88, R102, R147). DESIGN CHOICE (log 31): it leaves a WAKING station that the written
station supports as it is; R155 names no undoing at a policy write, and no WAKE is judged again before it is sent. -/
def State.writePolicy (s : State) (a : Nat) (p : Policy) : State :=
  (((s.setPol a p).failLimitTest a).admissionPass).finish

def State.reqWriteStationPolicy (s : State) : List Byte → Verdict
  | [] => s.judge .writeStationPolicy false true s.ok
  | a :: body =>
    match Policy.ofBytes body with
    | none => s.judge .writeStationPolicy (body.length = 27) false s.ok
    | some p =>
      s.judge .writeStationPolicy true (s.named a.toNat && p.inRange)
        (if (s.st a.toNat).state.writable then (s.writePolicy a.toNat p).ok else s.refuse .stationState)

/-- HOLD AWAKE on a station (R85). -/
def State.holdAwake (s : State) (a : Nat) : State :=
  let s1 := s.modSt a (fun r => { r with exempt := true })
  (if (s.st a).state = .parkQueued then s1.leavePark a false else s1.takeWake a .demand).finish

def State.reqHoldAwake (s : State) : List Byte → Verdict
  | [a] => s.judge .holdAwake true (s.named a.toNat) (s.holdAwake a.toNat).ok
  | _ => s.judge .holdAwake false true s.ok

def State.reqRelease (s : State) : List Byte → Verdict
  | [a] =>
    s.judge .release true (s.named a.toNat) (s.modSt a.toNat (fun r => { r with exempt := false })).ok
  | _ => s.judge .release false true s.ok

/-- The record CLEAR FAULT leaves (R84). -/
def Station.cleared (r : Station) : Station :=
  { r with
    state := .unknown, fault := none, snapshot := none, seen := none, credit := 0, remainder := 0, lastObs := 0,
    parkedSince := none }

def State.reqClearFault (s : State) : List Byte → Verdict
  | [a] =>
    s.judge .clearFault true (s.named a.toNat)
      (if (s.st a.toNat).state = .faulted then (s.modSt a.toNat Station.cleared).ok else s.refuse .stationState)
  | _ => s.judge .clearFault false true s.ok

/-- The seven counters of a port in R10's order (R11). -/
def LineCounters.bytes (c : LineCounters) : List Byte :=
  be16 c.framing ++ be16 c.parity ++ be16 c.timeout ++ be16 c.cutOff ++ be16 c.length ++ be16 c.crc ++ be16 c.shape

def State.lineBytes (s : State) : List Byte := s.cport.cnt.bytes ++ s.fport.cnt.bytes

/-- The nine statistics and auto-exempt (R184). -/
def Station.statBytes (r : Station) : List Byte :=
  be16 r.stats.parks ++ be16 r.stats.wakes ++ be16 r.stats.parkRefusals
    ++ [byte r.stats.parkFailures, byte r.stats.wakeFailures] ++ be16 r.stats.localOverrides
    ++ be16 r.stats.busyResets ++ be32 r.stats.parkedSeconds ++ be48 r.stats.energy ++ [flagByte r.autoExempt]

/-- A PARKED station is accounted to now (R100). -/
def State.accountParked (s : State) (a : Nat) : State := if (s.st a).state = .parked then s.account a else s

/-- An address of a statistics request: a station or the gate itself (R104, R105). -/
def statAddress (a : Byte) : Bool := 1 ≤ a.toNat && a.toNat ≤ 127

def State.reqReadStatistics (s : State) : List Byte → Verdict
  | [a] =>
    let s1 := s.accountParked a.toNat
    s.judge .readStatistics true (statAddress a)
      (if a.toNat = s.straps.addr then s.reply s.lineBytes else s1.reply (s1.st a.toNat).statBytes)
  | _ => s.judge .readStatistics false true s.ok

def State.clearLines (s : State) : State :=
  { s with cport := { s.cport with cnt := .zero }, fport := { s.fport with cnt := .zero } }

def State.clearStats (s : State) (a : Nat) : State :=
  (s.accountParked a).modSt a (fun r => { r with stats := .zero, autoExempt := false })

def State.reqClearStatistics (s : State) : List Byte → Verdict
  | [a] =>
    s.judge .clearStatistics true (statAddress a)
      (if a.toNat = s.straps.addr then s.clearLines.ok else (s.clearStats a.toNat).ok)
  | _ => s.judge .clearStatistics false true s.ok

/-! ## Groups (R126, R138, R139, R155) -/

def State.reqReadGroup (s : State) : List Byte → Verdict
  | [i] =>
    let g := s.group i.toNat
    s.judge .readGroup true (i.toNat ≤ 31)
      (s.reply ([g.kind, flagByte (s.isStarved i.toNat)] ++ g.fields))
  | _ => s.judge .readGroup false true s.ok

/-- The lengths WRITE GROUP takes for a kind (R183). -/
def groupLength (kind : Byte) (n : Nat) : Bool :=
  match kind.toNat with
  | 0 => n = 0
  | 1 => n = 15
  | 2 => n = 18
  | _ => n = 0 || n = 15 || n = 18

/-- The stations in WAKING phase WARN or COMMAND to which a written entry gives a supporter, not ABSENT, that is
not FREE (R155), in rising address order. -/
def State.undoneBy (s : State) : Group → List Nat
  | .support ps qs =>
    if ps.any (fun p => (s.pol p).cls != .absent && (s.st p).state != .free) then
      addresses.filter fun a =>
        qs.contains a && (s.inPhase a .waking .warn || s.inPhase a .waking .command)
    else []
  | .empty | .quorum .. => []

/-- One admission undone (R155). -/
def State.undoAdmission (s : State) (a : Nat) : State :=
  let q : Priority := if (s.st a).demand then .demand else .scheduled
  ((s.modSt a fun r =>
      { r with state := .wakeQueued, phase := .none, attempts := 0, satisfiedAt := none }).enqueue a q).afterEntry a

/-- The WAKE_QUEUED stations a written SUPPORT entry names as supported, in rising address order (R139). -/
def State.queuedUnder (s : State) : Group → List Nat
  | .support _ qs => addresses.filter (fun a => qs.contains a && (s.st a).state = .wakeQueued)
  | .empty | .quorum .. => []

def State.setGroup (s : State) (i : Nat) (g : Group) : State :=
  { s with cfg := { s.cfg with groups := s.cfg.groups.setIfInBounds i g }, starved := s.starved.setIfInBounds i false }

/-- An accepted group write (R139, R155). DESIGN CHOICE (log 25): the supported stations already WAKE_QUEUED are
walked first, then the admissions are undone; the spec gives no order between the two. -/
def State.writeGroup (s : State) (i : Nat) (g : Group) : State :=
  let s1 := s.setGroup i g
  let s2 := (s1.queuedUnder g).foldl State.afterEntry s1
  let s3 := (s2.undoneBy g).foldl State.undoAdmission s2
  s3.admissionPass.finish

/-- Checks 2 and 3 of R138, then the write. -/
def State.tryGroup (s : State) (i : Nat) (g : Group) : Verdict :=
  let table := (s.cfg.groups.setIfInBounds i g).toList
  if withinLimit table g = false then s.refuse .groupLimit
  else if hasCycle table then s.refuse .groupCycle
  else (s.writeGroup i g).ok

def State.reqWriteGroup (s : State) : List Byte → Verdict
  | i :: kind :: bs =>
    match Group.ofFields kind bs with
    | none => s.judge .writeGroup (groupLength kind bs.length) false s.ok
    | some g =>
      s.judge .writeGroup (groupLength kind bs.length) (i.toNat ≤ 31 && s.groupInRange g) (s.tryGroup i.toNat g)
  | _ => s.judge .writeGroup false true s.ok

/-! ## Windows, zones, clock, mode (R153, R160, R165, R167, R170, R173, R174) -/

def State.window (s : State) (i : Nat) : Window := s.cfg.windows[i]?.getD ⟨0, 0, 0, 0⟩

def State.reqReadWindow (s : State) : List Byte → Verdict
  | [i] => s.judge .readWindow true (i.toNat ≤ 15) (s.reply (s.window i.toNat).bytes)
  | _ => s.judge .readWindow false true s.ok

def State.setWindow (s : State) (i : Nat) (w : Window) : State :=
  { s with cfg := { s.cfg with windows := s.cfg.windows.setIfInBounds i w } }

/-- An accepted window write (R170). -/
def State.writeWindow (s : State) (i : Nat) (w : Window) : State :=
  (((s.setWindow i w).closeThose s.openUntilNow).rearmWakeDue).finish

def State.reqWriteWindow (s : State) : List Byte → Verdict
  | [i, zm, dm, o1, o0, c1, c0] =>
    let w : Window := ⟨zm.toNat, dm.toNat, beVal [o1, o0], beVal [c1, c0]⟩
    s.judge .writeWindow true (i.toNat ≤ 15 && w.dayMask ≤ 127 && w.openMin ≤ 1439 && w.closeMin ≤ 1439)
      (s.writeWindow i.toNat w).ok
  | _ => s.judge .writeWindow false true s.ok

/-- READ ZONE's data (R153, R184): times as milliseconds from now, 0 when absent or past. -/
def State.zoneBytes (s : State) (z : Nat) : List Byte :=
  let c := s.zoneCfg z
  let r := s.zone z
  [byte c.warnTime, c.pattern.code, flagByte r.sounding.isSome]
    ++ be32 ((r.sounding.map (fun x => x.ends - s.now)).getD 0) ++ be32 (r.warnedUntil - s.now)

def State.reqReadZone (s : State) : List Byte → Verdict
  | [z] => s.judge .readZone true (z.toNat ≤ 7) (s.reply (s.zoneBytes z.toNat))
  | _ => s.judge .readZone false true s.ok

def State.setZoneCfg (s : State) (z : Nat) (c : ZoneCfg) : State :=
  { s with cfg := { s.cfg with zones := s.cfg.zones.setIfInBounds z c } }

def State.reqWriteZone (s : State) : List Byte → Verdict
  | [z, t, p] =>
    match Pattern.ofCode p with
    | none => s.judge .writeZone true false s.ok
    | some pat =>
      s.judge .writeZone true (z.toNat ≤ 7 && t.toNat ≤ 60) (s.setZoneCfg z.toNat ⟨t.toNat, pat⟩).ok
  | _ => s.judge .writeZone false true s.ok

def State.reqSetClock (s : State) : List Byte → Verdict
  | [b3, b2, b1, b0] =>
    let v := beVal [b3, b2, b1, b0]
    s.judge .setClock true (v < Config.weekMs) (s.setWeek v).finish.ok
  | _ => s.judge .setClock false true s.ok

/-- The PARKED stations, in rising address order. -/
def State.parkedStations (s : State) : List Nat := addresses.filter (fun a => (s.st a).state = .parked)

/-- From ACTIVE toward PASS (R174). -/
def State.startDraining (s : State) : State :=
  let s1 := { s with mode := .draining }.leaveParkAll s.parkQ
  s1.takeWakes .scheduled s1.parkedStations

/-- SET MODE with target ACTIVE or PASS (R173). -/
def State.toMode (s : State) (active : Bool) : State :=
  if active then { s with mode := .active }
  else if s.mode = .active then s.startDraining.finish
  else s

def State.reqSetMode (s : State) : List Byte → Verdict
  | [m] => s.judge .setMode true (m.toNat ≤ 1) (s.toMode (m = 1)).ok
  | _ => s.judge .setMode false true s.ok

/-- WAKE ZONES (R160). -/
def State.wakeZones (s : State) (mask : Nat) : State :=
  (s.takeWakes .scheduled (s.parkedStations.filter (fun a => mask.testBit (s.pol a).zone))).finish

def State.reqWakeZones (s : State) : List Byte → Verdict
  | [m] => s.judge .wakeZones true true (s.wakeZones m.toNat).ok
  | _ => s.judge .wakeZones false true s.ok

/-! ## Scanner requests (R175, R176, R179) -/

/-- READ SCAN LIST's data (R184). -/
def State.scanBytes (s : State) (part first : Nat) : List Byte :=
  let c := s.scan
  if part = 0 then
    [byte s.cfg.scan.len, c.st.code, byte c.pos] ++ be16 c.freshSkips
      ++ ((s.cfg.scan.slots.toList.drop first).take Config.scanRun).map byte
  else s.cfg.scan.paramBytes ++ [c.st.code, byte c.pos] ++ be16 c.freshSkips

def State.reqReadScanList (s : State) : List Byte → Verdict
  | [part, first] =>
    s.judge .readScanList true (part.toNat ≤ 1 && first.toNat ≤ 31) (s.reply (s.scanBytes part.toNat first.toNat))
  | _ => s.judge .readScanList false true s.ok

/-- Addresses placed from a position onward. -/
def placeRun (v : Vector Nat 32) (pos : Nat) : List Nat → Vector Nat 32
  | [] => v
  | a :: as => placeRun (v.setIfInBounds pos a) (pos + 1) as

def State.setScanCfg (s : State) (c : ScanCfg) : State := { s with cfg := { s.cfg with scan := c } }

/-- An accepted scan write: refused while the scanner is not IDLE (R175). -/
def State.writeScan (s : State) (c : ScanCfg) : Verdict :=
  if s.scan.st = .idle then (s.setScanCfg c).ok else s.refuse .busy

/-- The list form of WRITE SCAN LIST after its form byte (R175, R183). -/
def State.scanListForm (s : State) : List Byte → Verdict
  | len :: first :: count :: run =>
    let c := s.cfg.scan
    let slots := placeRun c.slots first.toNat (run.map BitVec.toNat)
    let good :=
      count.toNat ≤ Config.scanRun && 1 ≤ len.toNat && len.toNat ≤ 32 && first.toNat ≤ 31
        && run.all (fun a => s.named a.toNat) && first.toNat + run.length ≤ 32
        && (slots.toList.take len.toNat).all (fun a => a != 0) && c.startIdx < len.toNat
    s.judge .writeScanList (run.length = count.toNat) good
      (s.writeScan { c with slots := slots, len := len.toNat })
  | _ => s.judge .writeScanList false true s.ok

/-- The parameter form of WRITE SCAN LIST after its form byte (R175, R183). -/
def State.scanParamForm (s : State) : List Byte → Verdict
  | [m, start, sp1, sp0, pe1, pe0, fresh, auto_] =>
    let c := s.cfg.scan
    match ScanMode.ofCode m, flagOf auto_ with
    | some mode, some auto =>
      let n : ScanCfg :=
        { c with
          mode := mode, startIdx := start.toNat, spacing := beVal [sp1, sp0], period := beVal [pe1, pe0],
          freshWindow := fresh.toNat, autoStart := auto }
      s.judge .writeScanList true
        (n.startIdx ≤ 31 && n.spacing ≤ 1000 && 1 ≤ n.period && n.period ≤ 3600 && n.freshWindow ≤ 60
          && (c.len = 0 || n.startIdx < c.len))
        (s.writeScan n)
    | _, _ => s.judge .writeScanList true false s.ok
  | _ => s.judge .writeScanList false true s.ok

/-- WRITE SCAN LIST (R175, R183). A form outside the two fails check 4 with a length some form could have, and
check 2 otherwise (log 16). -/
def State.reqWriteScanList (s : State) : List Byte → Verdict
  | [] => s.judge .writeScanList false true s.ok
  | form :: rest =>
    match form.toNat with
    | 0 => s.scanListForm rest
    | 1 => s.scanParamForm rest
    | _ =>
      s.judge .writeScanList
        (rest.length = 8 || (3 ≤ rest.length && rest.length = 3 + (rest.getD 2 0).toNat)) false s.ok

/-- SCAN START (R176). -/
def State.reqScanStart (s : State) : List Byte → Verdict
  | [] =>
    s.judge .scanStart true (1 ≤ s.cfg.scan.len)
      (if s.scan.st = .idle then (s.startScan s.cfg.scan.mode).finish.ok else s.refuse .busy)
  | _ => s.judge .scanStart false true s.ok

def State.reqScanStop (s : State) : List Byte → Verdict
  | [] => s.judge .scanStop true true s.stopScan.ok
  | _ => s.judge .scanStop false true s.ok

/-! ## Gate parameters, attention, last lost (R30, R45, R64, R166, R186, R189) -/

def State.paramBytes (s : State) : List Byte :=
  let p := s.cfg.params
  [byte p.budget, byte p.parkLimit, byte p.replyTimeout, flagByte p.takeTime] ++ be16 s.master.stray
    ++ be16 s.master.unsolicited ++ be16 s.master.replyTimeouts ++ be16 s.master.fMgmt ++ be16 s.timeRange

def State.reqReadGateParameters (s : State) : List Byte → Verdict
  | [] => s.judge .readGateParameters true true (s.reply s.paramBytes)
  | _ => s.judge .readGateParameters false true s.ok

def GateParams.inRange (p : GateParams) : Bool :=
  1 ≤ p.budget && p.budget ≤ 63 && 1 ≤ p.parkLimit && p.parkLimit ≤ 16 && 5 ≤ p.replyTimeout && p.replyTimeout ≤ 100

/-- An accepted write of the gate parameters: a raised budget runs an admission pass (R147, R148, R186). -/
def State.writeParams (s : State) (p : GateParams) : State :=
  let s1 := { s with cfg := { s.cfg with params := p } }
  (if s.cfg.params.budget < p.budget then s1.admissionPass else s1).finish

def State.reqWriteGateParameters (s : State) : List Byte → Verdict
  | [b, l, t, k] =>
    match flagOf k with
    | none => s.judge .writeGateParameters true false s.ok
    | some take =>
      let p : GateParams := ⟨b.toNat, l.toNat, t.toNat, take⟩
      s.judge .writeGateParameters true p.inRange
        (if p.budget < s.inrush then s.refuse .busy else (s.writeParams p).ok)
  | _ => s.judge .writeGateParameters false true s.ok

def State.reqAckAttention (s : State) : List Byte → Verdict
  | [m1, m0] => s.judge .ackAttention true true { s with flags := s.flags.acked (beVal [m1, m0]) }.ok
  | _ => s.judge .ackAttention false true s.ok

def FwdCounters.bytes (c : FwdCounters) : List Byte :=
  be16 c.lost ++ be16 c.coalesced ++ be16 c.noopDrop ++ be16 c.rewrite ++ be16 c.broadcastDrop
    ++ be16 c.delayedDiscard ++ be16 c.unexpected

def State.lostBytes (s : State) : List Byte :=
  let l := s.fwd.lastLost
  [byte l.station, l.tag, l.action.code, l.cause.code, l.stationCause] ++ s.fwd.cnt.bytes

def State.reqReadLastLost (s : State) : List Byte → Verdict
  | [] => s.judge .readLastLost true true (s.reply s.lostBytes)
  | _ => s.judge .readLastLost false true s.ok

/-! ## Access (R187) -/

/-- UNLOCK past the common checks: a comparison in LOCKED alone. -/
def State.tryUnlock (s : State) (code : List Byte) : Verdict :=
  if s.access = .locked then
    if code = s.cfg.code then { s with access := .unlocked, unlocks := Config.unlockAttempts }.ok
    else
      let left := s.unlocks - 1
      { s with unlocks := left, access := if left = 0 then .frozen else .locked }.refuse .badCode
  else s.ok

def State.reqUnlock (s : State) (bs : List Byte) : Verdict :=
  s.judge .unlock (bs.length = 16) true (s.tryUnlock bs)

def State.reqLock (s : State) : List Byte → Verdict
  | [] => s.judge .lock true true (if s.access = .unlocked then { s with access := .locked } else s).ok
  | _ => s.judge .lock false true s.ok

def State.setCode (s : State) (code : List Byte) : State :=
  { s with
    cfg := { s.cfg with code := code }
    unlocks := Config.unlockAttempts
    access := if code = noCode then .isOpen else .unlocked }

def State.reqSetAccessCode (s : State) (bs : List Byte) : Verdict :=
  s.judge .setAccessCode (bs.length = 16) true (s.setCode bs).ok

def State.reqFreeze (s : State) : List Byte → Verdict
  | [] => s.judge .freeze true true { s with access := .frozen }.ok
  | _ => s.judge .freeze false true s.ok

/-! ## SAVE and WARM RESET (R173, R190, R192) -/

/-- The contents a SAVE fixes: a DRAINING mode is stored as PASS. -/
def State.imageNow (s : State) : Image := ⟨s.cfg, if s.mode = .draining then .pass else s.mode⟩

def State.reqSave (s : State) : List Byte → Verdict
  | [] => s.judge .save true true ⟨{ s with saving := some s.imageNow, imageValid := false }, .accepted, []⟩
  | _ => s.judge .save false true s.ok

def State.reqWarmReset (s : State) : List Byte → Verdict
  | [] => s.judge .warmReset true true ⟨{ s with drain := .running false }, .accepted, []⟩
  | _ => s.judge .warmReset false true s.ok

/-- The effect of a request on its fields. -/
def State.request (s : State) (q : Req) (fields : List Byte) : Verdict :=
  match q with
  | .readStation => s.reqReadStation fields
  | .writeStationPolicy => s.reqWriteStationPolicy fields
  | .holdAwake => s.reqHoldAwake fields
  | .release => s.reqRelease fields
  | .clearFault => s.reqClearFault fields
  | .readStatistics => s.reqReadStatistics fields
  | .clearStatistics => s.reqClearStatistics fields
  | .readGroup => s.reqReadGroup fields
  | .writeGroup => s.reqWriteGroup fields
  | .readWindow => s.reqReadWindow fields
  | .writeWindow => s.reqWriteWindow fields
  | .readZone => s.reqReadZone fields
  | .writeZone => s.reqWriteZone fields
  | .setClock => s.reqSetClock fields
  | .setMode => s.reqSetMode fields
  | .wakeZones => s.reqWakeZones fields
  | .readScanList => s.reqReadScanList fields
  | .writeScanList => s.reqWriteScanList fields
  | .scanStart => s.reqScanStart fields
  | .scanStop => s.reqScanStop fields
  | .readGateParameters => s.reqReadGateParameters fields
  | .writeGateParameters => s.reqWriteGateParameters fields
  | .ackAttention => s.reqAckAttention fields
  | .readLastLost => s.reqReadLastLost fields
  | .unlock => s.reqUnlock fields
  | .lock => s.reqLock fields
  | .setAccessCode => s.reqSetAccessCode fields
  | .freeze => s.reqFreeze fields
  | .save => s.reqSave fields
  | .warmReset => s.reqWarmReset fields

/-- An MGMT addressed to the gate (R43, R181): NAK BUSY during a drain, otherwise one MREPLY. -/
def State.mgmtFrame (s : State) (src tag code : Byte) (fields : List Byte) : State :=
  if s.draining then s.nak src tag nakBusy
  else
    let v : Verdict :=
      match Req.ofCode code with
      | none => s.refuse .unknownRequest
      | some q => s.request q fields
    v.state.answerOwn src tag (.mreply ([code, v.res.code] ++ v.data))

/-! ## Gate status record (R18) -/

/-- The twenty-four bytes of the gate status record, all read at one instant. -/
def State.statusRecord (s : State) : List Byte :=
  [s.mode.code, s.access.code] ++ be16 s.attentionBits ++ [flagByte s.clock.valid]
    ++ be32 (if s.clock.valid then s.weekTime else 0)
    ++ [.free, .parkQueued, .parking, .parked, .wakeQueued, .waking, .faulted].map (fun x => byte (s.count x))
    ++ [byte s.inrush, s.scan.st.code, flagByte s.saving.isSome, byte s.fwd.posted.length,
        byte s.fwd.delayed.length, 0, 0, 0]

end Sys2Proof.Machine
end

