-- ==== Sys2Proof/Machine/Reset.lean ====
section
/-! DEFINITION. The two resets: power-on reset, start-up and the warm reset (R11, R13, R14, R20, R46, R47, R65,
R66, R89, R90, R125, R140, R161, R180, R188, R190 to R192), and the three commands that stand for them. -/

namespace Sys2Proof.Machine

/-- What a command answers. -/
abbrev Out := Host.Outcome State Fault Refusal

/-! ## Power-on reset and start-up -/

/-- The gate's address of the ADDR straps, 0 taken as 127 (R20). -/
def strapAddress (addr : BitVec 7) : Nat := if addr.toNat = 0 then 127 else addr.toNat

/-- A power-on reset begins (R14, R20, R190): the straps are sampled, the ports are held off the line, and a store
write under way ends unfinished, its image invalid. What start-up sets is set there (log 21). -/
def State.powerOnReset (s : State) (addr : BitVec 7) (rate : BitVec 2) (imgIgn : Bool) : State :=
  { s with
    online := false
    straps := ⟨strapAddress addr, rate.toNat, imgIgn⟩
    cport := .reset
    fport := .reset
    imageValid := s.imageValid && s.saving.isNone
    saving := none }

/-- Start-up loads the stored image (R191). -/
def State.loadsImage (s : State) : Bool := !s.straps.imgIgn && s.imageValid

/-- What start-up loads: the image, or the defaults (R191). -/
def State.startImage (s : State) : Image := if s.loadsImage then s.image else ⟨.default, .pass⟩

/-- The loaded tables, the record at the gate's own address taking the default policy (R67, R191). -/
def State.startTables (s : State) : Tables :=
  let cfg := s.startImage.cfg
  { cfg with policies := cfg.policies.setIfInBounds (s.straps.addr - 1) .default }

/-- Every block at its power-on values (R191). -/
def State.powerOnValues (s : State) : State :=
  let cfg := s.startTables
  { State.reset with
    straps := s.straps
    cfg := cfg
    mode := s.startImage.mode
    access := if cfg.code = noCode then .isOpen else .locked
    flags := { Attention.clear with imageInvalid := !s.loadsImage }
    image := s.image
    imageValid := s.imageValid
    pending := s.pending }

/-- Start-up ends: the ports go on the line and the scanner auto-starts (R176, R191). -/
def State.startUp (s : State) : State := s.powerOnValues.autoScan.finish

/-! ## Warm reset -/

/-- The drain is over: the posted buffer empty and no exchange in flight (R47, R63). -/
def State.drained (s : State) : Bool := s.fwd.posted.isEmpty && s.master.underWay.isNone

/-- The later of the two moments of R192 has come: the drain is over and ACCEPTED has been sent. -/
def State.warmDue (s : State) : Bool := s.drain == .running true && s.drained

/-- A port stops and restarts (R13): a partial frame and a deferred frame are dropped, a frame being sent goes out. -/
def PortState.stopped (q : PortState) : PortState :=
  { q with
    rx := .hunting
    tx := match q.tx with
      | .deferring _ => .idle
      | t => t }

/-- Every hold list is discarded with cause RESET, rising addresses, oldest first (R47). -/
def State.loseHolds (s : State) : State :=
  addresses.foldl (fun t a => (t.st a).hold.foldl (fun u e => u.lose e .reset 0) t) s

/-- A record after a warm reset (R90, R180). -/
def Station.warm (r : Station) : Station :=
  { Station.reset with
    autoExempt := r.autoExempt, starts := r.starts, lastStart := r.lastStart, stats := r.stats
    scanMiss := r.scanMiss }

/-- The Field line master after a warm reset (R66). -/
def Master.warm (m : Master) : Master := { m with st := .idle, gPass := 0, sPass := 0 }

/-- The scanner after a warm reset (R180). -/
def Scanner.warm (c : Scanner) : Scanner :=
  { c with st := .idle, pos := 0, passStart := 0, waitEnd := none, stopPending := false }

/-- The access state after a warm reset (R188). -/
def Access.warm : Access → Access
  | .unlocked => .locked
  | x => x

/-- Every block at its warm values (R192). -/
def State.warmValues (s : State) : State :=
  let s1 := (addresses.foldl State.accountParked s).loseHolds
  { s1 with
    cport := s1.cport.stopped
    fport := s1.fport.stopped
    answers := []
    fwd := { s1.fwd with delayed := [] }
    master := s1.master.warm
    stations := s1.stations.map Station.warm
    parkQ := []
    demandQ := []
    schedQ := []
    starved := .replicate 32 false
    zones := .replicate 8 ⟨none, 0⟩
    scan := s1.scan.warm
    access := s1.access.warm
    saving := none
    drain := .off }

/-- The warm reset is applied (R192), when it is due (log 5). -/
def State.warmReset (s : State) : State := if s.warmDue then s.warmValues.autoScan.finish else s

/-! ## The commands -/

/-- A command that acts only on a gate whose start-up has ended (R14): otherwise it is lost (log 5). -/
def State.whenOnline (s : State) (f : State → State) : State := if s.online then f s else s

/-- POWER_ON_RESET (R14, R20, R190). -/
def execPowerOnReset (addr : BitVec 7) (rate : BitVec 2) (imgIgn : Bool) (s : State) : Out :=
  .next (s.powerOnReset addr rate imgIgn)

/-- START_UP (R191): it follows a power-on reset, and has no effect on a gate already started (log 5). -/
def execStartUp (s : State) : Out := .next (if s.online then s else s.startUp)

/-- WARM_RESET_APPLIED (R192). -/
def execWarmResetApplied (s : State) : Out := .next (s.whenOnline State.warmReset)

end Sys2Proof.Machine
end

