-- ==== Sys2Proof/Machine/Line.lean ====
section
/-! DEFINITION. The two ports: character assembly, frame ends, delivery, sending (R4 to R12, R21, R43, R44), and
the six commands of the line. -/

namespace Sys2Proof.Machine

/-! ## Delivery on the C-port (R21, R43, R44) -/

/-- A frame to the gate's own address (R43). -/
def State.gateFrame (s : State) (f : Frame) : State :=
  match f.body with
  | .poll => s.answerOwn f.src f.tag (.gateStatus s.statusRecord)
  | .mgmt [] => s.countUnexpected
  | .mgmt (code :: fields) => s.mgmtFrame f.src f.tag code fields
  | .set _ => s.nak f.src f.tag (if s.draining then nakBusy else nakReservedAction)
  | .time _ => s.nak f.src f.tag nakReservedAction
  | .status _ => s.countUnexpected
  | .gateStatus _ => s.countUnexpected
  | .ack _ => s.countUnexpected
  | .nak _ => s.countUnexpected
  | .mreply _ => s.countUnexpected

/-- A frame to address 0 (R44). -/
def State.broadcastFrame (s : State) (f : Frame) : State :=
  match f.body with
  | .time w => s.timeBroadcast f.src f.tag w
  | .set r => s.setBroadcast f.src f.tag r
  | _ => s.countUnexpected

/-- A frame to a station (R21). A kind other than POLL and SET is dropped and counted; an MGMT during a warm-reset drain
is answered NAK BUSY, as R47 says of one to a station or to the gate (log 27). -/
def State.stationFrame (s : State) (f : Frame) : State :=
  if (s.pol f.dst.toNat).cls = .absent then s
  else
    match f.body with
    | .poll => s.pollStation f.src f.dst f.tag
    | .set r => s.setStation f.src f.dst f.tag r
    | .mgmt _ => if s.draining then s.nak f.src f.tag nakBusy else s.countUnexpected
    | _ => s.countUnexpected

/-- A valid C-port frame at the Forwarding unit (R9, R21). -/
def State.controllerFrame (s : State) (f : Frame) : State :=
  if f.dst.toNat = s.straps.addr then s.gateFrame f
  else if f.dst.toNat = 0 then (s.broadcastFrame f).finish
  else (s.stationFrame f).finish

/-! ## Arrival of whole frames -/

/-- A valid frame is handed to the block that serves its port (R9). -/
def State.deliver (s : State) (p : Port) (f : Frame) : State :=
  match p with
  | .c => s.controllerFrame f
  | .f => s.fieldFrame f

/-- A frame whose last character ends now with a good check (R8, R9): handed on with the receiver HUNTING, discarded
when ill-formed, lost when the receiver is off the line (R12, R14). -/
def State.arrive (s : State) (p : Port) (f : Frame) : State :=
  if s.listening p then (if f.shapeOk then (s.hunt p).deliver p f else s.discard p .shape) else s

/-! ## Characters (R4 to R8) -/

/-- A new frame starts with a character (R4). -/
def State.openFrame (s : State) (p : Port) (c : CharRead) : State :=
  s.setPort p { s.port p with rx := .assembling ⟨[c.data], c.err, s.lineTime⟩ }

/-- A frame in progress that has all its characters (R7). -/
def State.endFrame (s : State) (p : Port) (x : FrameInProgress) : State :=
  match x.firstErr with
  | some e => s.discard p (.charError e)
  | none =>
    match frameTest x.chars with
    | .valid f => (s.hunt p).deliver p f
    | .bad c => s.discard p c

/-- A frame in progress with a character appended. -/
def FrameInProgress.append (x : FrameInProgress) (c : CharRead) (t : Nat) : FrameInProgress :=
  ⟨x.chars ++ [c.data], x.firstErr.or c.err, t⟩

/-- A character is appended (R4); the length is read at the fifth (R5) and the frame ends at length plus 7 (R7). -/
def State.appendChar (s : State) (p : Port) (x : FrameInProgress) (c : CharRead) : State :=
  let y := x.append c s.lineTime
  let s1 := s.setPort p { s.port p with rx := .assembling y }
  match y.chars[4]? with
  | none => s1
  | some len =>
    if 32 < len.toNat then s1.discard p .length
    else if y.chars.length = len.toNat + 7 then s1.endFrame p y
    else s1

/-- A completed character in frame assembly (R4). -/
def State.takeChar (s : State) (p : Port) (c : CharRead) : State :=
  match (s.port p).rx with
  | .hunting => if c.marker then s.openFrame p c else s
  | .assembling x => if c.marker then (s.discardCutOff p).openFrame p c else s.appendChar p x c

/-- When the last character of a frame in progress ended. -/
def State.lastEnd (s : State) (p : Port) : Option Nat :=
  match (s.port p).rx with
  | .hunting => none
  | .assembling x => some x.lastEnd

/-- More than `n` character times have passed since the last character of a frame in progress ended. -/
def State.silentFor (s : State) (p : Port) (n : Nat) : Bool :=
  (s.lastEnd p).any (fun t => t + n * s.charTime < s.lineTime)

/-- The samples of a character that ends now. A start more than 3 character times after the last character ends the
frame in progress first (R6); the start lies one character time back. -/
def State.character (s : State) (p : Port) (x : Samples) : State :=
  match readChar x with
  | none => s
  | some c => (if s.silentFor p 4 then s.discardTimeout p else s).takeChar p c

/-- What ends a frame that is discarded (R4, R5, R7, R8). -/
def State.frameEnd (s : State) (p : Port) : FrameEnd → State
  | .ended c => s.discard p c
  | .cutOff x =>
    match readChar x with
    | none => s
    | some c => if c.marker then (s.discardCutOff p).openFrame p c else s

/-! ## Sending (R12) -/

/-- The send of a deferred frame begins once the receiver is HUNTING. -/
def State.beginSend (s : State) (p : Port) : State :=
  match (s.port p).tx, (s.port p).rx with
  | .deferring f, .hunting => s.setPort p { s.port p with tx := .sending f (s.sendEnd f) }
  | _, _ => s

/-- Whether a frame on the C-port is the MREPLY ACCEPTED of the WARM RESET (R192). -/
def isAccepted (f : Frame) : Bool := f.body = .mreply [Req.warmReset.code, Res.accepted.code]

/-- The drain learns that a frame left the C-port. -/
def Drain.sent (d : Drain) (f : Frame) : Drain :=
  match d with
  | .running false => .running (isAccepted f)
  | _ => d

/-- The oldest waiting answer is offered to an empty slot (R12, R22). -/
def State.nextAnswer (s : State) : State :=
  match s.answers with
  | [] => s
  | f :: rest => { s with answers := rest }.offer .c f

/-- A frame has left a port (R12): the slot empties, the receiver is HUNTING, and the block that offered it is told. -/
def State.sent (s : State) (p : Port) (f : Frame) : State :=
  let s1 := s.setPort p { s.port p with tx := .idle, rx := .hunting }
  match p with
  | .c => { s1 with drain := s1.drain.sent f }.nextAnswer
  | .f => s1.requestSent

/-- Whether a port's send has ended. -/
def State.sendOver (s : State) (p : Port) : Option Frame :=
  match (s.port p).tx with
  | .sending f ends => if ends ≤ s.lineTime then some f else none
  | _ => none

/-! ## The commands -/

/-- FRAME_DISCARD (R4, R5, R7, R8, R10). -/
def execFrameDiscard (p : Port) (e : FrameEnd) (s : State) : Out :=
  .next (if s.listening p then s.frameEnd p e else s)

/-- INTER_CHARACTER_GAP (R6): no effect unless more than 3 character times have passed in a frame (log 5). -/
def execInterCharacterGap (p : Port) (s : State) : Out :=
  .next (if s.listening p ∧ s.silentFor p 3 then s.discardTimeout p else s)

/-- TRANSMIT_START (R12). -/
def execTransmitStart (p : Port) (s : State) : Out := .next (s.whenOnline (fun t => t.beginSend p))

/-- SEND_COMPLETION (R12, R22, R44, R49, R192): no effect before the last stop bit is out (log 3, 5). -/
def execSendCompletion (p : Port) (s : State) : Out :=
  .next
    (s.whenOnline fun t =>
      match t.sendOver p with
      | some f => t.sent p f
      | none => t)

/-- COMPLETED_CHARACTER (R2 to R8). -/
def execCompletedCharacter (p : Port) (x : Samples) (s : State) : Out :=
  .next (if s.listening p then s.character p x else s)

end Sys2Proof.Machine
end

