-- ==== Sys2Proof/Machine/Requests.lean ====
section
/-! DEFINITION. The management commands: an MGMT frame to the gate's own address with the row's request code and the
bytes that follow it, delivered by the C-port (R43, R181 to R184). -/

namespace Sys2Proof.Machine

/-- An MGMT addressed to the gate that ends now on the C-port. -/
def State.manage (s : State) (src tag code : Byte) (fields : List Byte) : State :=
  s.arrive .c ⟨byte s.straps.addr, src, tag, .mgmt (code :: fields)⟩

/-- READ_STATION (R185). -/
def execReadStation (src tag : Byte) (fields : List Byte) (s : State) : Out :=
  .next (s.manage src tag Req.readStation.code fields)

/-- WRITE_STATION_POLICY (R87, R88). -/
def execWriteStationPolicy (src tag : Byte) (fields : List Byte) (s : State) : Out :=
  .next (s.manage src tag Req.writeStationPolicy.code fields)

/-- HOLD_AWAKE (R85). -/
def execHoldAwake (src tag : Byte) (fields : List Byte) (s : State) : Out :=
  .next (s.manage src tag Req.holdAwake.code fields)

/-- RELEASE (R86). -/
def execRelease (src tag : Byte) (fields : List Byte) (s : State) : Out :=
  .next (s.manage src tag Req.release.code fields)

/-- CLEAR_FAULT (R84). -/
def execClearFault (src tag : Byte) (fields : List Byte) (s : State) : Out :=
  .next (s.manage src tag Req.clearFault.code fields)

/-- READ_STATISTICS (R104, R11). -/
def execReadStatistics (src tag : Byte) (fields : List Byte) (s : State) : Out :=
  .next (s.manage src tag Req.readStatistics.code fields)

/-- CLEAR_STATISTICS (R105, R11). -/
def execClearStatistics (src tag : Byte) (fields : List Byte) (s : State) : Out :=
  .next (s.manage src tag Req.clearStatistics.code fields)

/-- READ_GROUP (R126). -/
def execReadGroup (src tag : Byte) (fields : List Byte) (s : State) : Out :=
  .next (s.manage src tag Req.readGroup.code fields)

/-- WRITE_GROUP (R138, R139, R155). -/
def execWriteGroup (src tag : Byte) (fields : List Byte) (s : State) : Out :=
  .next (s.manage src tag Req.writeGroup.code fields)

/-- READ_WINDOW (R167). -/
def execReadWindow (src tag : Byte) (fields : List Byte) (s : State) : Out :=
  .next (s.manage src tag Req.readWindow.code fields)

/-- WRITE_WINDOW (R170). -/
def execWriteWindow (src tag : Byte) (fields : List Byte) (s : State) : Out :=
  .next (s.manage src tag Req.writeWindow.code fields)

/-- READ_ZONE (R153). -/
def execReadZone (src tag : Byte) (fields : List Byte) (s : State) : Out :=
  .next (s.manage src tag Req.readZone.code fields)

/-- WRITE_ZONE (R153). -/
def execWriteZone (src tag : Byte) (fields : List Byte) (s : State) : Out :=
  .next (s.manage src tag Req.writeZone.code fields)

/-- SET_CLOCK (R164, R165). -/
def execSetClock (src tag : Byte) (fields : List Byte) (s : State) : Out :=
  .next (s.manage src tag Req.setClock.code fields)

/-- SET_MODE (R173, R174). -/
def execSetMode (src tag : Byte) (fields : List Byte) (s : State) : Out :=
  .next (s.manage src tag Req.setMode.code fields)

/-- WAKE_ZONES (R160). -/
def execWakeZones (src tag : Byte) (fields : List Byte) (s : State) : Out :=
  .next (s.manage src tag Req.wakeZones.code fields)

/-- READ_SCAN_LIST (R175). -/
def execReadScanList (src tag : Byte) (fields : List Byte) (s : State) : Out :=
  .next (s.manage src tag Req.readScanList.code fields)

/-- WRITE_SCAN_LIST (R175). -/
def execWriteScanList (src tag : Byte) (fields : List Byte) (s : State) : Out :=
  .next (s.manage src tag Req.writeScanList.code fields)

/-- SCAN_START (R176). -/
def execScanStart (src tag : Byte) (fields : List Byte) (s : State) : Out :=
  .next (s.manage src tag Req.scanStart.code fields)

/-- SCAN_STOP (R179). -/
def execScanStop (src tag : Byte) (fields : List Byte) (s : State) : Out :=
  .next (s.manage src tag Req.scanStop.code fields)

/-- READ_GATE_PARAMETERS (R186, R64). -/
def execReadGateParameters (src tag : Byte) (fields : List Byte) (s : State) : Out :=
  .next (s.manage src tag Req.readGateParameters.code fields)

/-- WRITE_GATE_PARAMETERS (R186, R148). -/
def execWriteGateParameters (src tag : Byte) (fields : List Byte) (s : State) : Out :=
  .next (s.manage src tag Req.writeGateParameters.code fields)

/-- ACK_ATTENTION (R189). -/
def execAckAttention (src tag : Byte) (fields : List Byte) (s : State) : Out :=
  .next (s.manage src tag Req.ackAttention.code fields)

/-- READ_LAST_LOST (R30, R45). -/
def execReadLastLost (src tag : Byte) (fields : List Byte) (s : State) : Out :=
  .next (s.manage src tag Req.readLastLost.code fields)

/-- UNLOCK (R187). -/
def execUnlock (src tag : Byte) (fields : List Byte) (s : State) : Out :=
  .next (s.manage src tag Req.unlock.code fields)

/-- LOCK (R187). -/
def execLock (src tag : Byte) (fields : List Byte) (s : State) : Out :=
  .next (s.manage src tag Req.lock.code fields)

/-- SET_ACCESS_CODE (R187). -/
def execSetAccessCode (src tag : Byte) (fields : List Byte) (s : State) : Out :=
  .next (s.manage src tag Req.setAccessCode.code fields)

/-- FREEZE (R187). -/
def execFreeze (src tag : Byte) (fields : List Byte) (s : State) : Out :=
  .next (s.manage src tag Req.freeze.code fields)

/-- SAVE (R190). -/
def execSave (src tag : Byte) (fields : List Byte) (s : State) : Out :=
  .next (s.manage src tag Req.save.code fields)

/-- WARM_RESET (R47, R192). -/
def execWarmReset (src tag : Byte) (fields : List Byte) (s : State) : Out :=
  .next (s.manage src tag Req.warmReset.code fields)

/-- UNKNOWN_REQUEST_CODE (R181). -/
def execUnknownRequestCode (src tag code : Byte) (fields : List Byte) (s : State) : Out :=
  .next (s.manage src tag code fields)

end Sys2Proof.Machine
end

