-- ==== Sys2Proof/Machine/Controller.lean ====
section
/-! DEFINITION. The commands that are a valid frame on the C-port, but for management: the frame the row names ends
now, and the gate judges it by the state it finds (R9, R21, log 6). -/

namespace Sys2Proof.Machine

/-- CONTROLLER_POLL (R21, R38, R41, R42). -/
def execControllerPoll (src dst tag : Byte) (s : State) : Out := .next (s.arrive .c ⟨dst, src, tag, .poll⟩)

/-- SET_INTAKE (R21, R24 to R39). -/
def execSetIntake (src dst tag : Byte) (r : SetRec) (s : State) : Out :=
  .next (s.arrive .c ⟨dst, src, tag, .set r⟩)

/-- POLL_OF_GATE (R18, R43). -/
def execPollOfGate (src tag : Byte) (s : State) : Out :=
  .next (s.arrive .c ⟨byte s.straps.addr, src, tag, .poll⟩)

/-- The body of a SET or TIME. -/
def gateBody : GateWord → Body
  | .set r => .set r
  | .time w => .time w

/-- GATE_SET_OR_TIME (R43). -/
def execGateSetOrTime (src tag : Byte) (w : GateWord) (s : State) : Out :=
  .next (s.arrive .c ⟨byte s.straps.addr, src, tag, gateBody w⟩)

/-- UNEXPECTED_FRAME (R21, R43, R44). -/
def execUnexpectedFrame (f : Frame) (s : State) : Out := .next (s.arrive .c f)

/-- TIME_BROADCAST (R44, R164, R166). -/
def execTimeBroadcast (src tag : Byte) (week : BitVec 32) (s : State) : Out :=
  .next (s.arrive .c ⟨0, src, tag, .time week⟩)

/-- BROADCAST_SET (R25, R28, R44). -/
def execBroadcastSet (src tag : Byte) (r : SetRec) (s : State) : Out := .next (s.arrive .c ⟨0, src, tag, .set r⟩)

end Sys2Proof.Machine
end

