-- ==== Sys2Proof/Machine/Field.lean ====
section
/-! DEFINITION. The commands of the field line: a valid frame on the F-port, judged against the exchange the master
is in (R50 to R52, log 6), the reply deadline and the gap end. -/

namespace Sys2Proof.Machine

/-- REPLY (R50, R54). -/
def execReply (f : Frame) (s : State) : Out := .next (s.arrive .f f)

/-- STRAY_FRAME (R51). -/
def execStrayFrame (f : Frame) (s : State) : Out := .next (s.arrive .f f)

/-- UNSOLICITED_FRAME (R52). -/
def execUnsolicitedFrame (f : Frame) (s : State) : Out := .next (s.arrive .f f)

/-- F_PORT_MGMT (R52). -/
def execFPortMgmt (f : Frame) (s : State) : Out := .next (s.arrive .f f)

/-- The exchange whose reply deadline is reached (R49). -/
def State.deadlineOver (s : State) : Option Exchange :=
  match s.master.st with
  | .awaitReply x d => if d ≤ s.lineTime then some x else none
  | _ => none

/-- REPLY_DEADLINE (R49). -/
def execReplyDeadline (s : State) : Out :=
  .next
    (s.whenOnline fun t =>
      match t.deadlineOver with
      | some x => t.missReply x
      | none => t)

/-- The gap end is reached (R53). -/
def State.gapOver (s : State) : Bool :=
  match s.master.st with
  | .gap _ e => e ≤ s.lineTime
  | _ => false

/-- The master goes IDLE and arbitrates (R53, R60). -/
def State.leaveGap (s : State) : State := (s.setMaster { s.master with st := .idle }).finish

/-- GAP_END (R53). -/
def execGapEnd (s : State) : Out := .next (s.whenOnline fun t => if t.gapOver then t.leaveGap else t)

end Sys2Proof.Machine
end

