-- ==== Sys2Proof/Machine/Timers.lean ====
section
/-! DEFINITION. The commands of the gate's timers and of the store write, each acting only when the time it names
is reached (log 5), and the idle tick that advances time and raises them (log 2). -/

namespace Sys2Proof.Machine

/-- A time that may be absent is reached. -/
def State.reached (s : State) (t : Option Nat) : Bool := t.any (fun x => x ≤ s.now)

/-- FOLLOW_UP_DUE (R58): the follow-up joins class G, which is read afresh at each arbitration. -/
def execFollowUpDue (a : Nat) (s : State) : Out :=
  .next (s.whenOnline fun t => if (t.followUpTime a).isSome then t.finish else t)

/-- The lock of a station closes (R27). -/
def State.closeLock (s : State) (a : Nat) : State := (s.modSt a (fun r => { r with lock := none })).finish

/-- LOCK_EXPIRY (R27). -/
def execLockExpiry (a : Nat) (s : State) : Out :=
  .next (s.whenOnline fun t => if t.reached (t.st a).lock then t.closeLock a else t)

/-- DELAYED_DISCARD (R41). -/
def execDelayedDiscard (k : DelayKey) (s : State) : Out := .next (s.whenOnline fun t => t.discardDelayed k)

/-- STOP_TIMEOUT (R122). -/
def execStopTimeout (a : Nat) (s : State) : Out :=
  .next
    (s.whenOnline fun t =>
      if t.inPhase a .parking .coast && t.reached (t.st a).phaseDeadline then (t.enterFaulted a .parkTimeout).finish
      else t)

/-- START_TIMEOUT (R159). -/
def execStartTimeout (a : Nat) (s : State) : Out :=
  .next
    (s.whenOnline fun t =>
      if t.inPhase a .waking .settle && t.reached (t.st a).phaseDeadline then (t.enterFaulted a .wakeTimeout).finish
      else t)

/-- The end of a zone's sounding, once it is reached (R152). -/
def State.soundingOver (s : State) (z : Nat) : Option Nat :=
  match (s.zone z).sounding with
  | none => none
  | some x => if x.ends ≤ s.now then some x.ends else none

/-- SOUNDING_END (R152). -/
def execSoundingEnd (z : Nat) (s : State) : Out :=
  .next
    (s.whenOnline fun t =>
      match t.soundingOver z with
      | some e => (t.endSounding z e).finish
      | none => t)

/-- A WAKE_QUEUED station whose min off or starts limit no longer holds it back (R145). -/
def State.protectionOver (s : State) (a : Nat) : Bool :=
  (s.st a).state = .wakeQueued && (s.minOffOver a || s.startsBelow a)

/-- PROTECTION_TIME (R145, R147). -/
def execProtectionTime (a : Nat) (s : State) : Out :=
  .next (s.whenOnline fun t => if t.protectionOver a then t.admissionPass.finish else t)

/-- WAKE_DUE_EXPIRY (R172). -/
def execWakeDueExpiry (a : Nat) (s : State) : Out :=
  .next (s.whenOnline fun t => if t.reached (t.st a).wakeDue then (t.expireWakeDue a).finish else t)

/-- MINUTE_BOUNDARY (R169). -/
def execMinuteBoundary (s : State) : Out :=
  .next (s.whenOnline fun t => if t.atMinute then (t.closeThose t.openBefore).finish else t)

/-- SCAN_WAIT_END (R178). -/
def execScanWaitEnd (s : State) : Out :=
  .next
    (s.whenOnline fun t =>
      if t.scan.st = .waiting ∧ t.reached t.scan.waitEnd then t.scanNext.finish else t)

/-- The store write completes (R190). -/
def State.storeDone (s : State) (ok : Bool) : State :=
  match s.saving with
  | none => s
  | some x =>
    if ok then { s with image := x, imageValid := true, saving := none }
    else { s with saving := none }.raise .saveFailed

/-- STORE_COMPLETION (R190): success or failure comes from outside (log 8). -/
def execStoreCompletion (ok : Bool) (s : State) : Out := .next (s.whenOnline fun t => t.storeDone ok)

/-! ## The idle tick (log 2) -/

/-- One line unit passes (log 3). -/
def State.advance (s : State) : State :=
  if s.frac + 1 < Config.unitsPerMs then { s with frac := s.frac + 1 } else { s with mono := s.mono + 1, frac := 0 }

/-- The instant at which the starts limit alone stops holding a station back, worked out at `t` (R145). -/
def State.startsTime (s : State) (a t : Nat) : Option Nat :=
  let counted := (s.st a).recentStarts t
  let limit := (s.pol a).startsLimit
  if limit = 0 ∨ counted.length < limit then none
  else counted[counted.length - limit]?.map (fun x => x + Config.startsWindow + 1)

/-- The min-off protection time (R145). -/
def State.minOffTime (s : State) (a : Nat) : Option Nat :=
  (s.st a).parkedSince.map (fun t => t + (s.pol a).minOff * 1000)

/-- Now is a protection time of a WAKE_QUEUED station. -/
def State.protectionNow (s : State) (a : Nat) : Bool :=
  (s.st a).state = .wakeQueued && (s.minOffTime a = some s.now || s.startsTime a (s.now - 1) = some s.now)

/-- A command that is due, or nothing. -/
def due (b : Bool) (i : Instr) : List Instr := if b then [i] else []

/-- Commands due at a port. -/
def State.duePort (s : State) (p : Port) : List Instr :=
  due (match (s.port p).tx, (s.port p).rx with
      | .deferring _, .hunting => true
      | _, _ => false) (.transmitStart p)
    ++ due (s.sendOver p).isSome (.sendCompletion p)
    ++ due (s.silentFor p 4) (.interCharacterGap p)

/-- Commands due for a station. -/
def State.dueStation (s : State) (a : Nat) : List Instr :=
  let r := s.st a
  due (s.reached r.lock) (.lockExpiry a)
    ++ due (s.inPhase a .parking .coast && s.reached r.phaseDeadline) (.stopTimeout a)
    ++ due (s.inPhase a .waking .settle && s.reached r.phaseDeadline) (.startTimeout a)
    ++ due (s.frac = 0 && s.followUpTime a = some s.now) (.followUpDue a)
    ++ due (s.reached r.wakeDue) (.wakeDueExpiry a)
    ++ due (s.frac = 0 && s.protectionNow a) (.protectionTime a)

/-- A DONE entry whose 2000 ms have run (R41). -/
def State.doneOver (s : State) (d : Delayed) : Bool :=
  match d.st with
  | .done _ t => t + Config.doneLife ≤ s.now
  | _ => false

/-- The commands that are due now, in the order the model raises them. -/
def State.dueCommands (s : State) : List Instr :=
  s.duePort .c ++ s.duePort .f
    ++ due s.deadlineOver.isSome .replyDeadline ++ due s.gapOver .gapEnd ++ due s.warmDue .warmResetApplied
    ++ (s.fwd.delayed.filter s.doneOver).map (fun d => .delayedDiscard d.key)
    ++ due (s.frac = 0 && s.atMinute) .minuteBoundary
    ++ (List.range 8).flatMap (fun z => due (s.soundingOver z).isSome (.soundingEnd z))
    ++ addresses.flatMap s.dueStation
    ++ due (s.scan.st = .waiting && s.reached s.scan.waitEnd) .scanWaitEnd

/-- What the empty queue does: one line unit passes and the commands that have come due join the queue; a gate held
off the line idles. -/
def State.tick (s : State) : State :=
  if s.online then
    let t := s.advance
    { t with pending := t.pending ++ t.dueCommands }
  else s

end Sys2Proof.Machine
end

