-- ==== Sys2Proof/Machine/Dispatch.lean ====
section
/-! DEFINITION. The meaning of every command, one arm each. -/

namespace Sys2Proof.Machine

def exec (i : Instr) (s : State) : Host.Outcome State Fault Refusal :=
  match i with
  | .powerOnReset addr rate imgIgn => Sys2Proof.Machine.execPowerOnReset addr rate imgIgn s
  | .startUp => Sys2Proof.Machine.execStartUp s
  | .frameDiscard p e => Sys2Proof.Machine.execFrameDiscard p e s
  | .interCharacterGap p => Sys2Proof.Machine.execInterCharacterGap p s
  | .transmitStart p => Sys2Proof.Machine.execTransmitStart p s
  | .sendCompletion p => Sys2Proof.Machine.execSendCompletion p s
  | .controllerPoll src dst tag => Sys2Proof.Machine.execControllerPoll src dst tag s
  | .setIntake src dst tag r => Sys2Proof.Machine.execSetIntake src dst tag r s
  | .pollOfGate src tag => Sys2Proof.Machine.execPollOfGate src tag s
  | .gateSetOrTime src tag w => Sys2Proof.Machine.execGateSetOrTime src tag w s
  | .unexpectedFrame f => Sys2Proof.Machine.execUnexpectedFrame f s
  | .timeBroadcast src tag week => Sys2Proof.Machine.execTimeBroadcast src tag week s
  | .broadcastSet src tag r => Sys2Proof.Machine.execBroadcastSet src tag r s
  | .reply f => Sys2Proof.Machine.execReply f s
  | .strayFrame f => Sys2Proof.Machine.execStrayFrame f s
  | .unsolicitedFrame f => Sys2Proof.Machine.execUnsolicitedFrame f s
  | .fPortMgmt f => Sys2Proof.Machine.execFPortMgmt f s
  | .replyDeadline => Sys2Proof.Machine.execReplyDeadline s
  | .gapEnd => Sys2Proof.Machine.execGapEnd s
  | .followUpDue a => Sys2Proof.Machine.execFollowUpDue a s
  | .lockExpiry a => Sys2Proof.Machine.execLockExpiry a s
  | .delayedDiscard k => Sys2Proof.Machine.execDelayedDiscard k s
  | .stopTimeout a => Sys2Proof.Machine.execStopTimeout a s
  | .startTimeout a => Sys2Proof.Machine.execStartTimeout a s
  | .soundingEnd z => Sys2Proof.Machine.execSoundingEnd z s
  | .protectionTime a => Sys2Proof.Machine.execProtectionTime a s
  | .wakeDueExpiry a => Sys2Proof.Machine.execWakeDueExpiry a s
  | .minuteBoundary => Sys2Proof.Machine.execMinuteBoundary s
  | .scanWaitEnd => Sys2Proof.Machine.execScanWaitEnd s
  | .storeCompletion ok => Sys2Proof.Machine.execStoreCompletion ok s
  | .warmResetApplied => Sys2Proof.Machine.execWarmResetApplied s
  | .readStation src tag fields => Sys2Proof.Machine.execReadStation src tag fields s
  | .writeStationPolicy src tag fields => Sys2Proof.Machine.execWriteStationPolicy src tag fields s
  | .holdAwake src tag fields => Sys2Proof.Machine.execHoldAwake src tag fields s
  | .release src tag fields => Sys2Proof.Machine.execRelease src tag fields s
  | .clearFault src tag fields => Sys2Proof.Machine.execClearFault src tag fields s
  | .readStatistics src tag fields => Sys2Proof.Machine.execReadStatistics src tag fields s
  | .clearStatistics src tag fields => Sys2Proof.Machine.execClearStatistics src tag fields s
  | .readGroup src tag fields => Sys2Proof.Machine.execReadGroup src tag fields s
  | .writeGroup src tag fields => Sys2Proof.Machine.execWriteGroup src tag fields s
  | .readWindow src tag fields => Sys2Proof.Machine.execReadWindow src tag fields s
  | .writeWindow src tag fields => Sys2Proof.Machine.execWriteWindow src tag fields s
  | .readZone src tag fields => Sys2Proof.Machine.execReadZone src tag fields s
  | .writeZone src tag fields => Sys2Proof.Machine.execWriteZone src tag fields s
  | .setClock src tag fields => Sys2Proof.Machine.execSetClock src tag fields s
  | .setMode src tag fields => Sys2Proof.Machine.execSetMode src tag fields s
  | .wakeZones src tag fields => Sys2Proof.Machine.execWakeZones src tag fields s
  | .readScanList src tag fields => Sys2Proof.Machine.execReadScanList src tag fields s
  | .writeScanList src tag fields => Sys2Proof.Machine.execWriteScanList src tag fields s
  | .scanStart src tag fields => Sys2Proof.Machine.execScanStart src tag fields s
  | .scanStop src tag fields => Sys2Proof.Machine.execScanStop src tag fields s
  | .readGateParameters src tag fields => Sys2Proof.Machine.execReadGateParameters src tag fields s
  | .writeGateParameters src tag fields => Sys2Proof.Machine.execWriteGateParameters src tag fields s
  | .ackAttention src tag fields => Sys2Proof.Machine.execAckAttention src tag fields s
  | .readLastLost src tag fields => Sys2Proof.Machine.execReadLastLost src tag fields s
  | .unlock src tag fields => Sys2Proof.Machine.execUnlock src tag fields s
  | .lock src tag fields => Sys2Proof.Machine.execLock src tag fields s
  | .setAccessCode src tag fields => Sys2Proof.Machine.execSetAccessCode src tag fields s
  | .freeze src tag fields => Sys2Proof.Machine.execFreeze src tag fields s
  | .save src tag fields => Sys2Proof.Machine.execSave src tag fields s
  | .warmReset src tag fields => Sys2Proof.Machine.execWarmReset src tag fields s
  | .completedCharacter p x => Sys2Proof.Machine.execCompletedCharacter p x s
  | .unknownRequestCode src tag code fields => Sys2Proof.Machine.execUnknownRequestCode src tag code fields s

end Sys2Proof.Machine
end

