-- ==== Sys2Proof/WellFormed.lean ====
section
/-! DEFINITION. Which commands are well formed: operands in the ranges their row can carry. The meanings take any
operands; what is ill formed here is judged there by R8 or has no effect. -/

namespace Sys2Proof

/-- A bus address of a sender or a station. -/
def busAddress (b : Byte) : Bool := 1 ≤ b.toNat && b.toNat ≤ 127

/-- A station address as a number. -/
def stationAddress (a : Nat) : Bool := 1 ≤ a && a ≤ 127

/-- The frame of UNEXPECTED_FRAME: of a kind that some addressee does not take (R21, R43, R44). -/
def unexpectedShape (f : Frame) : Bool :=
  f.shapeOk &&
    match f.body with
    | .poll => f.dst = 0
    | .set _ => false
    | .time _ => f.dst != 0
    | _ => true

/-- The frame of REPLY: of a kind that some request takes (R50). -/
def replyShape (f : Frame) : Bool :=
  f.shapeOk &&
    match f.body with
    | .status _ => true
    | .ack _ => true
    | .nak _ => true
    | _ => false

/-- Whether a frame is an MGMT. -/
def isMgmt (f : Frame) : Bool :=
  match f.body with
  | .mgmt _ => true
  | _ => false

/-- A management command: a source address, and the fields an MGMT has room for (R8). -/
def mgmtShape (src : Byte) (fields : List Byte) : Bool := busAddress src && fields.length ≤ 31

/-- The opening character of a cut-off: read with marker 1 (R4). -/
def opensFrame (x : Samples) : Bool := (readChar x).any (fun c => c.marker)

def FrameEnd.wellFormed : FrameEnd → Bool
  | .cutOff x => opensFrame x
  | .ended _ => true

def Instr.wellFormed : Instr → Bool
  | .powerOnReset _ _ _ => true
  | .startUp => true
  | .frameDiscard _ e => e.wellFormed
  | .interCharacterGap _ => true
  | .transmitStart _ => true
  | .sendCompletion _ => true
  | .controllerPoll src dst _ => busAddress src && busAddress dst
  | .setIntake src dst _ _ => busAddress src && busAddress dst
  | .pollOfGate src _ => busAddress src
  | .gateSetOrTime src _ _ => busAddress src
  | .unexpectedFrame f => unexpectedShape f
  | .timeBroadcast src _ _ => busAddress src
  | .broadcastSet src _ _ => busAddress src
  | .reply f => replyShape f
  | .strayFrame f => f.shapeOk && !isMgmt f
  | .unsolicitedFrame f => f.shapeOk && !isMgmt f
  | .fPortMgmt f => f.shapeOk && isMgmt f
  | .replyDeadline => true
  | .gapEnd => true
  | .followUpDue a => stationAddress a
  | .lockExpiry a => stationAddress a
  | .delayedDiscard k => busAddress k.dst
  | .stopTimeout a => stationAddress a
  | .startTimeout a => stationAddress a
  | .soundingEnd z => z < 8
  | .protectionTime a => stationAddress a
  | .wakeDueExpiry a => stationAddress a
  | .minuteBoundary => true
  | .scanWaitEnd => true
  | .storeCompletion _ => true
  | .warmResetApplied => true
  | .readStation src _ fields => mgmtShape src fields
  | .writeStationPolicy src _ fields => mgmtShape src fields
  | .holdAwake src _ fields => mgmtShape src fields
  | .release src _ fields => mgmtShape src fields
  | .clearFault src _ fields => mgmtShape src fields
  | .readStatistics src _ fields => mgmtShape src fields
  | .clearStatistics src _ fields => mgmtShape src fields
  | .readGroup src _ fields => mgmtShape src fields
  | .writeGroup src _ fields => mgmtShape src fields
  | .readWindow src _ fields => mgmtShape src fields
  | .writeWindow src _ fields => mgmtShape src fields
  | .readZone src _ fields => mgmtShape src fields
  | .writeZone src _ fields => mgmtShape src fields
  | .setClock src _ fields => mgmtShape src fields
  | .setMode src _ fields => mgmtShape src fields
  | .wakeZones src _ fields => mgmtShape src fields
  | .readScanList src _ fields => mgmtShape src fields
  | .writeScanList src _ fields => mgmtShape src fields
  | .scanStart src _ fields => mgmtShape src fields
  | .scanStop src _ fields => mgmtShape src fields
  | .readGateParameters src _ fields => mgmtShape src fields
  | .writeGateParameters src _ fields => mgmtShape src fields
  | .ackAttention src _ fields => mgmtShape src fields
  | .readLastLost src _ fields => mgmtShape src fields
  | .unlock src _ fields => mgmtShape src fields
  | .lock src _ fields => mgmtShape src fields
  | .setAccessCode src _ fields => mgmtShape src fields
  | .freeze src _ fields => mgmtShape src fields
  | .save src _ fields => mgmtShape src fields
  | .warmReset src _ fields => mgmtShape src fields
  | .completedCharacter _ x => !sampled x 0
  | .unknownRequestCode src _ code fields => mgmtShape src fields && (Machine.Req.ofCode code).isNone

end Sys2Proof
end

