-- ==== Sys2Proof/Safety.lean ====
section
/-! DEFINITION. What a safe state and a safe run are, and the terms the statements are written in. No command stops
the machine (Fault is empty), so safety is a matter of what every step keeps. -/

namespace Sys2Proof.Machine

/-! ## Invariants -/

/-- The sampled straps and the time base are in range (R1, R20, log 3). -/
def State.legalBase (s : State) : Bool :=
  1 ≤ s.straps.addr && s.straps.addr ≤ 127 && s.straps.rate ≤ 3 && s.frac < Config.unitsPerMs

/-- The buffers hold no more than they have room for (R28, R31, R38). -/
def State.withinCapacity (s : State) : Prop :=
  s.fwd.posted.length ≤ Config.postedCap ∧ s.fwd.delayed.length ≤ Config.delayedCap
    ∧ ∀ a, (s.st a).hold.length ≤ Config.holdCap

/-- A station is in the park queue exactly when it is PARK_QUEUED and in a wake queue exactly when it is
WAKE_QUEUED, and no address stands twice across the three queues (R70). -/
def State.queuesMatch (s : State) : Prop :=
  (s.parkQ ++ s.demandQ ++ s.schedQ).Nodup
    ∧ ∀ a, (a ∈ s.parkQ ↔ (s.st a).state = .parkQueued)
        ∧ (a ∈ s.demandQ ++ s.schedQ ↔ (s.st a).state = .wakeQueued)

/-- Inrush in use is within the budget, or one station alone is WAKING (R146, R148). -/
def State.inrushInBudget (s : State) : Prop :=
  s.inrush ≤ s.cfg.params.budget
    ∨ ∀ a b, (s.st a).state = .waking → (s.st b).state = .waking → a = b

/-- A record has a park mark exactly while its station is PARKED (R98). -/
def State.parkMarksMatch (s : State) : Prop :=
  ∀ a, (s.st a).parkMark.isSome = true ↔ (s.st a).state = .parked

/-! ## Frames -/

/-- What no line, station or timer event moves: the working tables, the access state, the stored image, the save
state, the clock's count, the straps, the time and the queue of commands. -/
def State.settingsKept (s t : State) : Prop :=
  t.cfg = s.cfg ∧ t.access = s.access ∧ t.unlocks = s.unlocks ∧ t.image = s.image ∧ t.imageValid = s.imageValid
    ∧ t.saving = s.saving ∧ t.straps = s.straps ∧ t.mono = s.mono ∧ t.frac = s.frac ∧ t.online = s.online
    ∧ t.pending = s.pending

/-- The answers of `t` are those of `s` with one more, given to the C-port's slot as R12 and R22 say. -/
def State.answeredWith (s t : State) (f : Frame) : Prop :=
  t.cport = (s.answer f).cport ∧ t.answers = (s.answer f).answers

/-! ## Conditions -/

/-- The C-port takes a frame from this source: its receiver is on the line and the addresses are bus addresses. -/
def State.hears (s : State) (src : Byte) : Bool :=
  s.listening .c && busAddress src && 1 ≤ s.straps.addr && s.straps.addr ≤ 127

/-- An address of a station of class PASS or MANAGED, not the gate's own (R21). -/
def State.serves (s : State) (dst : Byte) : Bool :=
  busAddress dst && dst.toNat != s.straps.addr && (s.pol dst.toNat).cls != .absent

/-- The F-port takes this frame: its receiver is on the line and the frame is well formed (R8). -/
def State.hearsField (s : State) (f : Frame) : Bool := s.listening .f && f.shapeOk

/-- A guarded request passes the access check and finds no SAVE under way (R182). -/
def State.admits (s : State) : Bool := (s.access = .isOpen || s.access = .unlocked) && s.saving.isNone

/-- An MGMT to the gate reaches the Management unit (R43, R47). -/
def State.managed (s : State) (src : Byte) : Bool := s.hears src && !s.draining

/-- The gate after it has answered an MGMT with a result and data (R19). -/
def State.mreply (s : State) (src tag code : Byte) (res : Res) (data : List Byte) : State :=
  s.answer ⟨src, byte s.straps.addr, tag, .mreply ([code, res.code] ++ data)⟩

/-- The entry of a request accepted now (R28, R31). -/
def State.entryNow (s : State) (src dst tag : Byte) (w : Posting) : Entry :=
  ⟨s.fwd.seq, src, dst, tag, w, s.mono, 0⟩

/-- An exchange that carries a POLL (R72): a controller's delayed one, a follow-up or the scanner's. -/
def Exchange.polls (x : Exchange) : Bool :=
  match x.req with
  | .delayed _ => true
  | .gate _ .followUp => true
  | .scan _ => true
  | _ => false

/-- A frame that ends now on the F-port is a STATUS `r` in reply to the POLL of exchange `x`, from a station and not from
the gate's own address: an observation (R50, R72). -/
def State.observes (s : State) (x : Exchange) (f : Frame) (r : StatusRec) : Prop :=
  s.hearsField f = true ∧ (∃ d, s.master.st = .awaitReply x d) ∧ x.fits f = true ∧ x.polls = true
    ∧ f.body = .status r ∧ f.src.toNat ≠ s.straps.addr

/-- No QUORUM entry has station `a` as its reference (R131). -/
def State.noReference (s : State) (a : Nat) : Prop := ∀ i ms k lo hi, s.group i ≠ .quorum ms k a lo hi

/-- The snapshot of a STATUS (R16, R72). -/
def snapshotNow (r : StatusRec) : Snapshot :=
  ⟨r.run, r.cause, min r.load.toNat 1000, r.aux.toNat, r.flags.getLsbD 0⟩

/-- A record that an observation only looked at (R72). -/
def Station.seenAt (now : Nat) (r : StatusRec) (y : Station) : Station :=
  { y with snapshot := some (snapshotNow r), seen := some now, notFresh := false }

/-- A start history with a start recorded now (R74): the six latest. -/
def startsWith (starts : List Nat) (now : Nat) : List Nat := (starts ++ [now]).drop (starts.length + 1 - 6)

/-- A station on its way out of PARKED by a wake: queued, admitted, or faulted by a supporter (R142, R143). -/
def StState.woken (x : StState) : Prop := x = .wakeQueued ∨ x = .waking ∨ x = .faulted

/-- The wake-due time worked out now is at or before now (R171, R172). -/
def State.dueAtOnce (s : State) (a : Nat) : Prop := ∃ w, s.wakeDueNow a = some w ∧ w ≤ s.mono

/-- Station `b` is reached from `a` by the walk of R134: from a station to its supporters that are PARKED and not
ABSENT, `a` itself at the start. -/
def State.chained (s : State) (a b : Nat) : Prop :=
  Relation.ReflTransGen (fun x y => y ∈ s.liveSupporters x ∧ (s.st y).state = .parked) a b

/-- Breadth first from the stations still to walk, the PARKED supporters of each in rising address order, none twice
(R134): `seen` with every station the walk finds behind it. -/
def State.walkOrder (s : State) : Nat → List Nat → List Nat → List Nat
  | 0, _, seen => seen
  | _ + 1, [], seen => seen
  | n + 1, a :: rest, seen =>
    let found := (s.liveSupporters a).filter fun p => (s.st p).state = .parked && !seen.contains p
    s.walkOrder n (rest ++ found) (seen ++ found)

/-- A WAKE_QUEUED station is ready: min off, starts limit and supporters let it wake (R145, R136). -/
def State.mayWake (s : State) (a : Nat) : Bool :=
  ((s.st a).parkedSince.all fun p => (s.pol a).minOff * 1000 ≤ s.mono - p)
    && ((s.pol a).startsLimit = 0
      || ((s.st a).starts.filter fun n => s.mono ≤ n + 3600000).length < (s.pol a).startsLimit)
    && (s.supporters a).all fun p => (s.pol p).cls = .absent || (s.st p).state = .free

/-- The entries of a queue that R146's walk admits, with `inUse` the inrush in use and `waking` whether a station is
WAKING: an entry not ready is passed over, a ready one that fits is admitted and adds its weight, and the first ready
one that does not fit ends the walk. -/
def State.letIn (s : State) (inUse : Nat) (waking : Bool) : List Nat → List Nat
  | [] => []
  | a :: rest =>
    if s.mayWake a = false then s.letIn inUse waking rest
    else if inUse + (s.pol a).weight ≤ s.cfg.params.budget ∨ waking = false then
      a :: s.letIn (inUse + (s.pol a).weight) true rest
    else []

/-- The command is a timer's or a port's, and what it waits for has come: the line times of R6, R12, R49 and R53 (4
character times for R6, log 20), the counter times of R27, R41, R58, R122, R145, R152, R159, R172 and R178, the week's
whole minutes of R169, and the drain of R192. A moment that holds for one line unit alone stands at the start of its
millisecond (log 3). -/
def State.isDue (s : State) : Instr → Prop
  | .sendCompletion p => ∃ f e, (s.port p).tx = .sending f e ∧ e ≤ s.lineTime
  | .transmitStart p => (∃ f, (s.port p).tx = .deferring f) ∧ (s.port p).rx = .hunting
  | .interCharacterGap p => ∃ y, (s.port p).rx = .assembling y ∧ y.lastEnd + 4 * s.charTime < s.lineTime
  | .replyDeadline => ∃ x d, s.master.st = .awaitReply x d ∧ d ≤ s.lineTime
  | .gapEnd => ∃ x e, s.master.st = .gap x e ∧ e ≤ s.lineTime
  | .warmResetApplied =>
    s.drain = .running true ∧ s.fwd.posted = [] ∧ (s.master.st = .idle ∨ ∃ x e, s.master.st = .gap x e)
  | .delayedDiscard k => ∃ d ∈ s.fwd.delayed, d.key = k ∧ ∃ r n, d.st = .done r n ∧ n + 2000 ≤ s.mono
  | .minuteBoundary => s.frac = 0 ∧ s.clock.valid = true ∧ s.weekTime % 60000 = 0
  | .soundingEnd z => z < 8 ∧ ∃ y, (s.zone z).sounding = some y ∧ y.ends ≤ s.mono
  | .lockExpiry a => stationAddress a = true ∧ ∃ n, (s.st a).lock = some n ∧ n ≤ s.mono
  | .stopTimeout a =>
    stationAddress a = true ∧ (s.st a).state = .parking ∧ (s.st a).phase = .coast
      ∧ ∃ n, (s.st a).phaseDeadline = some n ∧ n ≤ s.mono
  | .startTimeout a =>
    stationAddress a = true ∧ (s.st a).state = .waking ∧ (s.st a).phase = .settle
      ∧ ∃ n, (s.st a).phaseDeadline = some n ∧ n ≤ s.mono
  | .followUpDue a =>
    stationAddress a = true ∧ s.frac = 0 ∧ (s.st a).nextFollowUp = some s.mono
      ∧ (((s.st a).state = .parking ∧ (s.st a).phase = .coast)
          ∨ ((s.st a).state = .waking ∧ (s.st a).phase = .settle))
  | .wakeDueExpiry a => stationAddress a = true ∧ ∃ n, (s.st a).wakeDue = some n ∧ n ≤ s.mono
  | .protectionTime a =>
    let limit := (s.pol a).startsLimit
    let counted := (s.st a).starts.filter fun x => s.mono - 1 ≤ x + 3600000
    stationAddress a = true ∧ s.frac = 0 ∧ (s.st a).state = .wakeQueued
      ∧ ((∃ n, (s.st a).parkedSince = some n ∧ s.mono = n + (s.pol a).minOff * 1000)
          ∨ (limit ≠ 0 ∧ limit ≤ counted.length
              ∧ ∃ x, counted[counted.length - limit]? = some x ∧ s.mono = x + 3600001))
  | .scanWaitEnd => s.scan.st = .waiting ∧ ∃ n, s.scan.waitEnd = some n ∧ n ≤ s.mono
  | _ => False

/-- The address in a slot of the scan list. -/
def State.slotAt (s : State) (j : Nat) : Nat := s.cfg.scan.slots[j]?.getD 0

/-- An entry passed over without a count (R177 rule 2; the gate's own address by log 14). -/
def State.absentEntry (s : State) (j : Nat) : Bool :=
  (s.pol (s.slotAt j)).cls = .absent || s.slotAt j = s.straps.addr

/-- An entry skipped as fresh (R177 rule 3). -/
def State.freshEntry (s : State) (j : Nat) : Bool := !s.absentEntry j && s.fresh (s.slotAt j)

/-- The fresh-skip count after the entries from `i` to before `j` are skipped. -/
def State.skipCount (s : State) (i j : Nat) : Nat :=
  let n := (List.range' i (j - i)).countP s.freshEntry
  if n = 0 then s.scan.freshSkips else min (s.scan.freshSkips + n) 65535

/-- From position `i` the scanner skips every entry before `j` (R177). -/
def State.skips (s : State) (i j : Nat) : Prop :=
  i ≤ j ∧ ∀ n, i ≤ n → n < j → s.absentEntry n = true ∨ s.freshEntry n = true

/-- The entry at `j` is polled (R177 rule 4). -/
def State.dueEntry (s : State) (j : Nat) : Prop :=
  j < s.cfg.scan.len ∧ s.absentEntry j = false ∧ s.freshEntry j = false

/-- From `s`, whose scan poll has ended, to `t` the scanner moves on (R178, R179): in SINGLE mode or with a stop pending
it is IDLE, otherwise it waits out its spacing, and with none it polls the next entry that is due. The entries are
judged with the stations as the outcome left them. -/
def State.scanPollEnds (s t : State) : Prop :=
  let v : State := { t with scan := s.scan }
  (s.scan.running = .single → t.scan = { s.scan with st := .idle, waitEnd := none, stopPending := false })
  ∧ (s.scan.running ≠ .single → s.scan.stopPending = true →
      t.scan = { s.scan with pos := s.scan.pos + 1, st := .idle, waitEnd := none, stopPending := false })
  ∧ (s.scan.running ≠ .single → s.scan.stopPending = false →
      (s.cfg.scan.spacing ≠ 0 →
        t.scan =
          { s.scan with pos := s.scan.pos + 1, st := .waiting, waitEnd := some (s.mono + s.cfg.scan.spacing) })
      ∧ (s.cfg.scan.spacing = 0 → s.cfg.scan.len ≤ 32 → ∀ j, v.skips (s.scan.pos + 1) j → v.dueEntry j →
          t.scan =
            { s.scan with
              pos := j, st := .scanning, waitEnd := none, freshSkips := v.skipCount (s.scan.pos + 1) j }))

/-- What a clock set or a window write does about closing zones and wake-due times (R164, R169, R170, R171), with `v` the
state under the new clock or window and `t` the state after: a PARK_QUEUED station of a zone open before, or open until
a whole minute that is now, and not open under `v` leaves to FREE with its credit; every station still PARKED with
wake-at-close has its wake-due time worked out afresh. -/
def State.closingTaken (s v t : State) : Prop :=
  (∀ a, (s.st a).state = .parkQueued → (s.pol a).zone < 8 →
    s.zoneOpen (s.pol a).zone = true
      ∨ (s.clock.valid = true ∧ s.weekTime % 60000 = 0
          ∧ s.openAt (s.pol a).zone ((s.weekMinute + 10079) % 10080) = true) →
    v.zoneOpen (s.pol a).zone = false → (t.st a).state = .free ∧ (t.st a).credit = (s.st a).credit)
  ∧ (∀ a, (t.st a).state = .parked → (s.pol a).wakeAtClose = true →
      (s.st a).state = .parked ∧ (t.st a).wakeDue = v.wakeDueNow a)

/-- The lengths of the guarded requests' fields (R183). A kind or form outside its list has the length of any of them
(log 16). -/
def guardedLength (q : Req) (fields : List Byte) : Bool :=
  match q, fields with
  | .writeStationPolicy, _ => fields.length = 28
  | .writeGroup, _ :: kind :: bs =>
    match kind.toNat with
    | 0 => bs.length = 0
    | 1 => bs.length = 15
    | 2 => bs.length = 18
    | _ => bs.length = 0 || bs.length = 15 || bs.length = 18
  | .writeGroup, _ => false
  | .writeWindow, _ => fields.length = 7
  | .writeZone, _ => fields.length = 3
  | .setClock, _ => fields.length = 4
  | .writeGateParameters, _ => fields.length = 4
  | .writeScanList, form :: bs =>
    let list := 3 ≤ bs.length && bs.length = 3 + (bs.getD 2 0).toNat
    match form.toNat with
    | 0 => list
    | 1 => bs.length = 8
    | _ => bs.length = 8 || list
  | .writeScanList, _ => false
  | .setAccessCode, _ => fields.length = 16
  | .holdAwake, _ | .release, _ | .clearFault, _ | .clearStatistics, _ | .setMode, _ | .wakeZones, _ =>
    fields.length = 1
  | _, _ => fields.length = 0

/-- The guarded requests (R182) and their commands. -/
def guardedCommands (src tag : Byte) (fields : List Byte) : List (Req × Instr) :=
  [(.writeStationPolicy, .writeStationPolicy src tag fields), (.holdAwake, .holdAwake src tag fields),
   (.release, .release src tag fields), (.clearFault, .clearFault src tag fields),
   (.clearStatistics, .clearStatistics src tag fields), (.writeGroup, .writeGroup src tag fields),
   (.writeWindow, .writeWindow src tag fields), (.writeZone, .writeZone src tag fields),
   (.setClock, .setClock src tag fields), (.setMode, .setMode src tag fields),
   (.wakeZones, .wakeZones src tag fields), (.writeScanList, .writeScanList src tag fields),
   (.scanStart, .scanStart src tag fields), (.writeGateParameters, .writeGateParameters src tag fields),
   (.lock, .lock src tag fields), (.setAccessCode, .setAccessCode src tag fields), (.save, .save src tag fields),
   (.warmReset, .warmReset src tag fields)]

/-- The requests every access state admits (R182), with UNLOCK, and their commands. -/
def admittedCommands (src tag : Byte) (fields : List Byte) : List (Req × Instr) :=
  [(.readStation, .readStation src tag fields), (.readStatistics, .readStatistics src tag fields),
   (.readGroup, .readGroup src tag fields), (.readWindow, .readWindow src tag fields),
   (.readZone, .readZone src tag fields), (.readScanList, .readScanList src tag fields),
   (.readGateParameters, .readGateParameters src tag fields), (.readLastLost, .readLastLost src tag fields),
   (.scanStop, .scanStop src tag fields), (.ackAttention, .ackAttention src tag fields),
   (.freeze, .freeze src tag fields), (.unlock, .unlock src tag fields)]

/-! ## Runs of commands -/

/-- Commands one after another. -/
def execAll : List Instr → State → Out
  | [], s => .next s
  | c :: cs, s =>
    match exec c s with
    | .next t => execAll cs t
    | .fault r => .fault r
    | .refused r => .refused r

/-- A frame as its characters on the line, each read cleanly: the marker on the first alone (R1). -/
def lineCharacters (p : Port) (f : Frame) : List Instr :=
  match f.bytes with
  | [] => []
  | b :: bs =>
    .completedCharacter p (cleanSamples (charBits b true))
      :: bs.map (fun d => .completedCharacter p (cleanSamples (charBits d false)))

/-- A command that writes the working tables, or may deliver an MGMT that does. -/
def tableWriter : Instr → Bool
  | .startUp => true
  | .completedCharacter .c _ => true
  | .unexpectedFrame f => isMgmt f
  | .writeStationPolicy _ _ _ => true
  | .writeGroup _ _ _ => true
  | .writeWindow _ _ _ => true
  | .writeZone _ _ _ => true
  | .writeScanList _ _ _ => true
  | .writeGateParameters _ _ _ => true
  | .setAccessCode _ _ _ => true
  | _ => false

end Sys2Proof.Machine
end

