-- ==== Sys2Proof/Certificates/Slice0/Obligations.lean ====
section
/-! DEFINITION. The statements for the provers. Every command of the block answers a next state; each statement says
which one, or what holds in it. `s.hunt .c` is `s` with the C-port's receiver HUNTING, as a frame's end leaves it (R9);
`finish` is the mode check and arbitration that end a step (R60, R174). -/

open Sys2Proof Sys2Proof.Machine

/-! ## The machine -/

/-- A step runs the command at the front of the queue on the state with the rest of the queue. -/
def Obligations.StepRunsFrontCommand : Prop :=
  ∀ (c : Instr) (rest : List Instr) (s : State),
    step { s with pending := c :: rest } = exec c { s with pending := rest }

/-- On an empty queue a gate on the line lets one line unit pass and queues the commands that have come due, and
changes nothing but the time and the queue; one held off the line idles. A command is queued exactly when it is a
timer's or a port's and its time has come (R6, R12, R27, R41, R49, R53, R58, R122, R145, R152, R159, R169, R172, R178,
R192). That idle steps are the passing of time, and when the gap of R6 is raised, are the model's own choice: log 2, 3,
20 and 21. -/
def Obligations.IdleStepAdvancesTime : Prop :=
  (∀ s : State, s.pending = [] → s.legalBase = true →
    (s.online = true →
      ∃ t, step s = .next t ∧ t.lineTime = s.lineTime + 1 ∧ t.pending = t.dueCommands
        ∧ { t with mono := s.mono, frac := s.frac, pending := [] } = s)
    ∧ (s.online = false → step s = .next s))
  ∧ ∀ (s : State) (c : Instr), c ∈ s.dueCommands ↔ s.isDue c

/-- The five invariants hold at reset (R70, R98, R148, R191). -/
def Obligations.InvariantsHoldAtReset : Prop :=
  State.reset.legalBase = true ∧ State.reset.withinCapacity ∧ State.reset.queuesMatch
    ∧ State.reset.inrushInBudget ∧ State.reset.parkMarksMatch

/-- No command moves the queue of commands; none but START_UP moves the time; none but a power-on reset samples the
straps (R20, R162); and the straps and the time base stay in range at every step. That time stands still while
commands are taken, and the time base, are the model's choice: log 1, 2, 3 and 21. -/
def Obligations.StepKeepsTimeAndStraps : Prop :=
  (∀ (c : Instr) (s t : State), exec c s = .next t →
      t.pending = s.pending
      ∧ ((∀ a r i, c ≠ .powerOnReset a r i) → t.straps = s.straps)
      ∧ (c ≠ .startUp → t.mono = s.mono ∧ t.frac = s.frac))
    ∧ ∀ s t : State, s.legalBase = true → step s = .next t → t.legalBase = true

/-- Once the access state is FROZEN it stays so at every step of a gate on the line (R187). A power-on reset, which
ends FROZEN, is such a step: that the access state keeps its value in the held gate until START_UP is log 21. -/
def Obligations.FrozenStaysFrozen : Prop :=
  ∀ s t : State, s.online = true → s.access = .frozen → step s = .next t → t.access = .frozen

/-- The posted buffer, the delayed-transaction table and every hold list keep within their room at every step. -/
def Obligations.StepKeepsCapacities : Prop :=
  ∀ s t : State, s.withinCapacity → step s = .next t → t.withinCapacity

/-- The three station queues agree with the station states at every step (R70). -/
def Obligations.StepKeepsQueuesMatched : Prop :=
  ∀ s t : State, s.queuesMatch → step s = .next t → t.queuesMatch

/-- At every step inrush in use stays within the budget, unless one station alone is WAKING: admissions, weight and
budget writes, resets and exits all keep it so (R87, R146, R148, R149). -/
def Obligations.StepKeepsInrushInBudget : Prop :=
  ∀ s t : State, s.inrushInBudget → step s = .next t → t.inrushInBudget

/-- At every step a record has a park mark exactly while its station is PARKED (R77, R78, R82, R98, R143); the wake
queues hold no PARKED station, which every step keeps (R70). -/
def Obligations.StepKeepsParkMarks : Prop :=
  ∀ s t : State, s.queuesMatch → s.parkMarksMatch → step s = .next t → t.parkMarksMatch

/-- The working tables change only by the commands that write them. -/
def Obligations.OnlyWritesMoveTables : Prop :=
  ∀ (c : Instr) (s t : State), c.wellFormed = true → tableWriter c = false → exec c s = .next t → t.cfg = s.cfg

/-! ## Resets -/

/-- POWER_ON_RESET samples the straps once, address 0 taken as 127, holds both ports off the line with their power-on
values, and ends a store write with its image invalid (R14, R20, R190). That every other field keeps its value until
START_UP is the model's choice: log 21. -/
def Obligations.PowerOnResetSamplesStraps : Prop :=
  ∀ (addr : BitVec 7) (rate : BitVec 2) (i : Bool) (s : State),
    exec (.powerOnReset addr rate i) s
      = .next
          { s with
            online := false
            straps := ⟨if addr.toNat = 0 then 127 else addr.toNat, rate.toNat, i⟩
            cport := ⟨.hunting, .idle, ⟨0, 0, 0, 0, 0, 0, 0⟩⟩
            fport := ⟨.hunting, .idle, ⟨0, 0, 0, 0, 0, 0, 0⟩⟩
            imageValid := s.imageValid && s.saving.isNone
            saving := none }

/-- After a power-on reset the Forwarding unit's state is R46's. -/
def Obligations.StartUpForwardingValues : Prop :=
  ∀ s : State, s.online = false →
    ∃ t, exec .startUp s = .next t
      ∧ t.fwd.posted = [] ∧ t.fwd.delayed = [] ∧ t.answers = []
      ∧ (∀ a, (t.st a).hold = [] ∧ (t.st a).shadow = .unset ∧ (t.st a).lock = none)
      ∧ t.fwd.lastLost = ⟨0, 0, .noop, .none, 0⟩ ∧ t.fwd.cnt = ⟨0, 0, 0, 0, 0, 0, 0⟩

/-- START_UP loads the stored image when IMGIGN is low and the image is valid, the defaults otherwise, each field of
them spelled out, with the default policy at the gate's own address, and sets every block to its power-on values:
ports, forwarding counters, master, every record whole, queues, starved flags, zones, clock, access, flags and scanner,
which auto-starts if its parameters ask for it (R11, R14, R45, R65, R67, R68, R89, R126, R140, R150, R161, R163, R167,
R175, R176, R180, R186, R188, R189, R191). The sub-millisecond part is log 3's, the record's two rank times log 13's,
the scanner's mode in force log 15's. -/
def Obligations.StartUpLoadsImageOrDefaults : Prop :=
  ∀ s : State, s.online = false → s.image.mode ≠ .draining →
    let load := s.straps.imgIgn = false ∧ s.imageValid = true
    let policy : Policy :=
      { cls := .pass, nonPosted := false, setpointWakes := false, wakeAtClose := false, zone := 0, tIdle := 0
        tBusy := 1000, wBase := 1, wSlope := 0, drain := 0, cPark := 65535, minRun := 0, minOff := 0, startsLimit := 0
        stopTimeout := 60, startTimeout := 60, parkHorizon := 0, wakeLead := 0, weight := 0, rated := 0, failLimit := 0 }
    let defaults : Tables :=
      { policies := .replicate 127 policy, groups := .replicate 32 .empty, windows := .replicate 16 ⟨0, 0, 0, 0⟩
        zones := .replicate 8 ⟨0, .steady⟩
        scan :=
          { slots := .replicate 32 0, len := 0, mode := .repeating, startIdx := 0, spacing := 100, period := 60
            freshWindow := 10, autoStart := false }
        params := { budget := 8, parkLimit := 2, replyTimeout := 20, takeTime := true }, code := .replicate 16 0 }
    let from_ : Image := if load then s.image else ⟨defaults, .pass⟩
    let lines : LineCounters := ⟨0, 0, 0, 0, 0, 0, 0⟩
    ∃ t, exec .startUp s = .next t
      ∧ t.online = true ∧ t.straps = s.straps ∧ t.mono = 0 ∧ t.frac = 0
      ∧ t.cfg = { from_.cfg with policies := from_.cfg.policies.setIfInBounds (s.straps.addr - 1) policy }
      ∧ t.mode = from_.mode
      ∧ t.access = (if from_.cfg.code = .replicate 16 0 then .isOpen else .locked) ∧ t.unlocks = 4
      ∧ t.flags = ⟨decide (¬ load), false, false, false, false, false, false, false⟩
      ∧ t.clock = ⟨false, 0, 0⟩ ∧ t.image = s.image ∧ t.imageValid = s.imageValid ∧ t.saving = none ∧ t.drain = .off
      ∧ t.parkQ = [] ∧ t.demandQ = [] ∧ t.schedQ = []
      ∧ t.starved = .replicate 32 false ∧ t.zones = .replicate 8 ⟨none, 0⟩ ∧ t.timeRange = 0
      ∧ t.fwd.cnt = ⟨0, 0, 0, 0, 0, 0, 0⟩ ∧ t.cport = ⟨.hunting, .idle, lines⟩
      ∧ t.fport.rx = .hunting ∧ t.fport.cnt = lines
      ∧ t.master.stray = 0 ∧ t.master.unsolicited = 0 ∧ t.master.replyTimeouts = 0 ∧ t.master.fMgmt = 0
      ∧ t.scan.freshSkips = 0
      ∧ (t.cfg.scan.autoStart = false ∨ t.cfg.scan.len = 0 →
          t.master = ⟨.idle, 0, 0, 0, 0, 0, 0, 0⟩ ∧ t.fport.tx = .idle
          ∧ t.scan = ⟨.idle, 0, 0, none, false, .repeating, 0⟩)
      ∧ (t.cfg.scan.autoStart = true → t.dueEntry t.cfg.scan.startIdx →
          t.scan = ⟨.scanning, t.cfg.scan.startIdx, 0, none, false, .repeating, 0⟩)
      ∧ ∀ a, t.st a =
          { state := .unknown, phase := .none, shadow := .unset, credit := 0, lastObs := 0, remainder := 0
            snapshot := none, seen := none, notFresh := false, lock := none, exempt := false, autoExempt := false
            demand := false, attempts := 0, phaseDeadline := none, nextFollowUp := none, parkMark := none
            parkedSince := none, wakeDue := none, starts := [], lastStart := none, hold := [], fault := none
            firstSent := none, satisfiedAt := none, stats := ⟨0, 0, 0, 0, 0, 0, 0, 0, 0⟩, scanMiss := 0 }

/-- WARM_RESET_APPLIED, due, gives every block its warm values: every record, whole, with auto-exempt, the start
history, the last start time, the statistics and the scan-miss count kept and a PARKED station accounted to now;
queues, ports, forwarding, master, groups, zones, scanner and access state. The held entries are lost with cause
RESET, rising addresses, oldest first; the attention flags are kept but for POSTED_LOST; an auto-starting scanner
selects (R13, R30, R47, R66, R90, R140, R161, R176, R180, R188, R189, R192). The record's two rank times are log
13's, the scanner's mode in force log 15's. -/
def Obligations.WarmResetGivesWarmValues : Prop :=
  ∀ s : State, s.online = true → s.warmDue = true →
    let lost := addresses.flatMap (fun a => (s.st a).hold)
    let stopped (x : TxState) : TxState := match x with
      | .deferring _ => .idle
      | y => y
    ∃ t, exec .warmResetApplied s = .next t
      ∧ (∀ a, t.st a =
          { state := .unknown, phase := .none, shadow := .unset, credit := 0, lastObs := 0, remainder := 0
            snapshot := none, seen := none, notFresh := false, lock := none, exempt := false, demand := false
            attempts := 0, phaseDeadline := none, nextFollowUp := none, parkMark := none, parkedSince := none
            wakeDue := none, hold := [], fault := none, firstSent := none, satisfiedAt := none
            autoExempt := (s.st a).autoExempt, starts := (s.st a).starts, lastStart := (s.st a).lastStart
            stats := ((s.accountParked a).st a).stats, scanMiss := (s.st a).scanMiss })
      ∧ t.parkQ = [] ∧ t.demandQ = [] ∧ t.schedQ = [] ∧ t.fwd.posted = [] ∧ t.fwd.delayed = [] ∧ t.answers = []
      ∧ t.starved = .replicate 32 false ∧ t.zones = .replicate 8 ⟨none, 0⟩
      ∧ t.access = (if s.access = .unlocked then .locked else s.access) ∧ t.unlocks = s.unlocks
      ∧ t.cfg = s.cfg ∧ t.clock = s.clock ∧ t.mono = s.mono ∧ t.straps = s.straps ∧ t.drain = .off ∧ t.saving = none
      ∧ t.mode = (if s.mode = .draining then .pass else s.mode)
      ∧ t.cport = { s.cport with rx := .hunting, tx := stopped s.cport.tx }
      ∧ t.fport.rx = .hunting ∧ t.fport.cnt = s.fport.cnt
      ∧ (lost = [] → t.fwd.cnt = s.fwd.cnt ∧ t.fwd.lastLost = s.fwd.lastLost ∧ t.flags = s.flags)
      ∧ (∀ e, lost.getLast? = some e →
          t.fwd.cnt = { s.fwd.cnt with lost := min (s.fwd.cnt.lost + lost.length) 65535 }
          ∧ t.fwd.lastLost = ⟨e.dst.toNat, e.tag, e.what.action, .reset, 0⟩
          ∧ t.flags = { s.flags with postedLost := true })
      ∧ (s.cfg.scan.autoStart = false ∨ s.cfg.scan.len = 0 →
          t.master = { s.master with st := .idle, gPass := 0, sPass := 0 } ∧ t.fport.tx = stopped s.fport.tx
          ∧ t.scan = { s.scan with st := .idle, pos := 0, passStart := 0, waitEnd := none, stopPending := false })
      ∧ (s.cfg.scan.autoStart = true → s.cfg.scan.startIdx < s.cfg.scan.len →
          s.absentEntry s.cfg.scan.startIdx = false →
          t.scan = ⟨.scanning, s.cfg.scan.startIdx, s.mono, none, false, .repeating, s.scan.freshSkips⟩)

/-! ## The line -/

/-- A character is read as sent when, at each of its twelve bit times, at least two of the three samples agree with
the bit sent (R1, R2, R3); and the characters of a well-formed frame, 7 to 39 of them, pass the check of a complete
frame as that frame (R7, R8). -/
def Obligations.CharactersAndFramesReadBack : Prop :=
  (∀ (d : Byte) (m : Bool) (x : Samples),
    (∀ i, i < 12 →
      2 ≤ (List.range 3).countP (fun k => x.getLsbD (3 * i + k) == (charBits d m).getD i false)) →
    readChar x = some ⟨d, m, none⟩)
    ∧ ∀ f : Frame, f.shapeOk = true →
        frameTest f.bytes = .valid f ∧ f.bytes.length = f.chars ∧ 7 ≤ f.chars ∧ f.chars ≤ 39

/-- The characters of a well-formed frame, one COMPLETED_CHARACTER each, do what the frame's delivery does: the
character commands and the frame commands tell one story (R4, R7, R9). That a frame may be given either way, with no
time between the commands, is the model's choice: log 1 and 2. -/
def Obligations.CharactersDeliverTheirFrame : Prop :=
  ∀ (p : Port) (f : Frame) (s : State), s.listening p = true → (s.port p).rx = .hunting → f.shapeOk = true →
    execAll (lineCharacters p f) s = .next (s.deliver p f)

/-- COMPLETED_CHARACTER acts by R4's table; the fifth character is the length (R5) and the frame ends at length plus
7 (R7). A false start has no effect (R2). A character that began more than 3 character times after the last one ends
the frame in progress as timed out first, and is then taken from HUNTING (R4, R6, R10). That its start lies one
character time before its end, so that it is overdue from 4 on, is log 20. -/
def Obligations.CompletedCharacterAssembles : Prop :=
  ∀ (p : Port) (x : Samples) (s : State), s.listening p = true →
    (readChar x = none → exec (.completedCharacter p x) s = .next s)
    ∧ (∀ c y, readChar x = some c → (s.port p).rx = .assembling y → y.lastEnd + 4 * s.charTime < s.lineTime →
        let w :=
          (s.setPort p
            { s.port p with
              rx := .hunting
              cnt := match y.firstErr with
                | some e => (s.port p).cnt.counted (.charError e)
                | none => { (s.port p).cnt with timeout := min ((s.port p).cnt.timeout + 1) 65535 } }).raise
            .lineErrors
        exec (.completedCharacter p x) s
          = .next
              (if c.marker then
                w.setPort p { w.port p with rx := .assembling ⟨[c.data], c.err, s.lineTime⟩ }
               else w))
    ∧ ∀ c, readChar x = some c → s.silentFor p 4 = false →
        ((s.port p).rx = .hunting → c.marker = false → exec (.completedCharacter p x) s = .next s)
        ∧ ((s.port p).rx = .hunting → c.marker = true →
            exec (.completedCharacter p x) s
              = .next (s.setPort p { s.port p with rx := .assembling ⟨[c.data], c.err, s.lineTime⟩ }))
        ∧ ∀ y, (s.port p).rx = .assembling y →
            let z : FrameInProgress := ⟨y.chars ++ [c.data], y.firstErr.or c.err, s.lineTime⟩
            let u := s.setPort p { s.port p with rx := .assembling z }
            (c.marker = true →
              exec (.completedCharacter p x) s
                = .next ((s.discardCutOff p).setPort p
                    { (s.discardCutOff p).port p with rx := .assembling ⟨[c.data], c.err, s.lineTime⟩ }))
            ∧ (c.marker = false → z.chars.length < 5 → exec (.completedCharacter p x) s = .next u)
            ∧ (c.marker = false → ∀ n, z.chars[4]? = some n →
                (32 < n.toNat → exec (.completedCharacter p x) s = .next (u.discard p .length))
                ∧ (n.toNat ≤ 32 → z.chars.length ≠ n.toNat + 7 → exec (.completedCharacter p x) s = .next u)
                ∧ (n.toNat ≤ 32 → z.chars.length = n.toNat + 7 →
                    (∀ e, z.firstErr = some e →
                      exec (.completedCharacter p x) s = .next (u.discard p (.charError e)))
                    ∧ (z.firstErr = none →
                        (∀ w, frameTest z.chars = .bad w →
                          exec (.completedCharacter p x) s = .next (u.discard p w))
                        ∧ ∀ f, frameTest z.chars = .valid f →
                            exec (.completedCharacter p x) s = .next ((u.hunt p).deliver p f))))

/-- FRAME_DISCARD and INTER_CHARACTER_GAP count a discarded frame once, under its first character error if it holds
one and under its cause otherwise, raise LINE_ERRORS and leave the receiver HUNTING, or with the new frame where a
marker character cut the old one off; nothing else changes (R4, R6, R10). The cause is the command's, with the
receiver HUNTING too (log 6); a gap command before 3 character times have passed has no effect (log 5). -/
def Obligations.DiscardCountsFrameOnce : Prop :=
  ∀ (p : Port) (s : State), s.listening p = true →
    let under (n : LineCounters) (rx : RxState) : State :=
      (s.setPort p
          { s.port p with
            rx := rx
            cnt := match (s.port p).rx.firstErr with
              | some e => (s.port p).cnt.counted (.charError e)
              | none => n }).raise .lineErrors
    (∀ c, exec (.frameDiscard p (.ended c)) s = .next (under ((s.port p).cnt.counted c) .hunting))
    ∧ (∀ x c, readChar x = some c → c.marker = true →
        exec (.frameDiscard p (.cutOff x)) s
          = .next (under { (s.port p).cnt with cutOff := min ((s.port p).cnt.cutOff + 1) 65535 }
              (.assembling ⟨[c.data], c.err, s.lineTime⟩)))
    ∧ ∀ y, (s.port p).rx = .assembling y →
        (y.lastEnd + 3 * s.charTime < s.lineTime →
          exec (.interCharacterGap p) s
            = .next (under { (s.port p).cnt with timeout := min ((s.port p).cnt.timeout + 1) 65535 } .hunting))
        ∧ (s.lineTime ≤ y.lastEnd + 3 * s.charTime → exec (.interCharacterGap p) s = .next s)

/-- TRANSMIT_START begins a deferred send from HUNTING. SEND_COMPLETION on the C-port empties the slot, notes the
warm reset's ACCEPTED, and offers the oldest waiting answer (R12, R22, R192). That a send's end is worked out at its
start is log 3; that the command has no effect before the last stop bit is out is log 5. -/
def Obligations.ControllerPortSends : Prop :=
  ∀ s : State, s.online = true →
    (∀ p f, (s.port p).tx = .deferring f → (s.port p).rx = .hunting →
      exec (.transmitStart p) s
        = .next (s.setPort p { s.port p with tx := .sending f (s.lineTime + f.chars * s.charTime) }))
    ∧ ∀ f e, s.cport.tx = .sending f e →
        (s.lineTime < e → exec (.sendCompletion .c) s = .next s)
        ∧ (e ≤ s.lineTime →
            let u : State :=
              { s with
                cport := { s.cport with tx := .idle, rx := .hunting }
                drain := if s.drain = .running false ∧ f.body = .mreply [0x71, 1] then .running true else s.drain }
            (s.answers = [] → exec (.sendCompletion .c) s = .next u)
            ∧ ∀ g rest, s.answers = g :: rest →
                exec (.sendCompletion .c) s
                  = .next
                      { u with
                        answers := rest
                        cport := { u.cport with tx := .sending g (s.lineTime + g.chars * s.charTime) } })

/-- SEND_COMPLETION on the F-port: a request that expects a reply awaits it for the reply timeout; a broadcast entry
is removed and the gap of 3 character times begins (R44, R49, R53). That the ends of the send, the wait and the gap
are held in line units is log 3. -/
def Obligations.FieldPortSends : Prop :=
  ∀ (s : State) (f : Frame) (e : Nat) (x : Exchange),
    s.online = true → s.fport.tx = .sending f e → e ≤ s.lineTime → s.master.st = .sending x →
    let u : State := { s with fport := { s.fport with tx := .idle, rx := .hunting } }
    (x.frame.dst.toNat ≠ 0 →
      exec (.sendCompletion .f) s
        = .next { u with
            master := { s.master with st := .awaitReply x (s.lineTime + s.cfg.params.replyTimeout * 2304) } })
    ∧ ∀ n, x.req = .entry n → x.frame.dst.toNat = 0 →
        exec (.sendCompletion .f) s
          = .next
              { u with
                fwd := { s.fwd with posted := s.fwd.posted.filter (fun y => y.seq ≠ n) }
                master := { s.master with st := .gap x (s.lineTime + 3 * s.charTime) } }

/-! ## Forwarding -/

/-- A POLL to a station is judged against the delayed-transaction table in R38's order; in a warm-reset drain it is
answered BUSY unless it collects a result (R47). A collected NO_REPLY is answered by the gate, a stored NAK or ACK is
delivered as it is, and a stored STATUS is rewritten from the shadow, and the rewrite counted, exactly when its
station is gate-held at delivery; a delivered reply goes to the collector's address (R23, R41, R42). -/
def Obligations.PollJudgedAgainstTable : Prop :=
  ∀ (src dst tag : Byte) (s : State), s.hears src = true → s.serves dst = true →
    let u := s.hunt .c
    let k : DelayKey := ⟨dst, .poll, tag⟩
    let own (b : Body) : Frame := ⟨src, byte s.straps.addr, tag, b⟩
    let rest := s.fwd.delayed.filter (fun e => e.key ≠ k)
    let freed : State := { u with fwd := { s.fwd with delayed := rest } }
    let leaves (v : State) : Prop := exec (.controllerPoll src dst tag) s = .next v.finish
    (s.draining = false →
      (s.findDelayed k = none → s.fwd.delayed.length < 4 →
        leaves
          (({ u with
              fwd :=
                { s.fwd with
                  delayed := s.fwd.delayed ++ [⟨k, src, none, .queued, s.mono, s.fwd.seq⟩]
                  seq := s.fwd.seq + 1 } } : State).answer (own (.nak 0xE1))))
      ∧ (s.findDelayed k = none → 4 ≤ s.fwd.delayed.length → leaves (u.answer (own (.nak 0xE2))))
      ∧ ∀ d, s.findDelayed k = some d →
          (d.payload ≠ none → leaves (u.answer (own (.nak 0xE5))))
          ∧ (d.payload = none → d.st = .queued ∨ d.st = .inFlight → leaves (u.answer (own (.nak 0xE1)))))
    ∧ (s.draining = true →
        (∀ d, s.findDelayed k = some d → d.payload ≠ none ∨ d.st = .queued ∨ d.st = .inFlight) →
        leaves (u.answer (own (.nak 0xE2))))
    ∧ ∀ d n, s.findDelayed k = some d → d.payload = none →
        (d.st = .done .noReply n → leaves (freed.answer (own (.nak 0xE7))))
        ∧ ∀ f, d.st = .done (.frame f) n →
            ((∀ r, f.body ≠ .status r) → leaves (freed.answer { f with dst := src }))
            ∧ ∀ r, f.body = .status r →
                (s.held f.src.toNat = false → leaves (freed.answer { f with dst := src }))
                ∧ (s.held f.src.toNat = true →
                    let running := (s.st f.src.toNat).shadow = .run
                    let g : Frame :=
                      { f with
                        dst := src
                        body := .status
                          { r with
                            run := if running then .running else .stopped
                            cause := if running then .none else .commanded
                            flags := r.flags ||| 2 } }
                    leaves
                      { freed.answer g with
                        fwd := { s.fwd with
                          delayed := rest
                          cnt := { s.fwd.cnt with rewrite := min (s.fwd.cnt.rewrite + 1) 65535 } } })

/-- A SET to a station during a drain, or with action PARK or WAKE, is refused and changes nothing (R24, R47). A
posted NOOP to a gate-held station is acknowledged, counted and dropped; it acts on the lock and the not-fresh mark
and on nothing else (R32). -/
def Obligations.SetsAnsweredWithoutAPlace : Prop :=
  ∀ (src dst tag : Byte) (r : SetRec) (s : State), s.hears src = true → s.serves dst = true →
    (s.draining = true →
      exec (.setIntake src dst tag r) s
        = .next ((s.hunt .c).answer ⟨src, byte s.straps.addr, tag, .nak 0xE2⟩).finish)
    ∧ (s.draining = false → r.action = .park ∨ r.action = .wake →
        exec (.setIntake src dst tag r) s
          = .next ((s.hunt .c).answer ⟨src, byte s.straps.addr, tag, .nak 0xE6⟩).finish)
    ∧ (s.draining = false → r.action = .noop → (s.pol dst.toNat).nonPosted = false → s.held dst.toNat = true →
        exec (.setIntake src dst tag r) s
          = .next
              ((({ s.hunt .c with
                    fwd := { s.fwd with cnt := { s.fwd.cnt with noopDrop := min (s.fwd.cnt.noopDrop + 1) 65535 } } }
                  : State).modSt dst.toNat fun x =>
                  { x with lock := if r.lock then some (s.mono + 10000) else none, notFresh := true }).answer
                ⟨src, byte s.straps.addr, tag, .ack 1⟩).finish)

/-- A posted SET to a station that is not gate-held is accepted where it finds a place: with an empty hold list at
the tail of the posted buffer, or refused with BUSY when 8 entries are held; behind a hold list that is not empty in
that list, a SETPOINT in the place of the youngest held SETPOINT that is not on the line, or refused with HELD_FULL. An
accepted SET takes a PARK_QUEUED station out of the park queue to FREE with credit 0 (R24 to R28, R31, R34, R112). -/
def Obligations.PostedSetIsBuffered : Prop :=
  ∀ (src dst tag : Byte) (r : SetRec) (s : State),
    s.hears src = true → s.serves dst = true → s.draining = false → r.action ≠ .park → r.action ≠ .wake →
    (s.pol dst.toNat).nonPosted = false → s.held dst.toNat = false →
    let a := dst.toNat
    let e := s.entryNow src dst tag (.set r)
    let hold := (s.st a).hold
    let accepted (posted : List Entry) (held : List Entry) (cnt : FwdCounters) : Prop :=
      ∃ t, exec (.setIntake src dst tag r) s = .next t
        ∧ t.fwd.posted = posted ∧ (t.st a).hold = held ∧ t.fwd.cnt = cnt
        ∧ (t.st a).shadow
            = (match r.action with
                | .run => .run
                | .jog => .run
                | .stop => .stop
                | _ => (s.st a).shadow)
        ∧ (t.st a).lock = (if r.lock then some (s.mono + 10000) else none)
        ∧ (t.st a).notFresh = true
        ∧ (t.st a).credit = (if (s.st a).state = .parkQueued then 0 else (s.st a).credit)
        ∧ ((s.st a).state = .parkQueued → (t.st a).state = .free ∧ a ∉ t.parkQ)
        ∧ (∀ b, b ≠ a → (t.st b).shadow = (s.st b).shadow ∧ (t.st b).lock = (s.st b).lock
            ∧ (t.st b).hold = (s.st b).hold ∧ (t.st b).credit = (s.st b).credit)
        ∧ (s.hunt .c).answeredWith t ⟨src, byte s.straps.addr, tag, .ack 1⟩
        ∧ s.settingsKept t
    let refused (c : Byte) : Prop :=
      exec (.setIntake src dst tag r) s
        = .next ((s.hunt .c).answer ⟨src, byte s.straps.addr, tag, .nak c⟩).finish
    (hold = [] → s.fwd.posted.length < 8 → accepted (s.fwd.posted ++ [e]) [] s.fwd.cnt)
    ∧ (hold = [] → 8 ≤ s.fwd.posted.length → refused 0xE2)
    ∧ (hold ≠ [] → s.coalesces a r = true →
        accepted s.fwd.posted (hold.dropLast ++ [e])
          { s.fwd.cnt with coalesced := min (s.fwd.cnt.coalesced + 1) 65535 })
    ∧ (hold ≠ [] → s.coalesces a r = false → hold.length < 2 → accepted s.fwd.posted (hold ++ [e]) s.fwd.cnt)
    ∧ (hold ≠ [] → s.coalesces a r = false → 2 ≤ hold.length → refused 0xE3)

/-- A posted SETPOINT without demand to a gate-held station takes the place of the youngest held SETPOINT that is not
on the line, joins a list with room, or is refused with HELD_FULL (R31, R34). -/
def Obligations.SetpointIsHeld : Prop :=
  ∀ (src dst tag : Byte) (r : SetRec) (s : State),
    s.hears src = true → s.serves dst = true → s.draining = false → r.action = .setpoint →
    (s.pol dst.toNat).nonPosted = false → (s.pol dst.toNat).setpointWakes = false → s.held dst.toNat = true →
    let a := dst.toNat
    let e := s.entryNow src dst tag (.set r)
    let done (hold : List Entry) (cnt : FwdCounters) : Prop :=
      ∃ t, exec (.setIntake src dst tag r) s = .next t
        ∧ (t.st a).hold = hold ∧ t.fwd.cnt = cnt ∧ t.fwd.posted = s.fwd.posted
        ∧ (t.st a).shadow = (s.st a).shadow ∧ (t.st a).notFresh = true
        ∧ (t.st a).lock = (if r.lock then some (s.mono + 10000) else none)
        ∧ (∀ b, b ≠ a → (t.st b).hold = (s.st b).hold)
        ∧ (s.hunt .c).answeredWith t ⟨src, byte s.straps.addr, tag, .ack 1⟩
        ∧ s.settingsKept t
    (s.coalesces a r = true →
      done ((s.st a).hold.dropLast ++ [e])
        { s.fwd.cnt with coalesced := min (s.fwd.cnt.coalesced + 1) 65535 })
    ∧ (s.coalesces a r = false → (s.st a).hold.length < 2 → done ((s.st a).hold ++ [e]) s.fwd.cnt)
    ∧ (s.coalesces a r = false → 2 ≤ (s.st a).hold.length →
        exec (.setIntake src dst tag r) s
          = .next ((s.hunt .c).answer ⟨src, byte s.straps.addr, tag, .nak 0xE3⟩).finish)

/-- A posted RUN or JOG to a gate-held station, or a SETPOINT where setpoint-wakes is set, is a demand: it is held, a
SETPOINT in the place of the youngest held one that is not on the line, or refused with HELD_FULL; a RUN or JOG sets
the shadow to RUN. Accepted, it sets the demand flag of a PARKING or WAKING station, takes a PARKED one out of PARKED
and leaves a WAKE_QUEUED one in no scheduled queue, unless a supporter's fault meets it (R31, R33, R34, R142, R143). -/
def Obligations.DemandWakesHeldStation : Prop :=
  ∀ (src dst tag : Byte) (r : SetRec) (s : State),
    s.hears src = true → s.serves dst = true → s.draining = false →
    r.action = .run ∨ r.action = .jog ∨ (r.action = .setpoint ∧ (s.pol dst.toNat).setpointWakes = true) →
    (s.pol dst.toNat).nonPosted = false → s.held dst.toNat = true → s.queuesMatch →
    let a := dst.toNat
    let e := s.entryNow src dst tag (.set r)
    let y := s.st a
    (s.coalesces a r = true ∨ y.hold.length < 2 →
      ∃ t, exec (.setIntake src dst tag r) s = .next t
        ∧ (t.st a).hold = (if s.coalesces a r then y.hold.dropLast else y.hold) ++ [e]
        ∧ (t.st a).shadow = (if r.action = .setpoint then y.shadow else .run)
        ∧ (t.st a).lock = (if r.lock then some (s.mono + 10000) else none) ∧ (t.st a).notFresh = true
        ∧ (y.state = .parking ∨ y.state = .waking →
            (t.st a).state = y.state ∧ (t.st a).phase = y.phase ∧ (t.st a).demand = true)
        ∧ (y.state = .parked ∨ y.state = .wakeQueued →
            (t.st a).state.woken
            ∧ (s.liveSupporters a = [] → (t.st a).state ≠ .faulted)
            ∧ ((t.st a).state ≠ .faulted → (t.st a).demand = true ∧ a ∉ t.schedQ))
        ∧ t.fwd.posted = s.fwd.posted
        ∧ (∀ b, b ≠ a → (t.st b).shadow = (s.st b).shadow ∧ (t.st b).hold = (s.st b).hold
            ∧ (t.st b).credit = (s.st b).credit)
        ∧ (s.hunt .c).answeredWith t ⟨src, byte s.straps.addr, tag, .ack 1⟩
        ∧ s.settingsKept t)
    ∧ (s.coalesces a r = false → 2 ≤ y.hold.length →
        exec (.setIntake src dst tag r) s
          = .next ((s.hunt .c).answer ⟨src, byte s.straps.addr, tag, .nak 0xE3⟩).finish)

/-- A posted STOP to a station that is PARKED, WAKE_QUEUED or in phase WARN releases it: FREE, shadow STOP, demand
cleared, out of its queue; the STOP goes to the posted buffer with an empty hold list, or is refused with BUSY and
releases nothing, and behind a list that is not empty it joins that list, or is refused with HELD_FULL. In PARKING
and in phases COMMAND and SETTLE the STOP is held and the station stays as it is (R31, R35). -/
def Obligations.StopReleasesOrIsHeld : Prop :=
  ∀ (src dst tag : Byte) (r : SetRec) (s : State),
    s.hears src = true → s.serves dst = true → s.draining = false → r.action = .stop → s.queuesMatch →
    (s.pol dst.toNat).nonPosted = false → s.held dst.toNat = true →
    let a := dst.toNat
    let e := s.entryNow src dst tag (.set r)
    let y := s.st a
    let releases := y.state = .parked ∨ y.state = .wakeQueued ∨ (y.state = .waking ∧ y.phase = .warn)
    let accepted (posted held : List Entry) (t : State) : Prop :=
      t.fwd.posted = posted ∧ (t.st a).hold = held ∧ (t.st a).shadow = .stop
      ∧ (t.st a).lock = (if r.lock then some (s.mono + 10000) else none)
      ∧ (∀ b, b ≠ a → (t.st b).shadow = (s.st b).shadow ∧ (t.st b).hold = (s.st b).hold)
      ∧ (s.hunt .c).answeredWith t ⟨src, byte s.straps.addr, tag, .ack 1⟩
      ∧ s.settingsKept t
    let released (t : State) : Prop :=
      (t.st a).state = .free ∧ (t.st a).demand = false ∧ a ∉ t.parkQ ++ t.demandQ ++ t.schedQ
    let refused (c : Byte) : Prop :=
      exec (.setIntake src dst tag r) s
        = .next ((s.hunt .c).answer ⟨src, byte s.straps.addr, tag, .nak c⟩).finish
    (releases → y.hold = [] →
      (s.fwd.posted.length < 8 →
        ∃ t, exec (.setIntake src dst tag r) s = .next t ∧ accepted (s.fwd.posted ++ [e]) [] t ∧ released t)
      ∧ (8 ≤ s.fwd.posted.length → refused 0xE2))
    ∧ (releases → y.hold ≠ [] → y.hold.length < 2 →
        ∃ t, exec (.setIntake src dst tag r) s = .next t ∧ accepted s.fwd.posted (y.hold ++ [e]) t ∧ released t)
    ∧ (¬ releases → y.hold.length < 2 →
        ∃ t, exec (.setIntake src dst tag r) s = .next t ∧ accepted s.fwd.posted (y.hold ++ [e]) t
          ∧ (t.st a).state = y.state ∧ (t.st a).phase = y.phase ∧ (t.st a).demand = y.demand)
    ∧ (2 ≤ y.hold.length → refused 0xE3)

/-- A non-posted SET is judged against the delayed-transaction table: a repeat is answered CONFLICT, RETRY or with
its result; a new one to a station UNKNOWN, FREE or FAULTED is filed and accepted, or refused with BUSY (R38, R41). A
new one to a station in the gate's hands or queued to park is refused with PARKED_WAKING: no entry, no lock, no
not-fresh mark. It still takes a queued station out of the park queue to FREE with credit 0, a demand takes a PARKED
one out of PARKED, and a STOP releases a PARKED, WAKE_QUEUED or warned one with shadow STOP; a NOOP does nothing
(R33, R39). -/
def Obligations.NonPostedSetIsDelayedOrRefused : Prop :=
  ∀ (src dst tag : Byte) (r : SetRec) (s : State),
    s.hears src = true → s.serves dst = true → s.draining = false → r.action ≠ .park → r.action ≠ .wake →
    (s.pol dst.toNat).nonPosted = true →
    let a := dst.toNat
    let u := s.hunt .c
    let k : DelayKey := ⟨dst, .set, tag⟩
    let own (b : Body) : Frame := ⟨src, byte s.straps.addr, tag, b⟩
    let freed : State := { u with fwd := { s.fwd with delayed := s.fwd.delayed.filter (fun e => e.key ≠ k) } }
    let leaves (v : State) : Prop := exec (.setIntake src dst tag r) s = .next v.finish
    (∀ d, s.findDelayed k = some d →
      (d.payload ≠ some r → leaves (u.answer (own (.nak 0xE5))))
      ∧ (d.payload = some r →
          (d.st = .queued ∨ d.st = .inFlight → leaves (u.answer (own (.nak 0xE1))))
          ∧ (∀ n, d.st = .done .noReply n → leaves (freed.answer (own (.nak 0xE7))))
          ∧ ∀ f n, d.st = .done (.frame f) n → (∀ q, f.body ≠ .status q) → leaves (freed.answer { f with dst := src })))
    ∧ (s.findDelayed k = none → s.held a = false → (s.st a).state ≠ .parkQueued →
        (s.fwd.delayed.length < 4 →
          leaves
            ((({ u with
                  fwd :=
                    { s.fwd with
                      delayed := s.fwd.delayed ++ [⟨k, src, some r, .queued, s.mono, s.fwd.seq⟩]
                      seq := s.fwd.seq + 1 } } : State).modSt a fun x =>
                { x with
                  shadow := match r.action with
                    | .run => .run
                    | .jog => .run
                    | .stop => .stop
                    | _ => x.shadow
                  lock := if r.lock then some (s.mono + 10000) else none
                  notFresh := true }).answer (own (.nak 0xE1))))
        ∧ (4 ≤ s.fwd.delayed.length → leaves (u.answer (own (.nak 0xE2)))))
    ∧ (s.findDelayed k = none → s.held a = true ∨ (s.st a).state = .parkQueued → s.queuesMatch →
        (∃ t, exec (.setIntake src dst tag r) s = .next t
          ∧ t.fwd.delayed.map Delayed.key = s.fwd.delayed.map Delayed.key ∧ t.fwd.posted = s.fwd.posted
          ∧ (t.st a).lock = (s.st a).lock ∧ (t.st a).notFresh = (s.st a).notFresh ∧ (t.st a).hold = (s.st a).hold
          ∧ ((s.st a).state = .parkQueued →
              (t.st a).state = .free ∧ (t.st a).credit = 0 ∧ a ∉ t.parkQ ∧ (t.st a).shadow = (s.st a).shadow)
          ∧ ((s.st a).state = .parked →
              r.action = .run ∨ r.action = .jog ∨ (r.action = .setpoint ∧ (s.pol a).setpointWakes = true) →
              (t.st a).state.woken ∧ (t.st a).shadow = (s.st a).shadow)
          ∧ ((s.st a).state = .parked ∨ (s.st a).state = .wakeQueued
                ∨ ((s.st a).state = .waking ∧ (s.st a).phase = .warn) →
              r.action = .stop →
              (t.st a).state = .free ∧ (t.st a).shadow = .stop ∧ a ∉ t.demandQ ++ t.schedQ)
          ∧ u.answeredWith t (own (.nak 0xE4))
          ∧ s.settingsKept t)
        ∧ (s.held a = true → r.action = .noop → leaves (u.answer (own (.nak 0xE4)))))

/-- DELAYED_DISCARD frees a DONE entry that has waited 2000 ms and counts it (R41); that it has no effect sooner is
log 5. -/
def Obligations.UncollectedResultIsDiscarded : Prop :=
  ∀ (k : DelayKey) (s : State) (d : Delayed) (res : Result) (t : Nat),
    s.online = true → s.findDelayed k = some d → d.st = .done res t →
    (t + 2000 ≤ s.mono →
      exec (.delayedDiscard k) s
        = .next
            { s with
              fwd :=
                { s.fwd with
                  delayed := s.fwd.delayed.filter (fun e => e.key ≠ k)
                  cnt := { s.fwd.cnt with delayedDiscard := min (s.fwd.cnt.delayedDiscard + 1) 65535 } } })
    ∧ (s.mono < t + 2000 → exec (.delayedDiscard k) s = .next s)

/-- Frames of the C-port are handled by destination and kind. To the gate's own address R43's table holds, a POLL
being answered at once with the gate status record: mode, access state, attention bits with the two level flags, week
clock, station counts, inrush, scanner, save state and fills, all of one instant. In a drain every request is
answered BUSY and none reaches the Management unit. A kind that a station or address 0 does not take is dropped and
counted, but an MGMT to a station in a drain, which is answered BUSY too; a frame to an ABSENT address is ignored (R18,
R21, R43, R44, R47, R181, R189). That R47 goes before R21 and R22 for such an MGMT is log 27. -/
def Obligations.FramesFollowDestinationAndKind : Prop :=
  (∀ (src tag : Byte) (s : State), s.hears src = true →
    let u := s.hunt .c
    let own (b : Body) : Frame := ⟨src, byte s.straps.addr, tag, b⟩
    let toGate (b : Body) : Frame := ⟨byte s.straps.addr, src, tag, b⟩
    let bit (n : Nat) (b : Bool) : Nat := if b then 2 ^ n else 0
    let count (x : StState) : Byte := byte (addresses.countP fun a => decide ((s.st a).state = x))
    exec (.pollOfGate src tag) s
      = .next
          (u.answer
            (own
              (.gateStatus
                (([match s.mode with
                      | .pass => 0
                      | .active => 1
                      | .draining => 2,
                    match s.access with
                      | .isOpen => 0
                      | .locked => 1
                      | .unlocked => 2
                      | .frozen => 3] : List Byte)
                  ++ be16
                      (bit 0 s.flags.imageInvalid + bit 1 (!s.clock.valid) + bit 2 s.flags.stationFault
                        + bit 3 s.flags.parkLimit + bit 4 s.flags.postedLost + bit 5 s.flags.broadcastDropped
                        + bit 6 s.flags.groupStarved + bit 7 s.flags.lineErrors
                        + bit 8 (decide (s.access = .frozen)) + bit 9 s.flags.saveFailed)
                  ++ [if s.clock.valid then (1 : Byte) else 0]
                  ++ be32
                      (if s.clock.valid then (s.clock.base + (s.mono - s.clock.baseAt)) % 604800000 else 0)
                  ++ [count .free, count .parkQueued, count .parking, count .parked, count .wakeQueued,
                      count .waking, count .faulted]
                  ++ [byte s.inrush,
                      match s.scan.st with
                        | .idle => 0
                        | .scanning => 1
                        | .waiting => 2,
                      if s.saving.isSome then 1 else 0, byte s.fwd.posted.length, byte s.fwd.delayed.length,
                      0, 0, 0]))))
    ∧ (∀ fields q i, fields.length ≤ 31 →
        (q, i) ∈ guardedCommands src tag fields ++ admittedCommands src tag fields → s.draining = true →
        exec i s = .next (u.answer (own (.nak 0xE2))))
    ∧ (∀ code fields, fields.length ≤ 31 →
        (s.draining = true →
          exec (.unknownRequestCode src tag code fields) s = .next (u.answer (own (.nak 0xE2))))
        ∧ (s.draining = false → Req.ofCode code = none →
            exec (.unknownRequestCode src tag code fields) s = .next (u.mreply src tag code .unknownRequest [])))
    ∧ (∀ r, exec (.gateSetOrTime src tag (.set r)) s
          = .next (u.answer (own (.nak (if s.draining then 0xE2 else 0xE6)))))
    ∧ (∀ w, exec (.gateSetOrTime src tag (.time w)) s = .next (u.answer (own (.nak 0xE6))))
    ∧ ∀ b, (toGate b).shapeOk = true →
        ((∃ r, b = .status r) ∨ (∃ c, b = .ack c) ∨ (∃ c, b = .nak c) ∨ ∃ l, b = .mreply l) →
        exec (.unexpectedFrame (toGate b)) s
          = .next
              { u with
                fwd := { s.fwd with cnt := { s.fwd.cnt with unexpected := min (s.fwd.cnt.unexpected + 1) 65535 } } })
    ∧ ∀ (f : Frame) (s : State), s.listening .c = true → f.shapeOk = true → f.dst.toNat ≠ s.straps.addr →
        let u := s.hunt .c
        let counted : State :=
          { u with fwd := { s.fwd with cnt := { s.fwd.cnt with unexpected := min (s.fwd.cnt.unexpected + 1) 65535 } } }
        (f.dst.toNat ≠ 0 → (s.pol f.dst.toNat).cls = .absent →
          exec (.unexpectedFrame f) s = .next u.finish
          ∧ (∀ src dst tag, f = ⟨dst, src, tag, .poll⟩ → exec (.controllerPoll src dst tag) s = .next u.finish)
          ∧ ∀ src dst tag r, f = ⟨dst, src, tag, .set r⟩ → exec (.setIntake src dst tag r) s = .next u.finish)
        ∧ (f.dst.toNat ≠ 0 → (s.pol f.dst.toNat).cls ≠ .absent → f.body ≠ .poll → (∀ r, f.body ≠ .set r) →
            (s.draining = false ∨ (∀ l, f.body ≠ .mgmt l) → exec (.unexpectedFrame f) s = .next counted.finish)
            ∧ (s.draining = true → ∀ l, f.body = .mgmt l →
                exec (.unexpectedFrame f) s
                  = .next (u.answer ⟨f.src, byte s.straps.addr, f.tag, .nak 0xE2⟩).finish))
        ∧ (f.dst.toNat = 0 → (∀ w, f.body ≠ .time w) → (∀ r, f.body ≠ .set r) →
            exec (.unexpectedFrame f) s = .next counted.finish)

/-- A TIME broadcast sets the clock when take-time is on and the value is in range, with all that a clock set does
about closing zones and wake-due times, is counted when it is out of range, and is then forwarded as a broadcast
entry or, with the buffer full or in a drain, dropped and counted (R44, R164, R166, R169, R171). A broadcast SET with
action PARK or WAKE, while any station is gate-held, with the buffer full or in a drain is dropped and counted;
otherwise it is forwarded and accepted for every station of class PASS or MANAGED, and, the queues agreeing with the
states, each of them that is PARK_QUEUED leaves the park queue to FREE with credit 0 (R25, R44, R112). That the record
at the gate's own address accepts it too is log 9. -/
def Obligations.BroadcastsAreForwardedOrDropped : Prop :=
  (∀ (src tag : Byte) (w : BitVec 32) (s : State), s.hears src = true →
    ∃ t, exec (.timeBroadcast src tag w) s = .next t
      ∧ t.clock = (if s.cfg.params.takeTime = true ∧ w.toNat < 604800000 then ⟨true, w.toNat, s.mono⟩ else s.clock)
      ∧ t.timeRange = (if s.cfg.params.takeTime = true ∧ 604800000 ≤ w.toNat then min (s.timeRange + 1) 65535
          else s.timeRange)
      ∧ (s.cfg.params.takeTime = true → w.toNat < 604800000 → s.queuesMatch →
          s.closingTaken { s with clock := ⟨true, w.toNat, s.mono⟩ } t)
      ∧ (s.draining = false → s.fwd.posted.length < 8 →
          t.fwd.posted = s.fwd.posted ++ [s.entryNow src 0 tag (.time w)] ∧ t.fwd.cnt = s.fwd.cnt)
      ∧ (s.draining = true ∨ 8 ≤ s.fwd.posted.length →
          t.fwd.posted = s.fwd.posted ∧ t.flags.broadcastDropped = true
          ∧ t.fwd.cnt = { s.fwd.cnt with broadcastDrop := min (s.fwd.cnt.broadcastDrop + 1) 65535 })
      ∧ (∀ a, (t.st a).shadow = (s.st a).shadow ∧ (t.st a).hold = (s.st a).hold ∧ (t.st a).credit = (s.st a).credit)
      ∧ t.cport = (s.hunt .c).cport ∧ t.answers = s.answers
      ∧ s.settingsKept t)
    ∧ ∀ (src tag : Byte) (r : SetRec) (s : State), s.hears src = true →
      (r.action = .park ∨ r.action = .wake ∨ s.anyHeld = true ∨ s.draining = true ∨ 8 ≤ s.fwd.posted.length →
        exec (.broadcastSet src tag r) s
          = .next
              ({ s.hunt .c with
                  fwd :=
                    { s.fwd with cnt := { s.fwd.cnt with broadcastDrop := min (s.fwd.cnt.broadcastDrop + 1) 65535 } }
                  flags := { s.flags with broadcastDropped := true } } : State).finish)
      ∧ (r.action ≠ .park → r.action ≠ .wake → s.anyHeld = false → s.draining = false → s.fwd.posted.length < 8 →
          ∃ t, exec (.broadcastSet src tag r) s = .next t
            ∧ t.fwd.posted = s.fwd.posted ++ [s.entryNow src 0 tag (.set r)]
            ∧ (∀ a, stationAddress a = true → (s.pol a).cls ≠ .absent →
                (t.st a).shadow
                    = (match r.action with
                        | .run => .run
                        | .jog => .run
                        | .stop => .stop
                        | _ => (s.st a).shadow)
                ∧ (t.st a).lock = (if r.lock then some (s.mono + 10000) else none)
                ∧ (t.st a).notFresh = true
                ∧ (s.queuesMatch →
                    (t.st a).credit = (if (s.st a).state = .parkQueued then 0 else (s.st a).credit)
                    ∧ ((s.st a).state = .parkQueued → (t.st a).state = .free ∧ a ∉ t.parkQ)))
            ∧ (∀ a, (s.pol a).cls = .absent → (t.st a).shadow = (s.st a).shadow ∧ (t.st a).lock = (s.st a).lock)
            ∧ (∀ a, (t.st a).hold = (s.st a).hold)
            ∧ t.cport = (s.hunt .c).cport ∧ t.answers = s.answers
            ∧ s.settingsKept t)

/-! ## The field line -/

/-- REPLY with an ACK or NAK ends the exchange of a posted or held entry: the entry is removed, a NAK makes it lost
with cause REFUSED and the station's cause byte, and the master enters GAP (R29, R30, R50, R53). -/
def Obligations.ReplyEndsEntryExchange : Prop :=
  ∀ (f : Frame) (s : State) (x : Exchange) (d n : Nat) (e : Entry),
    s.hearsField f = true → s.master.st = .awaitReply x d → x.fits f = true → x.req = .entry n →
    s.findEntry x.frame.dst.toNat n = some e → (∀ r, f.body ≠ .status r) →
    let a := x.frame.dst.toNat
    ∃ t, exec (.reply f) s = .next t
      ∧ t.fwd.posted = s.fwd.posted.filter (fun y => y.seq ≠ n)
      ∧ (t.st a).hold = (s.st a).hold.filter (fun y => y.seq ≠ n)
      ∧ (∀ c, f.body = .ack c →
          t.fwd.lastLost = s.fwd.lastLost ∧ t.fwd.cnt = s.fwd.cnt ∧ t.flags = s.flags)
      ∧ (∀ c, f.body = .nak c →
          t.fwd.lastLost = ⟨e.dst.toNat, e.tag, e.what.action, .refused, c⟩
          ∧ t.fwd.cnt = { s.fwd.cnt with lost := min (s.fwd.cnt.lost + 1) 65535 }
          ∧ t.flags = { s.flags with postedLost := true })
      ∧ t.master = { s.master with st := .gap x (s.lineTime + 3 * s.charTime) }
      ∧ t.fwd.delayed = s.fwd.delayed ∧ t.cport = s.cport ∧ t.answers = s.answers
      ∧ (∀ b, { t.st b with hold := [] } = { s.st b with hold := [] }) ∧ (∀ b, b ≠ a → t.st b = s.st b)
      ∧ s.settingsKept t

/-- REPLY ends an exchange, begins the gap and gives its owner the outcome. A delayed request stores the whole reply
as its result; nothing goes upstream yet. A follow-up in COAST or SETTLE has its attempts cleared and its next time
set 1000 ms on, and a NAK to it does nothing else; in another phase a NAK does nothing at all. A reply to a scan poll
moves the scanner on as its end without one does, no miss counted, and a NAK records nothing. A STATUS is also an
observation of its source, whose effects the statements on observations give (R40, R50, R53, R54, R58, R72, R178,
R179). A late follow-up outcome dropped is log 19, the scanner's mode in force log 15, its skip of the gate's own
address log 14. -/
def Obligations.ReplyReachesItsOwner : Prop :=
  ∀ (f : Frame) (s : State) (x : Exchange) (d : Nat),
    s.hearsField f = true → s.master.st = .awaitReply x d → x.fits f = true →
    let a := f.src.toNat
    let m : Master := { s.master with st := .gap x (s.lineTime + 3 * s.charTime) }
    let u : State := { s.hunt .f with master := m }
    (∀ k, x.req = .delayed k →
      ∃ t, exec (.reply f) s = .next t
        ∧ t.fwd =
            { s.fwd with
              delayed := s.fwd.delayed.map fun y =>
                if y.key = k ∧ y.st = .inFlight then { y with st := .done (.frame f) s.mono } else y }
        ∧ t.master = m ∧ t.cport = s.cport ∧ t.answers = s.answers
        ∧ ((∀ r, f.body ≠ .status r) → t.stations = s.stations)
        ∧ (∀ r, f.body = .status r → a ≠ s.straps.addr →
            (t.st a).snapshot = some ⟨r.run, r.cause, min r.load.toNat 1000, r.aux.toNat, r.flags.getLsbD 0⟩
            ∧ (t.st a).seen = some s.mono ∧ (t.st a).notFresh = false)
        ∧ s.settingsKept t)
    ∧ (∀ b, x.req = .gate b .followUp → (∀ r, f.body ≠ .status r) →
        ((s.inPhase b .parking .coast || s.inPhase b .waking .settle) = true →
          exec (.reply f) s
            = .next (u.modSt b fun r => { r with attempts := 0, nextFollowUp := some (s.mono + 1000) }))
        ∧ ((s.inPhase b .parking .coast || s.inPhase b .waking .settle) = false →
            exec (.reply f) s = .next u.modeCheck))
    ∧ (∀ b, x.req = .scan b →
        ∃ t, exec (.reply f) s = .next t
          ∧ s.scanPollEnds t ∧ ((∀ r, f.body ≠ .status r) → t.stations = s.stations)
          ∧ t.master = m ∧ t.fwd = s.fwd ∧ t.cport = s.cport ∧ t.answers = s.answers ∧ s.settingsKept t)

/-- REPLY to the gate's own PARK or WAKE: an ACK begins COAST or SETTLE with its deadline and the next follow-up; a
NAK to a PARK frees the station with credit 0, counting a refusal; a NAK to a WAKE faults it with WAKE_REFUSED (R119,
R156). An outcome for a station no longer in that phase is dropped (log 19). -/
def Obligations.ReplyToParkOrWake : Prop :=
  ∀ (f : Frame) (s : State) (x : Exchange) (d a : Nat),
    s.hearsField f = true → s.master.st = .awaitReply x d → x.fits f = true → (∀ r, f.body ≠ .status r) →
    let u : State := { s.hunt .f with master := { s.master with st := .gap x (s.lineTime + 3 * s.charTime) } }
    (x.req = .gate a .park →
      (s.inPhase a .parking .command = false → exec (.reply f) s = .next u.modeCheck)
      ∧ (s.inPhase a .parking .command = true →
          (∀ c, f.body = .ack c →
            exec (.reply f) s
              = .next
                  (u.modSt a fun r =>
                    { r with
                      phase := .coast, phaseDeadline := some (s.mono + (s.pol a).stopTimeout * 1000), attempts := 0,
                      nextFollowUp := some (s.mono + 1000), firstSent := none }))
          ∧ ∀ c, f.body = .nak c →
              ∃ t, exec (.reply f) s = .next t
                ∧ (t.st a).state = .free ∧ (t.st a).phase = .none ∧ (t.st a).credit = 0 ∧ (t.st a).lastObs = s.mono
                ∧ (t.st a).stats.parkRefusals = min ((s.st a).stats.parkRefusals + 1) 65535
                ∧ (t.st a).shadow = (s.st a).shadow ∧ (t.st a).hold = (s.st a).hold ∧ t.master = u.master))
    ∧ (x.req = .gate a .wake →
        (s.inPhase a .waking .command = false → exec (.reply f) s = .next u.modeCheck)
        ∧ (s.inPhase a .waking .command = true →
            (∀ c, f.body = .ack c →
              exec (.reply f) s
                = .next
                    (u.modSt a fun r =>
                      { r with
                        phase := .settle, phaseDeadline := some (s.mono + (s.pol a).startTimeout * 1000),
                        attempts := 0, nextFollowUp := some (s.mono + 1000), satisfiedAt := none }))
            ∧ ∀ c, f.body = .nak c →
                ∃ t, exec (.reply f) s = .next t
                  ∧ (t.st a).state = .faulted ∧ (t.st a).fault = some .wakeRefused ∧ (t.st a).phase = .none
                  ∧ (t.st a).stats.wakeFailures = min ((s.st a).stats.wakeFailures + 1) 255
                  ∧ t.flags.stationFault = true
                  ∧ (t.st a).shadow = (s.st a).shadow ∧ (t.st a).hold = (s.st a).hold ∧ t.master = u.master))

/-- A stray frame, an unsolicited frame and an MGMT on the F-port are dropped and counted; the master's state, its
deadline and its gap end stay (R51, R52). -/
def Obligations.StrayAndUnsolicitedDropped : Prop :=
  ∀ (f : Frame) (s : State), s.hearsField f = true →
    (isMgmt f = false →
      (∀ x d, s.master.st = .awaitReply x d → x.fits f = false →
        exec (.strayFrame f) s
          = .next { s.hunt .f with master := { s.master with stray := min (s.master.stray + 1) 65535 } })
      ∧ ((∀ x d, s.master.st ≠ .awaitReply x d) →
          exec (.unsolicitedFrame f) s
            = .next
                { s.hunt .f with master := { s.master with unsolicited := min (s.master.unsolicited + 1) 65535 } }))
    ∧ (isMgmt f = true →
        exec (.fPortMgmt f) s
          = .next { s.hunt .f with master := { s.master with fMgmt := min (s.master.fMgmt + 1) 65535 } })

/-- REPLY_DEADLINE ends the exchange with no reply, counts it and begins the gap. A delayed request stores NO_REPLY;
an entry, a PARK or a WAKE is tried 3 times, then lost or faulted; a follow-up starts over; a scan poll counts a
miss, and the scanner stops (SINGLE, or a stop pending), waits out its spacing, or with none polls the next entry
that is due (R29, R30, R40, R49, R58, R61, R177, R178, R179). No effect sooner is log 5, the scanner's mode in force
log 15, its skip of the gate's own address log 14. -/
def Obligations.ReplyDeadlineEndsExchange : Prop :=
  ∀ (s : State) (x : Exchange) (d : Nat), s.online = true → s.master.st = .awaitReply x d →
    (s.lineTime < d → exec .replyDeadline s = .next s)
    ∧ (d ≤ s.lineTime →
        let m : Master :=
          { s.master with
            st := .gap x (s.lineTime + 3 * s.charTime)
            replyTimeouts := min (s.master.replyTimeouts + 1) 65535 }
        let u : State := { s with master := m }
        let dst := x.frame.dst.toNat
        (∀ k, x.req = .delayed k →
          exec .replyDeadline s
            = .next
                ({ u with
                    fwd :=
                      { s.fwd with
                        delayed := s.fwd.delayed.map fun y =>
                          if y.key = k ∧ y.st = .inFlight then { y with st := .done .noReply s.mono } else y } }
                  : State).modeCheck)
        ∧ (∀ n e, x.req = .entry n → s.findEntry dst n = some e →
            let up (y : Entry) : Entry := if y.seq = n then { y with attempts := y.attempts + 1 } else y
            (e.attempts < 2 →
              exec .replyDeadline s
                = .next
                    (({ u with fwd := { s.fwd with posted := s.fwd.posted.map up } } : State).modSt dst fun r =>
                      { r with hold := r.hold.map up }).modeCheck)
            ∧ (2 ≤ e.attempts →
                ∃ t, exec .replyDeadline s = .next t
                  ∧ t.fwd =
                      { s.fwd with
                        posted := s.fwd.posted.filter (fun y => y.seq ≠ n)
                        lastLost := ⟨e.dst.toNat, e.tag, e.what.action, .noReply, 0⟩
                        cnt := { s.fwd.cnt with lost := min (s.fwd.cnt.lost + 1) 65535 } }
                  ∧ (t.st dst).hold = (s.st dst).hold.filter (fun y => y.seq ≠ n)
                  ∧ (∀ b, b ≠ dst → t.st b = s.st b)
                  ∧ t.flags = { s.flags with postedLost := true } ∧ t.master = m ∧ s.settingsKept t))
        ∧ (∀ a,
            ((x.req = .gate a .park ∧ s.inPhase a .parking .command = true)
                ∨ (x.req = .gate a .wake ∧ s.inPhase a .waking .command = true) →
              ((s.st a).attempts < 2 →
                exec .replyDeadline s = .next (u.modSt a fun r => { r with attempts := r.attempts + 1 }))
              ∧ (2 ≤ (s.st a).attempts →
                  ∃ t, exec .replyDeadline s = .next t
                    ∧ (t.st a).state = .faulted ∧ (t.st a).phase = .none
                    ∧ (t.st a).fault = some (if x.req = .gate a .park then .parkNoReply else .wakeNoReply)
                    ∧ t.flags.stationFault = true ∧ (t.st a).hold = (s.st a).hold ∧ t.master = m
                    ∧ s.settingsKept t))
            ∧ (x.req = .gate a .followUp →
                (s.inPhase a .parking .coast || s.inPhase a .waking .settle) = true →
                exec .replyDeadline s
                  = .next
                      (u.modSt a fun r =>
                        if r.attempts < 2 then { r with attempts := r.attempts + 1 }
                        else { r with attempts := 0, nextFollowUp := some (s.mono + 1000) }))
            ∧ (x.req = .scan a → stationAddress a = true →
                ∃ t, exec .replyDeadline s = .next t
                  ∧ t.st a = { s.st a with scanMiss := min ((s.st a).scanMiss + 1) 65535 }
                  ∧ (∀ b, b ≠ a → t.st b = s.st b)
                  ∧ s.scanPollEnds t
                  ∧ t.master = m ∧ s.settingsKept t)))

/-- GAP_END arbitrates: with no request the master goes IDLE; a grant is sent as its class says, with the pass counts
of R60; a head of the park queue that fails its re-check leaves the queue to FREE with its credit, and the grant is
withdrawn: where no request is left the master's tag, pass counts and counters are as they were (R23, R53, R55, R60,
R62, R118). No effect before the gap's end is log 5. -/
def Obligations.GapEndGrants : Prop :=
  ∀ (s : State) (x : Exchange) (e : Nat), s.online = true → s.master.st = .gap x e →
    (s.lineTime < e → exec .gapEnd s = .next s)
    ∧ (e ≤ s.lineTime →
        let u : State := { s with master := { s.master with st := .idle } }
        let own (a : Nat) (b : Body) : Frame := ⟨byte a, byte s.straps.addr, s.master.gateTag, b⟩
        let sends (c : ReqClass) (q : ReqRef) (f : Frame) (tag : Byte) (g p : Nat) (t : State) : Prop :=
          t.master = { s.master with st := .sending ⟨c, q, f⟩, gateTag := tag, gPass := g, sPass := p }
          ∧ t.fport = (s.offer .f f).fport
        (u.arbitration = none → exec .gapEnd s = .next u.modeCheck)
        ∧ (∀ d, u.arbitration = some (.r d) →
            ∃ t, exec .gapEnd s = .next t
              ∧ sends .r (.delayed d.key)
                  ⟨d.key.dst, d.src, d.key.tag, match d.payload with
                    | some r => .set r
                    | none => .poll⟩
                  s.master.gateTag (min (s.master.gPass + 1) 4) (min (s.master.sPass + 1) 8) t
              ∧ t.fwd =
                  { s.fwd with
                    delayed := s.fwd.delayed.map (fun y => if y.key = d.key then { y with st := .inFlight } else y) }
              ∧ t.stations = s.stations)
        ∧ (∀ y, u.arbitration = some (.p y) →
            ∃ t, exec .gapEnd s = .next t
              ∧ sends .p (.entry y.seq)
                  ⟨y.dst, y.src, y.tag, match y.what with
                    | .set r => .set r
                    | .time w => .time w⟩
                  s.master.gateTag (min (s.master.gPass + 1) 4) (min (s.master.sPass + 1) 8) t
              ∧ t.fwd = s.fwd ∧ t.stations = s.stations)
        ∧ (∀ a q, u.arbitration = some (.g (.request a q)) →
            ∃ t, exec .gapEnd s = .next t
              ∧ sends .g (.gate a q)
                  (own a (match q with
                    | .park => .set ⟨.park, false, 0⟩
                    | .wake => .set ⟨.wake, false, 0⟩
                    | .followUp => .poll))
                  (s.master.gateTag + 1) 0 (min (s.master.sPass + 1) 8) t
              ∧ t.fwd = s.fwd ∧ t.stations = s.stations)
        ∧ (∀ a, u.arbitration = some (.s a) →
            ∃ t, exec .gapEnd s = .next t ∧ sends .s (.scan a) (own a .poll) (s.master.gateTag + 1) 0 0 t
              ∧ t.fwd = s.fwd ∧ t.stations = s.stations)
        ∧ (∀ a, u.arbitration = some (.g (.head a)) →
            (s.recheck a = true → stationAddress a = true →
              ∃ t, exec .gapEnd s = .next t
                ∧ sends .g (.gate a .park) (own a (.set ⟨.park, false, 0⟩)) (s.master.gateTag + 1) 0
                    (min (s.master.sPass + 1) 8) t
                ∧ (t.st a).state = .parking ∧ (t.st a).phase = .command ∧ (t.st a).attempts = 0 ∧ a ∉ t.parkQ
                ∧ (∀ b, b ≠ a → t.st b = s.st b) ∧ t.fwd = s.fwd)
            ∧ (s.recheck a = false → s.queuesMatch →
                ∃ t, exec .gapEnd s = .next t
                  ∧ (t.st a).state = .free ∧ (t.st a).credit = (s.st a).credit ∧ a ∉ t.parkQ
                  ∧ ((u.leavePark a false).arbitration = none → t.master = u.master ∧ t.fport = s.fport))))

/-- An arbitration picks the first line of R60's table that applies: class G after 4 grants past it, class S after 8,
then R, P, G, S; within R the oldest request, within P the oldest accepted; in a drain class P alone. Class R holds
the QUEUED delayed requests, and class P the posted and sendable held entries, that no older one for the same station
holds back, a broadcast standing for every station; in a drain P holds posted entries, which held and QUEUED ones do
not hold back. Class G offers first the WAKE whose warning was satisfied first, then the follow-up due first, then
the PARK retry first sent first, lower addresses first, then the head of the park queue while it may be sent: fewer
stations PARKING than the limit, no SET pending for it, its lock closed. Class S offers the scanner's poll until it
is granted (R37, R47, R56, R57, R58, R59, R60, R63, R117). The order number of a request and a broadcast behind older
delayed ones are log 9, the two rank times log 13; equal first sends occur in no run. -/
def Obligations.ArbitrationFollowsTable : Prop :=
  ∀ s : State,
    let older (a n : Nat) : Prop :=
      (∃ e ∈ s.fwd.posted, (e.dst.toNat = a ∨ e.dst.toNat = 0) ∧ e.seq < n)
      ∨ (s.held a = false ∧ ∃ e ∈ (s.st a).hold, e.seq < n)
    let outstanding (d : Delayed) : Prop := d.st = .queued ∨ d.st = .inFlight
    let unhindered (e : Entry) : Prop :=
      ¬ older e.dst.toNat e.seq
      ∧ ∀ d ∈ s.fwd.delayed, d.key.dst = e.dst → outstanding d → e.seq ≤ d.seq
    let first (time : Nat → Option Nat) (a : Nat) : Prop :=
      ∃ n, time a = some n ∧ ∀ b k, time b = some k → n < k ∨ (n = k ∧ a ≤ b)
    let wakes (a : Nat) : Option Nat :=
      if (s.st a).state = .waking ∧ (s.st a).phase = .command then some ((s.st a).satisfiedAt.getD 0) else none
    let follows (a : Nat) : Option Nat :=
      if (s.st a).state = .parking ∧ (s.st a).phase = .coast
          ∨ (s.st a).state = .waking ∧ (s.st a).phase = .settle then
        (s.st a).nextFollowUp.filter (fun n => n ≤ s.mono)
      else none
    let retries (a : Nat) : Option Nat :=
      if (s.st a).state = .parking ∧ (s.st a).phase = .command then some ((s.st a).firstSent.getD 0) else none
    let maySend (a : Nat) : Prop :=
      addresses.countP (fun b => decide ((s.st b).state = .parking)) < s.cfg.params.parkLimit
      ∧ (∀ e ∈ s.fwd.posted, e.dst.toNat ≠ a ∧ e.dst.toNat ≠ 0) ∧ (s.held a = true ∨ (s.st a).hold = [])
      ∧ (∀ d ∈ s.fwd.delayed, d.key.dst.toNat = a → d.key.kind = .set → ¬ outstanding d) ∧ (s.st a).lock = none
    let polling : Prop := ∃ x, x.cls = .s ∧ (s.master.st = .sending x ∨ ∃ n, s.master.st = .awaitReply x n)
    ((s.master.gPass = 4 → ∀ o, s.pickG = some o → s.arbitration = some (.g o))
      ∧ (s.master.gPass ≠ 4 ∨ s.pickG = none →
          (s.master.sPass = 8 → ∀ a, s.pickS = some a → s.arbitration = some (.s a))
          ∧ (s.master.sPass ≠ 8 ∨ s.pickS = none →
              (s.classR ≠ [] → ∃ d ∈ s.classR, s.arbitration = some (.r d) ∧ ∀ y ∈ s.classR, d.seq ≤ y.seq)
              ∧ (s.classR = [] →
                  (s.classP ≠ [] → ∃ e ∈ s.classP, s.arbitration = some (.p e) ∧ ∀ y ∈ s.classP, e.seq ≤ y.seq)
                  ∧ (s.classP = [] →
                      (∀ o, s.pickG = some o → s.arbitration = some (.g o))
                      ∧ (s.pickG = none → s.arbitration = s.pickS.map .s))))))
    ∧ (s.draining = true → s.classR = [] ∧ s.pickG = none ∧ s.pickS = none
        ∧ ∀ e, e ∈ s.classP
            ↔ e ∈ s.fwd.posted
              ∧ (∀ y ∈ s.fwd.posted, y.seq < e.seq →
                  e.dst.toNat ≠ 0 ∧ y.dst.toNat ≠ 0 ∧ y.dst ≠ e.dst)
              ∧ ∀ d ∈ s.fwd.delayed, d.st = .inFlight → d.seq < e.seq → e.dst.toNat ≠ 0 ∧ d.key.dst ≠ e.dst)
    ∧ (s.draining = false →
        (∀ d, d ∈ s.classR ↔ d ∈ s.fwd.delayed ∧ d.st = .queued ∧ ¬ older d.key.dst.toNat d.seq)
        ∧ (∀ e, e ∈ s.classP
            ↔ (e ∈ s.fwd.posted ∧ e.dst.toNat ≠ 0 ∧ unhindered e)
              ∨ (∃ a, s.held a = false ∧ e ∈ (s.st a).hold ∧ unhindered e)
              ∨ (e ∈ s.fwd.posted ∧ e.dst.toNat = 0 ∧ (∀ y ∈ s.fwd.posted, e.seq ≤ y.seq)
                  ∧ (∀ a, s.held a = false → ∀ y ∈ (s.st a).hold, e.seq ≤ y.seq)
                  ∧ ∀ d ∈ s.fwd.delayed, outstanding d → e.seq ≤ d.seq))
        ∧ (∀ a, first wakes a → s.pickG = some (.request a .wake))
        ∧ ((∀ b, wakes b = none) →
            (∀ a, first follows a → s.pickG = some (.request a .followUp))
            ∧ ((∀ b, follows b = none) →
                (∀ a, first retries a → s.pickG = some (.request a .park))
                ∧ ((∀ b, retries b = none) →
                    (s.parkQ = [] → s.pickG = none)
                    ∧ ∀ a rest, s.parkQ = a :: rest →
                        (maySend a → s.pickG = some (.head a)) ∧ (¬ maySend a → s.pickG = none))))
        ∧ (s.scan.st = .scanning → ¬ polling → s.pickS = some (s.slotAt s.scan.pos))
        ∧ (s.scan.st ≠ .scanning ∨ polling → s.pickS = none))

/-! ## Observations -/

/-- A STATUS of a FREE or PARK_QUEUED station of class PASS or MANAGED is an observation (R72, R73). It runs the
credit computation: elapsed units and remainder, then the busy, idle or between band (R91 to R95); a busy load takes
a queued station out of the park queue and no other load does (R113). A start of a FREE one is recorded (R74). A
FAULT uses the units up and zeroes the credit, and a queued station that is not RUNNING leaves with its credit (R73,
R81, R112). -/
def Obligations.ObservationIntegratesCredit : Prop :=
  ∀ (f : Frame) (s : State) (x : Exchange) (r : StatusRec),
    s.observes x f r → s.queuesMatch → (s.pol f.src.toNat).cls ≠ .absent →
    let a := f.src.toNat
    let p := s.pol a
    let y := s.st a
    let load := min r.load.toNat 1000
    let elapsed := s.mono - y.lastObs
    let units := min (elapsed / 100) 600
    let left := if elapsed / 100 ≤ 600 then elapsed % 100 else 0
    let free := y.state = .free
    let queued := y.state = .parkQueued
    let counted := r.cause ≠ .fault ∧ (free ∨ r.run = .running)
    let started := free ∧ r.cause ≠ .fault
      ∧ (∃ b, y.snapshot = some b ∧ (b.run = .stopped ∨ b.run = .stopping))
      ∧ (r.run = .starting ∨ r.run = .running)
    free ∨ queued →
    ∃ t, exec (.reply f) s = .next t
      ∧ (counted ∨ r.cause = .fault → (t.st a).remainder = left ∧ (t.st a).lastObs = s.mono - left)
      ∧ (counted →
          (t.st a).credit
              = (if p.tBusy ≤ load then 0
                 else if load ≤ p.tIdle then
                   min (y.credit + units * (p.wBase + (p.tIdle - load) * p.wSlope / (p.tIdle + 1))) 65535
                 else y.credit - units * p.drain)
          ∧ (t.st a).stats.busyResets
              = (if p.tBusy ≤ load then min (y.stats.busyResets + 1) 65535 else y.stats.busyResets))
      ∧ (r.cause = .fault →
          (t.st a).credit = 0 ∧ (t.st a).state = .free ∧ (t.st a).stats.busyResets = y.stats.busyResets)
      ∧ (queued → r.cause ≠ .fault → r.run ≠ .running →
          (t.st a).state = .free ∧ (t.st a).credit = y.credit ∧ (t.st a).remainder = y.remainder
          ∧ (t.st a).lastObs = y.lastObs)
      ∧ (queued → counted → s.noReference a →
          (t.st a).state = (if p.tBusy ≤ load then .free else .parkQueued)
          ∧ t.parkQ = (if p.tBusy ≤ load then s.parkQ.filter (· != a) else s.parkQ))
      ∧ (free → (t.st a).state = .free ∨ (t.st a).state = .parkQueued)
      ∧ (started → (t.st a).lastStart = some s.mono ∧ (t.st a).starts = startsWith y.starts s.mono)
      ∧ (¬ started → (t.st a).lastStart = y.lastStart ∧ (t.st a).starts = y.starts)
      ∧ (t.st a).snapshot = some (snapshotNow r) ∧ (t.st a).seen = some s.mono ∧ (t.st a).notFresh = false
      ∧ (t.st a).shadow = y.shadow ∧ (t.st a).lock = y.lock ∧ (t.st a).hold = y.hold
      ∧ s.settingsKept t

/-- The credit computation of a FREE station is followed by the eligibility test: the station joins the tail of the
park queue exactly when the mode is ACTIVE, it is MANAGED, believed and seen running, has the credit, stands under no
mark or lock, has run for min run, its zone is open with margin, every QUORUM entry of which it is a member would
keep its running members, all of them where the entry is starved, and every station it supports is at rest (R96, R108
to R110, R127 to R130). That a station without a last start time has not run for min run is log 17. -/
def Obligations.EligibleStationJoinsParkQueue : Prop :=
  ∀ (f : Frame) (s : State) (x : Exchange) (r : StatusRec),
    s.observes x f r → s.queuesMatch → (s.pol f.src.toNat).cls ≠ .absent → s.noReference f.src.toNat →
    (s.st f.src.toNat).state = .free → r.cause ≠ .fault →
    let a := f.src.toNat
    let p := s.pol a
    let runs (m : Nat) : Bool :=
      decide ((s.pol m).cls = .managed
        ∧ (m = a
          ∨ ((s.st m).state = .free ∧ ∃ b ∈ (s.st m).snapshot, b.run = .running)
          ∨ (s.st m).state = .parkQueued
          ∨ ((s.st m).state = .waking ∧ ((s.st m).phase = .command ∨ (s.st m).phase = .settle))))
    let rests (q : Nat) : Prop :=
      (s.pol q).cls = .absent ∨ (s.st q).state = .parked
      ∨ ((s.st q).state = .free ∧ (s.st q).shadow = .stop ∧ ∃ b ∈ (s.st q).snapshot, b.run = .stopped)
    ∃ t, exec (.reply f) s = .next t
      ∧ (let eligible :=
          s.mode = .active ∧ p.cls = .managed ∧ (s.st a).shadow = .run ∧ r.run = .running
          ∧ p.cPark ≤ (t.st a).credit ∧ (s.st a).exempt = false ∧ (s.st a).autoExempt = false
          ∧ (s.st a).lock = none
          ∧ (∃ n, (t.st a).lastStart = some n ∧ p.minRun * 1000 ≤ s.mono - n)
          ∧ s.zoneOpen p.zone = true
          ∧ (∀ m, s.timeToSpanEnd p.zone = some m →
              (p.parkHorizon * 60000 : Int) ≤ m - (p.wakeLead * 60000 : Int))
          ∧ (∀ i ms k ref lo hi, s.group i = .quorum ms k ref lo hi → a ∈ ms →
              (if s.isStarved i then ms.length else k) + 1 ≤ ms.countP runs)
          ∧ ∀ q ∈ s.supported a, rests q
        (eligible → (t.st a).state = .parkQueued ∧ t.parkQ = s.parkQ ++ [a])
        ∧ (¬ eligible → (t.st a).state = .free ∧ t.parkQ = s.parkQ))

/-- An observation adopts an UNKNOWN station. Stopped with cause PARKED and no SET pending, it is taken back PARKED,
shadow RUN and credit 0, and woken at once where the mode is not ACTIVE, its class is PASS, it is exempt, a member of
a starved group, a supporter of a waiting station, or due; exempt, it ends demanded (R75, R78, R133, R135, R171,
R172). Every other one is taken as FREE with credit 0 and its shadow from its run state, a busy load counted (R76).
Of a FAULTED station only what was seen changes (R83). That both wakes are taken scheduled first is log 11. -/
def Obligations.ObservationAdoptsUnknown : Prop :=
  ∀ (f : Frame) (s : State) (x : Exchange) (r : StatusRec),
    s.observes x f r → s.queuesMatch → (s.pol f.src.toNat).cls ≠ .absent → s.noReference f.src.toNat →
    let a := f.src.toNat
    let y := s.st a
    let p := s.pol a
    let asParked := r.run = .stopped ∧ r.cause = .parked ∧ s.setPending a = false
    ∃ t, exec (.reply f) s = .next t
      ∧ (y.state = .faulted → t.st a = y.seenAt s.mono r)
      ∧ (y.state = .unknown → asParked →
          let woken := s.mode ≠ .active ∨ p.cls = .pass ∨ y.exempt = true ∨ s.starvedMember a = true
            ∨ s.waitingOn a ≠ [] ∨ s.dueAtOnce a
          (t.st a).shadow = .run ∧ (t.st a).credit = 0 ∧ (t.st a).parkedSince = some s.mono
          ∧ (¬ woken →
              (t.st a).state = .parked ∧ (t.st a).phase = .none ∧ (t.st a).parkMark = some s.mono
              ∧ (t.st a).wakeDue = s.wakeDueNow a)
          ∧ (woken → (t.st a).state.woken ∧ (t.st a).parkMark = none ∧ (t.st a).wakeDue = none)
          ∧ (y.exempt = true → (t.st a).state ≠ .faulted → (t.st a).demand = true ∧ a ∉ t.schedQ))
      ∧ (y.state = .unknown → ¬ asParked →
          (t.st a).credit = 0 ∧ (t.st a).lastStart = some s.mono ∧ (t.st a).starts = y.starts
          ∧ (t.st a).lastObs = s.mono ∧ (t.st a).remainder = 0 ∧ (t.st a).demand = false
          ∧ (t.st a).shadow = (if r.run = .starting ∨ r.run = .running then .run else .stop)
          ∧ (1 ≤ p.cPark → (t.st a).state = .free ∧ t.parkQ = s.parkQ)
          ∧ (t.st a).stats.busyResets
              = (if r.cause ≠ .fault ∧ p.tBusy ≤ min r.load.toNat 1000 then min (y.stats.busyResets + 1) 65535
                 else y.stats.busyResets))
      ∧ (t.st a).snapshot = some (snapshotNow r) ∧ (t.st a).seen = some s.mono ∧ (t.st a).notFresh = false
      ∧ (t.st a).hold = y.hold ∧ s.settingsKept t

/-- An observation of a gate-held station. A FAULT makes it FAULTED with STATION_FAULT, counted by where it arose,
with every other waiting station it supports (R80, R82, R137). A start seen in PARKED, WAKE_QUEUED or WARN is a local
start: FREE, credit 0, recorded and counted (R79). Otherwise a PARKED one is accounted to now (R99); a coasting one
seen STOPPED completes its park when the cause is PARKED, and is then woken, released or left PARKED by the first
line of R123's table that holds, and is FREE with its credit for any other cause (R121, R123, R133, R135); a settling
one seen RUNNING and ready is FREE, the start recorded and the wake counted (R158). In every other case only what was
seen changes, and the next follow-up's time (R58, R120). The order of the wakes at PARKED is log 11. -/
def Obligations.ObservationMovesHeldStation : Prop :=
  ∀ (f : Frame) (s : State) (x : Exchange) (r : StatusRec),
    s.observes x f r → s.queuesMatch → (s.pol f.src.toNat).cls ≠ .absent → s.noReference f.src.toNat →
    let a := f.src.toNat
    let y := s.st a
    let now := s.mono
    let fault := r.cause = .fault
    let started := r.run = .starting ∨ r.run = .running
    let local_ := y.state = .parked ∨ y.state = .wakeQueued ∨ (y.state = .waking ∧ y.phase = .warn)
    let coast := y.state = .parking ∧ y.phase = .coast
    let settle := y.state = .waking ∧ y.phase = .settle
    let settled := settle ∧ ¬ fault ∧ r.run = .running ∧ r.ready = true
    let parked := coast ∧ r.run = .stopped ∧ r.cause = .parked
    let parkedSeconds := (Station.account now (s.pol a).rated y).stats.parkedSeconds
    s.held a = true →
    ∃ t, exec (.reply f) s = .next t
      ∧ (fault →
          (t.st a).state = .faulted ∧ (t.st a).fault = some .stationFault ∧ (t.st a).phase = .none
          ∧ (t.st a).demand = false ∧ (t.st a).credit = y.credit ∧ t.flags.stationFault = true
          ∧ (t.st a).stats.parkedSeconds = parkedSeconds
          ∧ (y.state = .parking ∨ y.state = .parked →
              (t.st a).stats.parkFailures = min (y.stats.parkFailures + 1) 255)
          ∧ (y.state = .wakeQueued ∨ y.state = .waking →
              (t.st a).stats.wakeFailures = min (y.stats.wakeFailures + 1) 255)
          ∧ (∀ q ∈ s.supported a, q ≠ a → (s.st q).state = .wakeQueued →
              (t.st q).state = .faulted ∧ (t.st q).fault = some .supportFault)
          ∧ a ∉ t.demandQ ++ t.schedQ)
      ∧ (¬ fault → local_ → started →
          (t.st a).state = .free ∧ (t.st a).phase = .none ∧ (t.st a).credit = 0 ∧ (t.st a).demand = false
          ∧ (t.st a).stats.localOverrides = min (y.stats.localOverrides + 1) 65535
          ∧ (t.st a).stats.parkedSeconds = parkedSeconds ∧ (t.st a).parkMark = none
          ∧ (t.st a).starts = startsWith y.starts now ∧ (t.st a).lastStart = some now
          ∧ (t.st a).lastObs = now ∧ (t.st a).remainder = 0 ∧ a ∉ t.demandQ ++ t.schedQ)
      ∧ (¬ fault → ¬ started → y.state = .parked →
          t.st a = Station.account now (s.pol a).rated (y.seenAt now r))
      ∧ (¬ fault → ¬ started → y.state = .wakeQueued ∨ (y.state = .waking ∧ y.phase = .warn) →
          t.st a = y.seenAt now r ∧ t.demandQ = s.demandQ ∧ t.schedQ = s.schedQ)
      ∧ (¬ fault → (y.state = .parking ∨ y.state = .waking) → y.phase = .command → t.st a = y.seenAt now r)
      ∧ (parked →
          let needed := s.starvedMember a = true ∨ s.waitingOn a ≠ []
          (t.st a).credit = 0 ∧ (t.st a).parkedSince = some now
          ∧ (t.st a).stats.parks = min (y.stats.parks + 1) 65535
          ∧ (needed ∨ y.demand = true ∨ (y.hold = [] ∧ (s.mode ≠ .active ∨ s.dueAtOnce a)) →
              (t.st a).state.woken)
          ∧ (¬ needed → y.demand = false → y.hold ≠ [] → (t.st a).state = .free)
          ∧ (¬ needed → y.demand = false → y.hold = [] → s.mode = .active → ¬ s.dueAtOnce a →
              (t.st a).state = .parked ∧ (t.st a).phase = .none ∧ (t.st a).parkMark = some now
              ∧ (t.st a).wakeDue = s.wakeDueNow a))
      ∧ (¬ fault → coast → r.run = .stopped → r.cause ≠ .parked →
          (t.st a).state = .free ∧ (t.st a).phase = .none ∧ (t.st a).credit = y.credit
          ∧ (t.st a).demand = false ∧ (t.st a).lastObs = now ∧ (t.st a).remainder = 0)
      ∧ (settled →
          (t.st a).state = .free ∧ (t.st a).phase = .none ∧ (t.st a).credit = 0 ∧ (t.st a).demand = false
          ∧ (t.st a).stats.wakes = min (y.stats.wakes + 1) 65535
          ∧ (t.st a).starts = startsWith y.starts now ∧ (t.st a).lastStart = some now
          ∧ (t.st a).lastObs = now ∧ (t.st a).remainder = 0)
      ∧ (¬ fault → (coast ∧ r.run ≠ .stopped) ∨ (settle ∧ ¬ settled) →
          t.st a =
            (if x.req = .gate a .followUp then
              { y.seenAt now r with attempts := 0, nextFollowUp := some (now + 1000) }
             else y.seenAt now r))
      ∧ (t.st a).shadow = y.shadow ∧ (t.st a).lock = y.lock ∧ (t.st a).hold = y.hold
      ∧ s.settingsKept t

/-- An observation of a QUORUM entry's reference station judges the entry by aux: below P_low it is starved, at or
above P_restore no longer, between them as it was. Entering starvation raises GROUP_STARVED, takes every PARKED
member out of PARKED and every waiting one out of the scheduled queue, and lets queued ones go to FREE with their
credit. A member that is itself the reference is judged as its own dispatch leaves it: seen at rest PARKED or
WAKE_QUEUED, adopted as PARKED, or parked by this observation, it is woken and waits in the demand queue; FREE or
PARK_QUEUED before, it is FREE, its credit the one its credit computation or credit fault gives (R72, R75, R81, R91 to
R95, R112, R123, R131, R132). Several entries, and the station's own dispatch before them, are taken in the order of
log 10, the wakes at PARKED in that of log 11. -/
def Obligations.ReferenceStarvesItsGroups : Prop :=
  ∀ (f : Frame) (s : State) (x : Exchange) (r : StatusRec), s.observes x f r → s.queuesMatch →
    let a := f.src.toNat
    let aux := r.aux.toNat
    let y := s.st a
    let p := s.pol a
    let load := min r.load.toNat 1000
    let units := min ((s.mono - y.lastObs) / 100) 600
    let dispatched := p.cls ≠ .absent
    let atRest := dispatched → r.cause ≠ .fault ∧ r.run ≠ .starting ∧ r.run ≠ .running
    let asParked := dispatched ∧ r.run = .stopped ∧ r.cause = .parked
    ∃ t, exec (.reply f) s = .next t
      ∧ (∀ i ms k lo hi, i < 32 → s.group i = .quorum ms k a lo hi →
          (s.isStarved i = true → t.isStarved i = decide (aux < hi))
          ∧ (s.isStarved i = false → t.isStarved i = decide (aux < lo))
          ∧ (s.isStarved i = false → aux < lo →
              t.flags.groupStarved = true
              ∧ ∀ m ∈ ms, m ≠ a →
                  ((s.st m).state = .parked → (t.st m).state.woken)
                  ∧ ((s.st m).state = .parked ∨ (s.st m).state = .wakeQueued →
                      (t.st m).state = .wakeQueued → m ∈ t.demandQ)
                  ∧ ((s.st m).state = .parkQueued →
                      (t.st m).state = .free ∧ (t.st m).credit = (s.st m).credit ∧ m ∉ t.parkQ))
          ∧ (s.isStarved i = false → aux < lo → a ∈ ms →
              ((y.state = .parked ∨ y.state = .wakeQueued) ∧ atRest
                  ∨ (y.state = .unknown ∧ asParked ∧ s.setPending a = false)
                  ∨ (y.state = .parking ∧ y.phase = .coast ∧ asParked ∧ (y.hold = [] ∨ y.demand = true)) →
                (t.st a).state.woken ∧ ((t.st a).state = .wakeQueued → a ∈ t.demandQ))
              ∧ (y.state = .free ∨ y.state = .parkQueued →
                  (t.st a).state = .free ∧ a ∉ t.parkQ
                  ∧ (t.st a).credit
                      = (if p.cls = .absent then y.credit
                         else if r.cause = .fault then 0
                         else if y.state = .parkQueued ∧ r.run ≠ .running then y.credit
                         else if p.tBusy ≤ load then 0
                         else if load ≤ p.tIdle then
                           min (y.credit + units * (p.wBase + (p.tIdle - load) * p.wSlope / (p.tIdle + 1))) 65535
                         else y.credit - units * p.drain))))
      ∧ (∀ i, (∀ ms k lo hi, s.group i ≠ .quorum ms k a lo hi) → t.isStarved i = s.isStarved i)
      ∧ s.settingsKept t

/-! ## Timers -/

/-- LOCK_EXPIRY closes a lock whose time is reached; FOLLOW_UP_DUE puts a due follow-up before the master, which
sends it when it is IDLE and grants it (R27, R55, R58). That neither has an effect before its time, nor FOLLOW_UP_DUE
outside COAST and SETTLE, is log 5. -/
def Obligations.LockAndFollowUpTimes : Prop :=
  ∀ (a : Nat) (s : State), s.online = true →
    (∀ e, (s.st a).lock = some e →
      (s.mono < e → exec (.lockExpiry a) s = .next s)
      ∧ (e ≤ s.mono →
          ∃ t, exec (.lockExpiry a) s = .next t
            ∧ (t.st a).lock = none ∧ (∀ b, b ≠ a → (t.st b).lock = (s.st b).lock)
            ∧ (∀ b, (t.st b).shadow = (s.st b).shadow ∧ (t.st b).hold = (s.st b).hold
                ∧ (t.st b).credit = (s.st b).credit)
            ∧ t.cport = s.cport ∧ s.settingsKept t))
    ∧ (∀ n, (s.inPhase a .parking .coast || s.inPhase a .waking .settle) = true → (s.st a).nextFollowUp = some n →
        (s.mono < n → exec (.followUpDue a) s = .next s)
        ∧ (n ≤ s.mono →
            (s.master.st ≠ .idle → exec (.followUpDue a) s = .next s)
            ∧ (s.master.st = .idle → s.arbitration = some (.g (.request a .followUp)) →
                ∃ t, exec (.followUpDue a) s = .next t
                  ∧ t.master =
                      { s.master with
                        st := .sending
                          ⟨.g, .gate a .followUp, ⟨byte a, byte s.straps.addr, s.master.gateTag, .poll⟩⟩
                        gateTag := s.master.gateTag + 1, gPass := 0, sPass := min (s.master.sPass + 1) 8 }
                  ∧ t.stations = s.stations ∧ t.fwd = s.fwd)))
    ∧ ((s.inPhase a .parking .coast || s.inPhase a .waking .settle) = false →
        exec (.followUpDue a) s = .next s)

/-- At a protection time, a ready station at the head of the demand queue that fits is admitted: WAKING, out of the
queues, its warning satisfied at once or waiting on the zone's sounding, which starts if none runs. The pass walks the
demand queue and then the scheduled one: an entry not ready is passed over and keeps its place, a ready one that fits
is admitted and adds its weight, and the first ready one that does not fit blocks all behind it; where the step
can grant no PARK after it, no other station changes (R136, R145 to R151). That a station without a parked-since time
counts as past min off is log 17, that the command does nothing for a station that is not WAKE_QUEUED, or that both
protections still hold, log 5. -/
def Obligations.AdmissionStartsWake : Prop :=
  (∀ (a : Nat) (rest : List Nat) (s : State),
    s.online = true → s.draining = false → s.queuesMatch → s.demandQ = a :: rest →
    (∀ p, (s.st a).parkedSince = some p → (s.pol a).minOff * 1000 ≤ s.mono - p) →
    ((s.pol a).startsLimit = 0
      ∨ ((s.st a).starts.filter (fun n => s.mono ≤ n + 3600000)).length < (s.pol a).startsLimit) →
    (∀ p ∈ s.supporters a, (s.pol p).cls = .absent ∨ (s.st p).state = .free) →
    (s.inrush + (s.pol a).weight ≤ s.cfg.params.budget ∨ s.anyWaking = false) → (s.pol a).zone < 8 →
    let z := (s.pol a).zone
    let w := (s.zoneCfg z).warnTime
    ∃ t, exec (.protectionTime a) s = .next t
      ∧ (t.st a).state = .waking ∧ (t.st a).attempts = 0 ∧ a ∉ t.demandQ ∧ a ∉ t.schedQ
      ∧ (w = 0 ∨ ((s.zone z).sounding = none ∧ s.mono < (s.zone z).warnedUntil) →
          (t.st a).phase = .command ∧ (t.st a).satisfiedAt = some s.mono)
      ∧ (w ≠ 0 → ∀ y, (s.zone z).sounding = some y → (t.st a).phase = .warn ∧ t.zone z = s.zone z)
      ∧ (w ≠ 0 → (s.zone z).sounding = none → (s.zone z).warnedUntil ≤ s.mono →
          (t.st a).phase = .warn
          ∧ t.zone z =
              { s.zone z with sounding := some ⟨s.mono, s.mono + w * 1000, (s.zoneCfg z).pattern⟩ })
      ∧ s.settingsKept t)
  ∧ ∀ (a : Nat) (s : State), s.online = true →
    let reached :=
      (s.st a).state = .wakeQueued
      ∧ ((∀ p, (s.st a).parkedSince = some p → (s.pol a).minOff * 1000 ≤ s.mono - p)
        ∨ (s.pol a).startsLimit = 0
        ∨ ((s.st a).starts.filter (fun n => s.mono ≤ n + 3600000)).length < (s.pol a).startsLimit)
    (reached → s.draining = false → s.queuesMatch → s.master.st ≠ .idle ∨ s.parkQ = [] →
      let l := s.letIn s.inrush s.anyWaking (s.demandQ ++ s.schedQ)
      ∃ t, exec (.protectionTime a) s = .next t
        ∧ t.demandQ = s.demandQ.filter (fun b => b ∉ l) ∧ t.schedQ = s.schedQ.filter (fun b => b ∉ l)
        ∧ (∀ b ∈ l,
            t.st b =
              { s.st b with
                state := .waking, phase := (t.st b).phase, attempts := 0, satisfiedAt := (t.st b).satisfiedAt })
        ∧ (∀ b, b ∉ l → t.st b = s.st b) ∧ s.settingsKept t)
    ∧ (¬ reached → exec (.protectionTime a) s = .next s)

/-- STOP_TIMEOUT and START_TIMEOUT, at the phase deadline, fault the station with PARK_TIMEOUT or WAKE_TIMEOUT, raise
STATION_FAULT, count the failure, and fault with SUPPORT_FAULT every queued station it supports (R82, R102, R122,
R137, R159). That they have no effect sooner, or in another phase, is log 5. -/
def Obligations.PhaseDeadlinesFault : Prop :=
  ∀ (a n : Nat) (s : State), s.online = true → (s.st a).phaseDeadline = some n →
    let faulted (c : FaultCause) (t : State) : Prop :=
      (t.st a).state = .faulted ∧ (t.st a).fault = some c ∧ (t.st a).phase = .none
      ∧ (t.st a).phaseDeadline = none ∧ t.flags.stationFault = true
      ∧ (∀ q ∈ s.supported a, (s.st q).state = .wakeQueued →
          (t.st q).state = .faulted ∧ (t.st q).fault = some .supportFault)
      ∧ (t.st a).shadow = (s.st a).shadow ∧ (t.st a).hold = (s.st a).hold ∧ t.cport = s.cport ∧ s.settingsKept t
    (s.inPhase a .parking .coast = false ∨ s.mono < n → exec (.stopTimeout a) s = .next s)
    ∧ (s.inPhase a .waking .settle = false ∨ s.mono < n → exec (.startTimeout a) s = .next s)
    ∧ (s.inPhase a .parking .coast = true → n ≤ s.mono →
        ∃ t, exec (.stopTimeout a) s = .next t ∧ faulted .parkTimeout t
          ∧ (t.st a).stats.parkFailures = min ((s.st a).stats.parkFailures + 1) 255
          ∧ ((s.pol a).failLimit ≠ 0 → (s.pol a).failLimit ≤ min ((s.st a).stats.parkFailures + 1) 255 →
              (t.st a).autoExempt = true ∧ t.flags.parkLimit = true))
    ∧ (s.inPhase a .waking .settle = true → n ≤ s.mono →
        ∃ t, exec (.startTimeout a) s = .next t ∧ faulted .wakeTimeout t
          ∧ (t.st a).stats.wakeFailures = min ((s.st a).stats.wakeFailures + 1) 255
          ∧ (t.st a).autoExempt = (s.st a).autoExempt)

/-- Output ZWz of a gate on the line is low while the zone's line is OFF and from the sounding end on; while it sounds
it is high throughout for STEADY, and from the start high and low by turns of 500 ms for SLOW and of 125 ms for FAST
(R150). SOUNDING_END, once the sounding's end is reached, puts every station of the zone that waits in WARN into
COMMAND, satisfied at that end, switches the line off and starts the 30,000 ms grace from that end (R152, R154); a park
queue that the same step's arbitration walks may let others in and sound again. That the command has no effect sooner
is log 5. -/
def Obligations.SoundingEndSatisfiesWarnings : Prop :=
  (∀ (z : Nat) (s : State), (s.zone z).sounding = none → s.zoneOutput z = false)
  ∧ ∀ (z : Nat) (s : State) (y : Sounding), s.online = true → (s.zone z).sounding = some y →
    (s.zoneOutput z = true
      ↔ s.mono < y.ends
        ∧ match y.pattern with
          | .steady => True
          | .slow => (s.mono - y.start) % 1000 < 500
          | .fast => (s.mono - y.start) % 250 < 125)
    ∧ (s.mono < y.ends → exec (.soundingEnd z) s = .next s)
    ∧ (y.ends ≤ s.mono → s.queuesMatch →
        ∃ t, exec (.soundingEnd z) s = .next t
          ∧ (∀ a, (s.st a).state = .waking →
              t.st a =
                if (s.st a).phase = .warn ∧ (s.pol a).zone = z then
                  { s.st a with phase := .command, attempts := 0, satisfiedAt := some y.ends }
                else s.st a)
          ∧ (s.parkQ = [] ∨ s.master.st ≠ .idle →
              t.zone z = ⟨none, y.ends + 30000⟩ ∧ t.zoneOutput z = false ∧ ∀ v, v ≠ z → t.zone v = s.zone v)
          ∧ t.cport = s.cport ∧ s.settingsKept t)

/-- WAKE_DUE_EXPIRY, once the wake-due time is reached, clears it and takes a scheduled wake. A PARKED station leaves
PARKED, queued, admitted or faulted by a supporter; with no supporter FAULTED its PARKED supporters leave PARKED too,
and a PARKED station that the walk from supporter to supporter does not reach stays as it was. Waiting stations may be
admitted or faulted; no other station changes, but for what a grant of an IDLE master does. In a drain, where nothing
is admitted, the station stands at the tail of the scheduled queue with every PARKED station the walk finds behind it:
its supporters in rising address order, then theirs, breadth first, where none of them has a FAULTED supporter (R134,
R137, R142, R143, R161, R172). A station that is not PARKED takes no wake (R71, R142). That the command has no effect
sooner is log 5. -/
def Obligations.WakeDueExpiryWakesParked : Prop :=
  ∀ (a n : Nat) (s : State), s.online = true → (s.st a).wakeDue = some n → s.queuesMatch →
    (s.mono < n → exec (.wakeDueExpiry a) s = .next s)
    ∧ (n ≤ s.mono → (s.st a).state ≠ .parked →
        exec (.wakeDueExpiry a) s = .next (s.modSt a fun r => { r with wakeDue := none }).finish)
    ∧ (n ≤ s.mono → (s.st a).state = .parked →
        ∃ t, exec (.wakeDueExpiry a) s = .next t
          ∧ (t.st a).wakeDue = none ∧ (t.st a).parkMark = none ∧ (t.st a).state.woken
          ∧ (s.liveSupporters a = [] → (t.st a).state ≠ .faulted ∧ (t.st a).demand = (s.st a).demand)
          ∧ ((∀ b, s.chained a b → ∀ p ∈ s.liveSupporters b, (s.st p).state ≠ .faulted) → s.draining = true →
              let l := s.walkOrder 128 [a] [a]
              t.schedQ = s.schedQ ++ l ∧ t.demandQ = s.demandQ ∧ ∀ b ∈ l, (t.st b).state = .wakeQueued)
          ∧ ((∃ p ∈ s.liveSupporters a, (s.st p).state = .faulted) →
              (t.st a).state = .faulted ∧ (t.st a).fault = some .supportFault)
          ∧ ((∀ p ∈ s.liveSupporters a, (s.st p).state ≠ .faulted) →
              ∀ p ∈ s.liveSupporters a, (s.st p).state = .parked →
                (t.st p).state.woken ∧ (t.st p).wakeDue = none ∧ (t.st p).parkMark = none)
          ∧ (∀ b, (s.st b).state = .parked → ¬ s.chained a b → t.st b = s.st b)
          ∧ (∀ b, (s.st b).state = .wakeQueued → (t.st b).state.woken)
          ∧ (s.master.st ≠ .idle → ∀ b, ¬ s.chained a b → (s.st b).state ≠ .wakeQueued → t.st b = s.st b)
          ∧ (t.st a).hold = (s.st a).hold ∧ t.cport = s.cport ∧ s.settingsKept t)

/-- MINUTE_BOUNDARY, when the clock reads a whole minute: each PARK_QUEUED station of a zone open at the minute
before and not now leaves the park queue to FREE with its credit; parked and waking stations stay (R115, R169). That
it has no effect at any other reading is log 5. -/
def Obligations.MinuteBoundaryClosesZones : Prop :=
  ∀ s : State, s.online = true → s.queuesMatch →
    (s.clock.valid = false ∨ s.weekTime % 60000 ≠ 0 → exec .minuteBoundary s = .next s)
    ∧ (s.clock.valid = true → s.weekTime % 60000 = 0 →
        let before := (s.weekMinute + 10079) % 10080
        ∃ t, exec .minuteBoundary s = .next t
          ∧ (∀ a, (s.st a).state = .parkQueued → (s.pol a).zone < 8 → s.openAt (s.pol a).zone before = true →
              s.openAt (s.pol a).zone s.weekMinute = false →
              (t.st a).state = .free ∧ (t.st a).credit = (s.st a).credit ∧ a ∉ t.parkQ)
          ∧ (∀ a, (s.st a).state ≠ .parkQueued → (s.st a).state ≠ .wakeQueued → t.st a = s.st a)
          ∧ t.cport = s.cport ∧ s.settingsKept t)

/-! ## Management -/

/-- The reads answer OK with their data and change nothing else, and answer RANGE outside their range (R104, R153,
R181, R184, R185). -/
def Obligations.ReadsAnswerData : Prop :=
  ∀ (src tag : Byte) (s : State), s.managed src = true →
    let u := s.hunt .c
    (∀ a part : Byte,
      (s.named a.toNat = true → part = 0 →
        exec (.readStation src tag [a, part]) s = .next (u.mreply src tag 0x10 .ok (s.runtimeBytes a.toNat)))
      ∧ (s.named a.toNat = true → part = 1 →
          exec (.readStation src tag [a, part]) s = .next (u.mreply src tag 0x10 .ok (s.pol a.toNat).bytes))
      ∧ (s.named a.toNat = false ∨ 1 < part.toNat →
          exec (.readStation src tag [a, part]) s = .next (u.mreply src tag 0x10 .range [])))
    ∧ (∀ i : Byte,
        exec (.readGroup src tag [i]) s
            = .next
                (if i.toNat ≤ 31 then
                  u.mreply src tag 0x20 .ok
                    ([(s.group i.toNat).kind, flagByte (s.isStarved i.toNat)] ++ (s.group i.toNat).fields)
                 else u.mreply src tag 0x20 .range [])
        ∧ exec (.readWindow src tag [i]) s
            = .next
                (if i.toNat ≤ 15 then u.mreply src tag 0x30 .ok (s.window i.toNat).bytes
                 else u.mreply src tag 0x30 .range [])
        ∧ exec (.readZone src tag [i]) s
            = .next
                (if i.toNat ≤ 7 then
                  u.mreply src tag 0x32 .ok
                    ([byte (s.zoneCfg i.toNat).warnTime, (s.zoneCfg i.toNat).pattern.code,
                        flagByte (s.zone i.toNat).sounding.isSome]
                      ++ be32 (match (s.zone i.toNat).sounding with
                        | some y => y.ends - s.mono
                        | none => 0)
                      ++ be32 ((s.zone i.toNat).warnedUntil - s.mono))
                 else u.mreply src tag 0x32 .range []))
    ∧ (∀ part first : Byte,
        exec (.readScanList src tag [part, first]) s
          = .next
              (if part.toNat ≤ 1 ∧ first.toNat ≤ 31 then
                u.mreply src tag 0x40 .ok (s.scanBytes part.toNat first.toNat)
               else u.mreply src tag 0x40 .range []))
    ∧ exec (.readGateParameters src tag []) s
        = .next
            (u.mreply src tag 0x50 .ok
              ([byte s.cfg.params.budget, byte s.cfg.params.parkLimit, byte s.cfg.params.replyTimeout,
                  flagByte s.cfg.params.takeTime]
                ++ be16 s.master.stray ++ be16 s.master.unsolicited ++ be16 s.master.replyTimeouts
                ++ be16 s.master.fMgmt ++ be16 s.timeRange))
    ∧ exec (.readLastLost src tag []) s
        = .next
            (u.mreply src tag 0x53 .ok
              ([byte s.fwd.lastLost.station, s.fwd.lastLost.tag, s.fwd.lastLost.action.code,
                  s.fwd.lastLost.cause.code, s.fwd.lastLost.stationCause]
                ++ be16 s.fwd.cnt.lost ++ be16 s.fwd.cnt.coalesced ++ be16 s.fwd.cnt.noopDrop
                ++ be16 s.fwd.cnt.rewrite ++ be16 s.fwd.cnt.broadcastDrop ++ be16 s.fwd.cnt.delayedDiscard
                ++ be16 s.fwd.cnt.unexpected))

/-- The fields that a WRITE carries and a READ answers with are one format: what a table entry in range is read as
writes back the same entry (R68, R126, R183, R184). -/
def Obligations.TablesReadBackAsWritten : Prop :=
  (∀ p : Policy, p.inRange = true → p.bytes.length = 27 ∧ Policy.ofBytes p.bytes = some p)
    ∧ ∀ (s : State) (g : Group), s.groupInRange g = true → (∀ ms k ref lo hi, g = .quorum ms k ref lo hi →
        ref ≤ 127 ∧ lo ≤ 65535 ∧ hi ≤ 65535) →
        groupLength g.kind g.fields.length = true ∧ Group.ofFields g.kind g.fields = some g

/-- READ STATISTICS accounts a PARKED station to now and answers its statistics; CLEAR STATISTICS zeroes them after
the same accounting and lifts auto-exempt; at the gate's own address both act on the ports' line counters. An
accounting counts the whole seconds since the park mark: parked seconds rise by them and energy by rated power times
them, each saturating, the park mark advances by 1000 ms for each, and nothing else changes; one taken on the way to a
later one changes nothing in the sum (R11, R99, R100, R104, R105). -/
def Obligations.StatisticsAreAccounted : Prop :=
  (∀ (src tag a : Byte) (s : State), s.managed src = true →
    let u := s.hunt .c
    let v := if (s.st a.toNat).state = .parked then
        u.modSt a.toNat (Station.account s.mono (s.pol a.toNat).rated) else u
    let own := a.toNat = s.straps.addr
    (stationAddress a.toNat = false → exec (.readStatistics src tag [a]) s = .next (u.mreply src tag 0x15 .range []))
    ∧ (stationAddress a.toNat = true →
        (own →
          exec (.readStatistics src tag [a]) s
            = .next (u.mreply src tag 0x15 .ok (s.cport.cnt.bytes ++ s.fport.cnt.bytes)))
        ∧ (¬ own →
            exec (.readStatistics src tag [a]) s = .next (v.mreply src tag 0x15 .ok (v.st a.toNat).statBytes))
        ∧ (s.admits = true →
            (own →
              exec (.clearStatistics src tag [a]) s
                = .next
                    (({ u with
                        cport := { u.cport with cnt := ⟨0, 0, 0, 0, 0, 0, 0⟩ }
                        fport := { u.fport with cnt := ⟨0, 0, 0, 0, 0, 0, 0⟩ } } : State).mreply src tag 0x16 .ok []))
            ∧ (¬ own →
                exec (.clearStatistics src tag [a]) s
                  = .next
                      ((v.modSt a.toNat fun r =>
                          { r with stats := ⟨0, 0, 0, 0, 0, 0, 0, 0, 0⟩, autoExempt := false }).mreply
                        src tag 0x16 .ok [])))))
    ∧ (∀ (r : Station) (now rated : Nat),
        (∀ m, r.parkMark = some m →
          let secs := (now - m) / 1000
          let u := Station.account now rated r
          u.stats.parkedSeconds = min (r.stats.parkedSeconds + secs) 4294967295
          ∧ u.stats.energy = min (r.stats.energy + rated * secs) 281474976710655
          ∧ u.parkMark = some (m + 1000 * secs)
          ∧ u = { r with
                  parkMark := u.parkMark
                  stats := { r.stats with parkedSeconds := u.stats.parkedSeconds, energy := u.stats.energy } })
        ∧ (r.parkMark = none → Station.account now rated r = r))
    ∧ ∀ (r : Station) (m t1 t2 rated : Nat), r.parkMark = some m → m ≤ t1 → t1 ≤ t2 →
        Station.account t2 rated (Station.account t1 rated r) = Station.account t2 rated r

/-- WRITE STATION POLICY in range to a station that is UNKNOWN, FREE or FAULTED replaces its policy and keeps its
runtime part, with the park-failure limit judged at once; any other state is refused with STATION_STATE, after RANGE
(R87, R88, R102). -/
def Obligations.PolicyWriteReplacesPolicy : Prop :=
  ∀ (src tag a : Byte) (body : List Byte) (p : Policy) (s : State),
    s.managed src = true → s.admits = true → body.length = 27 →
    let answer (res : Res) : Frame := ⟨src, byte s.straps.addr, tag, .mreply [0x11, res.code]⟩
    let ready := (s.st a.toNat).state = .unknown ∨ (s.st a.toNat).state = .free ∨ (s.st a.toNat).state = .faulted
    (Policy.ofBytes body = none ∨ s.named a.toNat = false →
      exec (.writeStationPolicy src tag (a :: body)) s = .next ((s.hunt .c).answer (answer .range)))
    ∧ (Policy.ofBytes body = some p →
        (p.inRange = false →
          exec (.writeStationPolicy src tag (a :: body)) s = .next ((s.hunt .c).answer (answer .range)))
        ∧ (s.named a.toNat = true → p.inRange = true → ¬ ready →
            exec (.writeStationPolicy src tag (a :: body)) s = .next ((s.hunt .c).answer (answer .stationState)))
        ∧ (s.named a.toNat = true → p.inRange = true → ready → s.queuesMatch →
            let limit := p.failLimit ≠ 0 ∧ p.failLimit ≤ (s.st a.toNat).stats.parkFailures
            ∃ t, exec (.writeStationPolicy src tag (a :: body)) s = .next t
              ∧ t.cfg = { s.cfg with policies := s.cfg.policies.setIfInBounds (a.toNat - 1) p }
              ∧ t.pol a.toNat = p ∧ (∀ b, b ≠ a.toNat → t.pol b = s.pol b)
              ∧ t.st a.toNat = { s.st a.toNat with autoExempt := (s.st a.toNat).autoExempt || decide limit }
              ∧ t.flags = { s.flags with parkLimit := s.flags.parkLimit || decide limit }
              ∧ (s.hunt .c).answeredWith t (answer .ok)))

/-- HOLD AWAKE sets exempt and answers OK in every state, and acts by state as R85's table says. RELEASE clears
exempt and changes nothing else, in every state. CLEAR FAULT returns a FAULTED station to UNKNOWN with R84's fields
cleared and the rest kept; a station that is not FAULTED is refused with STATION_STATE. An address that names no
station is refused with RANGE (R84, R86). -/
def Obligations.HoldAwakeReleaseAndClearFault : Prop :=
  (∀ (src tag a : Byte) (s : State), s.managed src = true → s.admits = true →
    let answer (res : Res) : Frame := ⟨src, byte s.straps.addr, tag, .mreply [0x12, res.code]⟩
    let r := s.st a.toNat
    (s.named a.toNat = false → exec (.holdAwake src tag [a]) s = .next ((s.hunt .c).answer (answer .range)))
    ∧ (s.named a.toNat = true → s.queuesMatch →
        ∃ t, exec (.holdAwake src tag [a]) s = .next t
          ∧ (t.st a.toNat).exempt = true ∧ (t.st a.toNat).credit = r.credit ∧ (t.st a.toNat).hold = r.hold
          ∧ (r.state = .unknown ∨ r.state = .free ∨ r.state = .faulted →
              t.st a.toNat = { r with exempt := true })
          ∧ (r.state = .parkQueued → (t.st a.toNat).state = .free ∧ a.toNat ∉ t.parkQ)
          ∧ (r.state = .parking ∨ r.state = .waking → t.st a.toNat = { r with exempt := true, demand := true })
          ∧ (r.state = .parked ∨ r.state = .wakeQueued →
              (t.st a.toNat).state = .faulted
              ∨ (t.st a.toNat).demand = true ∧ a.toNat ∉ t.schedQ
                ∧ ((t.st a.toNat).state = .wakeQueued ∨ (t.st a.toNat).state = .waking))
          ∧ (s.hunt .c).answeredWith t (answer .ok) ∧ s.settingsKept t))
    ∧ ∀ (src tag a : Byte) (s : State), s.managed src = true → s.admits = true →
        let u := s.hunt .c
        (s.named a.toNat = false →
          exec (.release src tag [a]) s = .next (u.mreply src tag 0x13 .range [])
          ∧ exec (.clearFault src tag [a]) s = .next (u.mreply src tag 0x14 .range []))
        ∧ (s.named a.toNat = true →
            exec (.release src tag [a]) s
                = .next ((u.modSt a.toNat fun r => { r with exempt := false }).mreply src tag 0x13 .ok [])
            ∧ ((s.st a.toNat).state ≠ .faulted →
                exec (.clearFault src tag [a]) s = .next (u.mreply src tag 0x14 .stationState []))
            ∧ ((s.st a.toNat).state = .faulted →
                exec (.clearFault src tag [a]) s
                  = .next
                      ((u.modSt a.toNat fun r =>
                          { r with
                            state := .unknown, fault := none, snapshot := none, seen := none, credit := 0,
                            remainder := 0, lastObs := 0, parkedSince := none }).mreply src tag 0x14 .ok [])))

/-- WRITE GROUP in range is refused with GROUP_LIMIT or GROUP_CYCLE, in that order, or replaces the entry and clears
its starved flag. A QUORUM or EMPTY entry moves no station that stands in no queue; a SUPPORT entry undoes the
admission of a station it gives a supporter that is not FREE (R138, R139, R155; one admission pass at its end, log
25). -/
def Obligations.GroupWriteReplacesEntry : Prop :=
  ∀ (src tag i kind : Byte) (bs : List Byte) (g : Group) (s : State),
    s.managed src = true → s.admits = true → groupLength kind bs.length = true →
    Group.ofFields kind bs = some g →
    let answer (res : Res) : Frame := ⟨src, byte s.straps.addr, tag, .mreply [0x21, res.code]⟩
    let table := (s.cfg.groups.setIfInBounds i.toNat g).toList
    let refused (res : Res) : Prop :=
      exec (.writeGroup src tag (i :: kind :: bs)) s = .next ((s.hunt .c).answer (answer res))
    (31 < i.toNat ∨ s.groupInRange g = false → refused .range)
    ∧ (i.toNat ≤ 31 → s.groupInRange g = true →
        (withinLimit table g = false → refused .groupLimit)
        ∧ (withinLimit table g = true → hasCycle table = true → refused .groupCycle)
        ∧ (withinLimit table g = true → hasCycle table = false → s.queuesMatch →
            ∃ t, exec (.writeGroup src tag (i :: kind :: bs)) s = .next t
              ∧ t.cfg = { s.cfg with groups := s.cfg.groups.setIfInBounds i.toNat g }
              ∧ t.starved = s.starved.setIfInBounds i.toNat false
              ∧ ((∀ ps qs, g ≠ .support ps qs) →
                  ∀ a, (s.st a).state ≠ .parkQueued → (s.st a).state ≠ .wakeQueued → t.st a = s.st a)
              ∧ (∀ ps qs, g = .support ps qs → s.master.st ≠ .idle →
                  ∀ p ∈ ps, (s.pol p).cls ≠ .absent → (s.st p).state ≠ .free →
                    ∀ q ∈ qs, (s.st q).state = .waking → (s.st q).phase = .warn ∨ (s.st q).phase = .command →
                      (t.st q).state = .wakeQueued ∨ (t.st q).state = .faulted)
              ∧ (s.hunt .c).answeredWith t (answer .ok)))

/-- A window entry covers a zone it names at the minutes of its spans, one for each day it names: from the open minute
to before the close minute, past midnight where the close lies below it, a full day where they are equal, and past the
week's end from minute 0. A zone is open where an entry covers it, and open now where the clock is valid and it is open
at now's minute; its span end is the first minute from now's, of 10,080, at which it is not open (R163, R167, R168).
SET CLOCK sets a valid clock and WRITE WINDOW an entry. Either closes zones: a PARK_QUEUED station of a zone open
before and not after leaves to FREE with its credit; and every station still PARKED has its wake-due time worked out
afresh. A set or write at the instant of a minute boundary also closes the zones open until that minute, so that a
closing is acted on in whichever of the two steps comes first (R164, R165, R169, R170, R171); for the write that is
log 28. -/
def Obligations.ClockAndWindowWrites : Prop :=
  (∀ (w : Window) (z m : Nat), w.openMin ≤ 1439 → w.closeMin ≤ 1439 → m < 10080 →
    let length :=
      if w.openMin < w.closeMin then w.closeMin - w.openMin
      else if w.closeMin < w.openMin then w.closeMin + 1440 - w.openMin
      else 1440
    w.covers z m = true
      ↔ w.zoneMask.testBit z = true
        ∧ ∃ d, d < 7 ∧ w.dayMask.testBit d = true
          ∧ ∃ k, k < length ∧ (d * 1440 + w.openMin + k) % 10080 = m)
  ∧ (∀ (s : State) (z : Nat),
    let reading := (s.clock.base + (s.mono - s.clock.baseAt)) % 604800000
    let minute := reading / 60000
    (∀ m, s.openAt z m = true ↔ ∃ w ∈ s.cfg.windows.toList, w.covers z m = true)
    ∧ (s.zoneOpen z = true ↔ s.clock.valid = true ∧ s.openAt z minute = true)
    ∧ (∀ k, k < 10080 → (∀ j, j < k → s.openAt z ((minute + j) % 10080) = true) →
        s.openAt z ((minute + k) % 10080) = false →
        s.timeToSpanEnd z = some ((k * 60000 : Int) - (reading % 60000 : Nat)))
    ∧ ((∀ j, j < 10080 → s.openAt z ((minute + j) % 10080) = true) → s.timeToSpanEnd z = none))
  ∧ ∀ (src tag : Byte) (s : State), s.managed src = true → s.admits = true →
    let answer (code : Byte) (res : Res) : Frame := ⟨src, byte s.straps.addr, tag, .mreply [code, res.code]⟩
    (∀ b3 b2 b1 b0 : Byte,
      let n := beVal [b3, b2, b1, b0]
      let v : State := { s with clock := ⟨true, n, s.mono⟩ }
      (604800000 ≤ n →
        exec (.setClock src tag [b3, b2, b1, b0]) s = .next ((s.hunt .c).answer (answer 0x34 .range)))
      ∧ (n < 604800000 → s.queuesMatch →
          ∃ t, exec (.setClock src tag [b3, b2, b1, b0]) s = .next t
            ∧ t.clock = ⟨true, n, s.mono⟩ ∧ s.closingTaken v t
            ∧ (s.hunt .c).answeredWith t (answer 0x34 .ok) ∧ s.settingsKept t))
    ∧ ∀ i zm dm o1 o0 c1 c0 : Byte,
        let w : Window := ⟨zm.toNat, dm.toNat, beVal [o1, o0], beVal [c1, c0]⟩
        let cfg := { s.cfg with windows := s.cfg.windows.setIfInBounds i.toNat w }
        (15 < i.toNat ∨ 127 < w.dayMask ∨ 1439 < w.openMin ∨ 1439 < w.closeMin →
          exec (.writeWindow src tag [i, zm, dm, o1, o0, c1, c0]) s
            = .next ((s.hunt .c).answer (answer 0x31 .range)))
        ∧ (i.toNat ≤ 15 → w.dayMask ≤ 127 → w.openMin ≤ 1439 → w.closeMin ≤ 1439 → s.queuesMatch →
            ∃ t, exec (.writeWindow src tag [i, zm, dm, o1, o0, c1, c0]) s = .next t
              ∧ t.cfg = cfg ∧ s.closingTaken { s with cfg := cfg } t ∧ t.clock = s.clock
              ∧ (s.hunt .c).answeredWith t (answer 0x31 .ok))

/-- SET MODE takes ACTIVE at once. From ACTIVE toward PASS it empties the park queue with credit kept and wakes every
PARKED station, DRAINING as long as one is gate-held. WAKE ZONES wakes every PARKED station of the zones named; it
does not touch a station of another zone or state, the park queue's among them, but for those the woken ones wait for
and those the admissions and the arbitration of the same step take (R134, R160, R173, R174). -/
def Obligations.ModeAndWakeZonesWakeParked : Prop :=
  ∀ (src tag m : Byte) (s : State), s.managed src = true → s.admits = true →
    let u := s.hunt .c
    let answer (code : Byte) : Frame := ⟨src, byte s.straps.addr, tag, .mreply [code, 0]⟩
    (2 ≤ m.toNat → exec (.setMode src tag [m]) s = .next (u.mreply src tag 0x35 .range []))
    ∧ (m = 1 →
        exec (.setMode src tag [m]) s
          = .next (({ u with mode := .active } : State).mreply src tag 0x35 .ok []))
    ∧ (m = 0 → s.mode ≠ .active → exec (.setMode src tag [m]) s = .next (u.mreply src tag 0x35 .ok []))
    ∧ (m = 0 → s.mode = .active → s.queuesMatch →
        ∃ t, exec (.setMode src tag [m]) s = .next t
          ∧ t.mode = (if t.anyHeld then .draining else .pass) ∧ t.parkQ = []
          ∧ (∀ a, (s.st a).state = .parkQueued → (t.st a).state = .free ∧ (t.st a).credit = (s.st a).credit)
          ∧ (∀ a, (s.st a).state = .parked →
              (t.st a).state = .wakeQueued ∨ (t.st a).state = .waking ∨ (t.st a).state = .faulted)
          ∧ u.answeredWith t (answer 0x35) ∧ s.settingsKept t)
    ∧ (s.queuesMatch →
        ∃ t, exec (.wakeZones src tag [m]) s = .next t
          ∧ (∀ a, (s.st a).state = .parked → m.toNat.testBit (s.pol a).zone = true →
              (t.st a).state = .wakeQueued ∨ (t.st a).state = .waking ∨ (t.st a).state = .faulted)
          ∧ (∀ a, s.supported a = [] →
              (s.st a).state = .parked ∧ m.toNat.testBit (s.pol a).zone = false
                ∨ (s.st a).state ∉ [.parked, .parkQueued, .wakeQueued] → t.st a = s.st a)
          ∧ (s.master.st ≠ .idle → ∀ a, (s.st a).state = .parkQueued → s.supported a = [] →
              t.st a = s.st a ∧ a ∈ t.parkQ)
          ∧ u.answeredWith t (answer 0x36) ∧ s.settingsKept t)

/-- WRITE ZONE and WRITE GATE PARAMETERS replace their fields, ACK ATTENTION clears the sticky flags its mask names;
a budget below the inrush in use is refused with BUSY (R148, R153, R186, R189). -/
def Obligations.SettingsRequests : Prop :=
  ∀ (src tag : Byte) (s : State), s.managed src = true →
    let u := s.hunt .c
    (s.admits = true →
      (∀ z w p : Byte,
        (Pattern.ofCode p = none ∨ 7 < z.toNat ∨ 60 < w.toNat →
          exec (.writeZone src tag [z, w, p]) s = .next (u.mreply src tag 0x33 .range []))
        ∧ ∀ q, Pattern.ofCode p = some q → z.toNat ≤ 7 → w.toNat ≤ 60 →
            exec (.writeZone src tag [z, w, p]) s
              = .next
                  (({ u with
                      cfg := { s.cfg with zones := s.cfg.zones.setIfInBounds z.toNat ⟨w.toNat, q⟩ } } : State).mreply
                    src tag 0x33 .ok []))
      ∧ ∀ b l r k : Byte,
          let inRange := 1 ≤ b.toNat ∧ b.toNat ≤ 63 ∧ 1 ≤ l.toNat ∧ l.toNat ≤ 16 ∧ 5 ≤ r.toNat ∧ r.toNat ≤ 100
            ∧ k.toNat ≤ 1
          (¬ inRange →
            exec (.writeGateParameters src tag [b, l, r, k]) s = .next (u.mreply src tag 0x51 .range []))
          ∧ (inRange → b.toNat < s.inrush →
              exec (.writeGateParameters src tag [b, l, r, k]) s = .next (u.mreply src tag 0x51 .busy []))
          ∧ (inRange → s.inrush ≤ b.toNat →
              ∃ t, exec (.writeGateParameters src tag [b, l, r, k]) s = .next t
                ∧ t.cfg = { s.cfg with params := ⟨b.toNat, l.toNat, r.toNat, decide (k = 1)⟩ }
                ∧ (∀ a, (t.st a).shadow = (s.st a).shadow ∧ (t.st a).hold = (s.st a).hold
                    ∧ (t.st a).credit = (s.st a).credit)
                ∧ u.answeredWith t ⟨src, byte s.straps.addr, tag, .mreply [0x51, 0]⟩))
    ∧ ∀ m1 m0 : Byte,
        let clear (f : Bool) (b : Nat) : Bool := f && !(beVal [m1, m0]).testBit b
        exec (.ackAttention src tag [m1, m0]) s
          = .next
              (({ u with
                  flags :=
                    { imageInvalid := clear s.flags.imageInvalid 0, stationFault := clear s.flags.stationFault 2,
                      parkLimit := clear s.flags.parkLimit 3, postedLost := clear s.flags.postedLost 4,
                      broadcastDropped := clear s.flags.broadcastDropped 5,
                      groupStarved := clear s.flags.groupStarved 6, lineErrors := clear s.flags.lineErrors 7,
                      saveFailed := clear s.flags.saveFailed 9 } } : State).mreply src tag 0x52 .ok [])

/-- The scanner: its list and its parameters are written in range and only while it is IDLE, and refused with RANGE
or BUSY otherwise. SCAN START skips the ABSENT and fresh entries from the start index, counting the fresh, and polls
the first that is due; a SINGLE scan whose entry is skipped is over. SCAN STOP stops at once or after the poll on the
line. SCAN_WAIT_END selects from its position in the same way; at the end of the list a SEQUENCE is over, and a
REPEAT waits out its period or, when that has run, begins a new pass at once, which runs to its end where every entry
is skipped (R175 to R179). No effect before the wait end is log 5, the gate's own address skipped log 14, the mode in
force and the position of an ended SINGLE scan log 15. -/
def Obligations.ScannerRequests : Prop :=
  (∀ (src tag : Byte) (s : State), s.managed src = true →
    let u := s.hunt .c
    let c := s.cfg.scan
    (s.admits = true → ∀ (len first count : Byte) (run : List Byte), run.length = count.toNat → run.length ≤ 27 →
      let slots := placeRun c.slots first.toNat (run.map BitVec.toNat)
      let good := count.toNat ≤ 24 ∧ 1 ≤ len.toNat ∧ len.toNat ≤ 32 ∧ first.toNat ≤ 31 ∧ first.toNat + run.length ≤ 32
        ∧ (∀ a ∈ run, s.named a.toNat = true) ∧ 0 ∉ slots.toList.take len.toNat ∧ c.startIdx < len.toNat
      (¬ good →
        exec (.writeScanList src tag (0 :: len :: first :: count :: run)) s
          = .next (u.mreply src tag 0x41 .range []))
      ∧ (good →
          exec (.writeScanList src tag (0 :: len :: first :: count :: run)) s
            = .next
                (if s.scan.st = .idle then
                  (({ u with cfg := { s.cfg with scan := { c with slots := slots, len := len.toNat } } }
                    : State).mreply src tag 0x41 .ok [])
                 else u.mreply src tag 0x41 .busy [])))
    ∧ (s.admits = true → ∀ md st sp1 sp0 pe1 pe0 fw au : Byte,
      let inRange := st.toNat ≤ 31 ∧ beVal [sp1, sp0] ≤ 1000 ∧ 1 ≤ beVal [pe1, pe0] ∧ beVal [pe1, pe0] ≤ 3600
        ∧ fw.toNat ≤ 60 ∧ (c.len = 0 ∨ st.toNat < c.len)
      (2 < md.toNat ∨ 1 < au.toNat ∨ ¬ inRange →
        exec (.writeScanList src tag [1, md, st, sp1, sp0, pe1, pe0, fw, au]) s
          = .next (u.mreply src tag 0x41 .range []))
      ∧ ∀ m b, ScanMode.ofCode md = some m → flagOf au = some b → inRange →
          exec (.writeScanList src tag [1, md, st, sp1, sp0, pe1, pe0, fw, au]) s
            = .next
                (if s.scan.st = .idle then
                  (({ u with
                      cfg :=
                        { s.cfg with
                          scan :=
                            { c with
                              mode := m, startIdx := st.toNat, spacing := beVal [sp1, sp0],
                              period := beVal [pe1, pe0], freshWindow := fw.toNat, autoStart := b } } }
                    : State).mreply src tag 0x41 .ok [])
                 else u.mreply src tag 0x41 .busy []))
    ∧ (s.admits = true →
        (c.len = 0 → exec (.scanStart src tag []) s = .next (u.mreply src tag 0x42 .range []))
        ∧ (1 ≤ c.len → s.scan.st ≠ .idle →
            exec (.scanStart src tag []) s = .next (u.mreply src tag 0x42 .busy []))
        ∧ (1 ≤ c.len → c.len ≤ 32 → s.scan.st = .idle →
            let leaves (n : Scanner) : Prop :=
              ∃ t, exec (.scanStart src tag []) s = .next t ∧ t.scan = n
                ∧ u.answeredWith t ⟨src, byte s.straps.addr, tag, .mreply [0x42, 0]⟩ ∧ s.settingsKept t
            (∀ j, (c.mode = .single → j = c.startIdx) → s.skips c.startIdx j → s.dueEntry j →
              leaves ⟨.scanning, j, s.mono, none, false, c.mode, s.skipCount c.startIdx j⟩)
            ∧ (c.mode = .single → c.startIdx < c.len → s.skips c.startIdx (c.startIdx + 1) →
                leaves
                  ⟨.idle, c.startIdx + 1, s.mono, none, false, .single,
                    s.skipCount c.startIdx (c.startIdx + 1)⟩)))
    ∧ let idle : Scanner := { s.scan with st := .idle, waitEnd := none, stopPending := false }
      (s.scan.st = .idle → exec (.scanStop src tag []) s = .next (u.mreply src tag 0x43 .ok []))
      ∧ (s.scan.st = .waiting ∨ s.scanOffers = true →
          exec (.scanStop src tag []) s = .next (({ u with scan := idle } : State).mreply src tag 0x43 .ok []))
      ∧ (s.scan.st = .scanning → s.scanOffers = false →
          exec (.scanStop src tag []) s
            = .next (({ u with scan := { s.scan with stopPending := true } } : State).mreply src tag 0x43 .ok [])))
    ∧ ∀ (s : State) (e : Nat), s.online = true → s.scan.st = .waiting → s.scan.waitEnd = some e →
        let c := s.cfg.scan
        let passEnd := s.scan.passStart + c.period * 1000
        let stop := max s.scan.pos c.len
        let v : State := { s with scan := { s.scan with freshSkips := s.skipCount s.scan.pos stop } }
        let leaves (n : Scanner) : Prop :=
          ∃ t, exec .scanWaitEnd s = .next t ∧ t.scan = n ∧ t.cport = s.cport ∧ s.settingsKept t
        (s.mono < e → exec .scanWaitEnd s = .next s)
        ∧ (e ≤ s.mono → c.len ≤ 32 → s.scan.running ≠ .single →
            (∀ j, s.skips s.scan.pos j → s.dueEntry j →
              leaves
                { s.scan with
                  st := .scanning, pos := j, waitEnd := none, freshSkips := s.skipCount s.scan.pos j })
            ∧ (s.skips s.scan.pos stop →
                (s.scan.running = .sequence →
                  leaves { v.scan with st := .idle, pos := stop, waitEnd := none, stopPending := false })
                ∧ (s.scan.running = .repeating → s.mono < passEnd →
                    leaves { v.scan with pos := stop, waitEnd := some passEnd })
                ∧ (s.scan.running = .repeating → passEnd ≤ s.mono →
                    (∀ j, s.skips c.startIdx j → s.dueEntry j →
                      leaves
                        { s.scan with
                          st := .scanning, pos := j, passStart := s.mono, waitEnd := none
                          freshSkips := v.skipCount c.startIdx j })
                    ∧ (1 ≤ c.period → c.startIdx ≤ c.len → s.skips c.startIdx c.len →
                        leaves
                          { s.scan with
                            pos := c.len, passStart := s.mono, waitEnd := some (s.mono + c.period * 1000)
                            freshSkips := v.skipCount c.startIdx c.len }))))

/-- The access state changes as R187's table says; SAVE fixes the working tables and the mode for the store write and
answers ACCEPTED; STORE_COMPLETION ends it, the fixed contents becoming the valid image or SAVE_FAILED being raised
with the image left invalid, and has no effect with no SAVE under way; WARM RESET begins the drain and answers
ACCEPTED (R187, R190, R192). That the store's outcome comes from outside is log 8. -/
def Obligations.AccessSaveAndWarmReset : Prop :=
  (∀ (src tag : Byte) (s : State), s.managed src = true →
    let u := s.hunt .c
    (∀ code : List Byte, code.length = 16 → s.saving = none →
      (s.access = .isOpen ∨ s.access = .unlocked →
        exec (.unlock src tag code) s = .next (u.mreply src tag 0x60 .ok []))
      ∧ (s.access = .frozen → exec (.unlock src tag code) s = .next (u.mreply src tag 0x60 .frozen []))
      ∧ (s.access = .locked → code = s.cfg.code →
          exec (.unlock src tag code) s
            = .next (({ u with access := .unlocked, unlocks := 4 } : State).mreply src tag 0x60 .ok []))
      ∧ (s.access = .locked → code ≠ s.cfg.code →
          exec (.unlock src tag code) s
            = .next
                (({ u with
                    unlocks := s.unlocks - 1
                    access := if s.unlocks - 1 = 0 then .frozen else .locked } : State).mreply src tag 0x60 .badCode
                  [])))
    ∧ exec (.freeze src tag []) s = .next (({ u with access := .frozen } : State).mreply src tag 0x63 .ok [])
    ∧ (s.admits = true →
        exec (.lock src tag []) s
            = .next
                (({ u with access := if s.access = .unlocked then .locked else s.access } : State).mreply
                  src tag 0x61 .ok [])
        ∧ (∀ code : List Byte, code.length = 16 →
            exec (.setAccessCode src tag code) s
              = .next
                  (({ u with
                      cfg := { s.cfg with code := code }
                      unlocks := 4
                      access := if code = noCode then .isOpen else .unlocked } : State).mreply src tag 0x62 .ok []))
        ∧ exec (.save src tag []) s
            = .next
                (({ u with
                    saving := some ⟨s.cfg, if s.mode = .draining then .pass else s.mode⟩
                    imageValid := false } : State).mreply src tag 0x70 .accepted [])
        ∧ exec (.warmReset src tag []) s
            = .next (({ u with drain := .running false } : State).mreply src tag 0x71 .accepted [])))
    ∧ ∀ (ok : Bool) (s : State), s.online = true →
        (s.saving = none → exec (.storeCompletion ok) s = .next s)
        ∧ ∀ x, s.saving = some x →
            exec (.storeCompletion ok) s
              = .next
                  (if ok then { s with image := x, imageValid := true, saving := none }
                   else { s with saving := none, flags := { s.flags with saveFailed := true } })

/-- A guarded request that is refused changes nothing but the answer. With a wrong length it is answered BAD_LENGTH
in every access state and during a SAVE; with a right one FROZEN or ACCESS by the access state; and during a SAVE,
admitted, RANGE or BUSY: BUSY where it has no fields, but for SCAN START. A WRITE GROUP with an index above 31 and a
WRITE SCAN LIST with a first position above 31 are answered RANGE or BUSY then by an order of the part, which the rules
leave open and the statement holds for either way; where that order puts BUSY first, every such write is answered BUSY.
UNLOCK alone is admitted in LOCKED, and is answered BUSY during a SAVE (R138, R175, R181, R182, R183, R187). The length
of a kind or form outside its list is log 16, the open order of the two writes log 29. -/
def Obligations.GuardedRequestsRefused : Prop :=
  (∀ (src tag : Byte) (fields : List Byte) (s : State) (q : Req) (i : Instr),
    s.managed src = true → fields.length ≤ 31 → (q, i) ∈ guardedCommands src tag fields →
    let refused (res : Res) : Prop := exec i s = .next ((s.hunt .c).mreply src tag q.code res [])
    (guardedLength q fields = false → refused .badLength)
    ∧ (guardedLength q fields = true →
        (s.access = .frozen → refused .frozen)
        ∧ (s.access = .locked → refused .access)
        ∧ (s.access = .isOpen ∨ s.access = .unlocked → s.saving.isSome = true →
            (refused .range ∨ refused .busy)
            ∧ (fields = [] ∧ q ≠ .scanStart → refused .busy)
            ∧ (q = .writeGroup →
                (Config.groupSaveFirst = true → refused .busy)
                ∧ ∀ j bs, fields = j :: bs → 31 < j.toNat →
                    refused (if Config.groupSaveFirst = true then .busy else .range))
            ∧ (q = .writeScanList →
                (Config.scanListSaveFirst = true → refused .busy)
                ∧ ∀ len first bs, fields = 0 :: len :: first :: bs → 31 < first.toNat →
                    refused (if Config.scanListSaveFirst = true then .busy else .range)))))
    ∧ ∀ (src tag : Byte) (code : List Byte) (s : State), s.managed src = true → code.length ≤ 31 →
        let refused (res : Res) : Prop := exec (.unlock src tag code) s = .next ((s.hunt .c).mreply src tag 0x60 res [])
        (code.length ≠ 16 → refused .badLength)
        ∧ (code.length = 16 →
            (s.access = .frozen → refused .frozen)
            ∧ (s.access ≠ .frozen → s.saving.isSome = true → refused .busy))
end

