-- ==== Sys2Proof/Laws/State.lean ====
section
/-! SUPPORT. What each named update of the state leaves alone, field by field. -/

namespace Sys2Proof.Machine

variable (s : State)

/-! ### setSt -/

@[simp] theorem State.setSt_online (a : Nat) (r : Station) : (s.setSt a r).online = s.online := by cases a <;> rfl
@[simp] theorem State.setSt_straps (a : Nat) (r : Station) : (s.setSt a r).straps = s.straps := by cases a <;> rfl
@[simp] theorem State.setSt_mono (a : Nat) (r : Station) : (s.setSt a r).mono = s.mono := by cases a <;> rfl
@[simp] theorem State.setSt_frac (a : Nat) (r : Station) : (s.setSt a r).frac = s.frac := by cases a <;> rfl
@[simp] theorem State.setSt_cport (a : Nat) (r : Station) : (s.setSt a r).cport = s.cport := by cases a <;> rfl
@[simp] theorem State.setSt_fport (a : Nat) (r : Station) : (s.setSt a r).fport = s.fport := by cases a <;> rfl
@[simp] theorem State.setSt_answers (a : Nat) (r : Station) : (s.setSt a r).answers = s.answers := by cases a <;> rfl
@[simp] theorem State.setSt_fwd (a : Nat) (r : Station) : (s.setSt a r).fwd = s.fwd := by cases a <;> rfl
@[simp] theorem State.setSt_master (a : Nat) (r : Station) : (s.setSt a r).master = s.master := by cases a <;> rfl
@[simp] theorem State.setSt_parkQ (a : Nat) (r : Station) : (s.setSt a r).parkQ = s.parkQ := by cases a <;> rfl
@[simp] theorem State.setSt_demandQ (a : Nat) (r : Station) : (s.setSt a r).demandQ = s.demandQ := by cases a <;> rfl
@[simp] theorem State.setSt_schedQ (a : Nat) (r : Station) : (s.setSt a r).schedQ = s.schedQ := by cases a <;> rfl
@[simp] theorem State.setSt_starved (a : Nat) (r : Station) : (s.setSt a r).starved = s.starved := by cases a <;> rfl
@[simp] theorem State.setSt_zones (a : Nat) (r : Station) : (s.setSt a r).zones = s.zones := by cases a <;> rfl
@[simp] theorem State.setSt_clock (a : Nat) (r : Station) : (s.setSt a r).clock = s.clock := by cases a <;> rfl
@[simp] theorem State.setSt_mode (a : Nat) (r : Station) : (s.setSt a r).mode = s.mode := by cases a <;> rfl
@[simp] theorem State.setSt_timeRange (a : Nat) (r : Station) : (s.setSt a r).timeRange = s.timeRange := by cases a <;> rfl
@[simp] theorem State.setSt_scan (a : Nat) (r : Station) : (s.setSt a r).scan = s.scan := by cases a <;> rfl
@[simp] theorem State.setSt_cfg (a : Nat) (r : Station) : (s.setSt a r).cfg = s.cfg := by cases a <;> rfl
@[simp] theorem State.setSt_access (a : Nat) (r : Station) : (s.setSt a r).access = s.access := by cases a <;> rfl
@[simp] theorem State.setSt_unlocks (a : Nat) (r : Station) : (s.setSt a r).unlocks = s.unlocks := by cases a <;> rfl
@[simp] theorem State.setSt_flags (a : Nat) (r : Station) : (s.setSt a r).flags = s.flags := by cases a <;> rfl
@[simp] theorem State.setSt_image (a : Nat) (r : Station) : (s.setSt a r).image = s.image := by cases a <;> rfl
@[simp] theorem State.setSt_imageValid (a : Nat) (r : Station) : (s.setSt a r).imageValid = s.imageValid := by cases a <;> rfl
@[simp] theorem State.setSt_saving (a : Nat) (r : Station) : (s.setSt a r).saving = s.saving := by cases a <;> rfl
@[simp] theorem State.setSt_drain (a : Nat) (r : Station) : (s.setSt a r).drain = s.drain := by cases a <;> rfl
@[simp] theorem State.setSt_pending (a : Nat) (r : Station) : (s.setSt a r).pending = s.pending := by cases a <;> rfl

/-! ### modSt -/

@[simp] theorem State.modSt_online (a : Nat) (f : Station → Station) : (s.modSt a f).online = s.online := by cases a <;> rfl
@[simp] theorem State.modSt_straps (a : Nat) (f : Station → Station) : (s.modSt a f).straps = s.straps := by cases a <;> rfl
@[simp] theorem State.modSt_mono (a : Nat) (f : Station → Station) : (s.modSt a f).mono = s.mono := by cases a <;> rfl
@[simp] theorem State.modSt_frac (a : Nat) (f : Station → Station) : (s.modSt a f).frac = s.frac := by cases a <;> rfl
@[simp] theorem State.modSt_cport (a : Nat) (f : Station → Station) : (s.modSt a f).cport = s.cport := by cases a <;> rfl
@[simp] theorem State.modSt_fport (a : Nat) (f : Station → Station) : (s.modSt a f).fport = s.fport := by cases a <;> rfl
@[simp] theorem State.modSt_answers (a : Nat) (f : Station → Station) : (s.modSt a f).answers = s.answers := by cases a <;> rfl
@[simp] theorem State.modSt_fwd (a : Nat) (f : Station → Station) : (s.modSt a f).fwd = s.fwd := by cases a <;> rfl
@[simp] theorem State.modSt_master (a : Nat) (f : Station → Station) : (s.modSt a f).master = s.master := by cases a <;> rfl
@[simp] theorem State.modSt_parkQ (a : Nat) (f : Station → Station) : (s.modSt a f).parkQ = s.parkQ := by cases a <;> rfl
@[simp] theorem State.modSt_demandQ (a : Nat) (f : Station → Station) : (s.modSt a f).demandQ = s.demandQ := by cases a <;> rfl
@[simp] theorem State.modSt_schedQ (a : Nat) (f : Station → Station) : (s.modSt a f).schedQ = s.schedQ := by cases a <;> rfl
@[simp] theorem State.modSt_starved (a : Nat) (f : Station → Station) : (s.modSt a f).starved = s.starved := by cases a <;> rfl
@[simp] theorem State.modSt_zones (a : Nat) (f : Station → Station) : (s.modSt a f).zones = s.zones := by cases a <;> rfl
@[simp] theorem State.modSt_clock (a : Nat) (f : Station → Station) : (s.modSt a f).clock = s.clock := by cases a <;> rfl
@[simp] theorem State.modSt_mode (a : Nat) (f : Station → Station) : (s.modSt a f).mode = s.mode := by cases a <;> rfl
@[simp] theorem State.modSt_timeRange (a : Nat) (f : Station → Station) : (s.modSt a f).timeRange = s.timeRange := by cases a <;> rfl
@[simp] theorem State.modSt_scan (a : Nat) (f : Station → Station) : (s.modSt a f).scan = s.scan := by cases a <;> rfl
@[simp] theorem State.modSt_cfg (a : Nat) (f : Station → Station) : (s.modSt a f).cfg = s.cfg := by cases a <;> rfl
@[simp] theorem State.modSt_access (a : Nat) (f : Station → Station) : (s.modSt a f).access = s.access := by cases a <;> rfl
@[simp] theorem State.modSt_unlocks (a : Nat) (f : Station → Station) : (s.modSt a f).unlocks = s.unlocks := by cases a <;> rfl
@[simp] theorem State.modSt_flags (a : Nat) (f : Station → Station) : (s.modSt a f).flags = s.flags := by cases a <;> rfl
@[simp] theorem State.modSt_image (a : Nat) (f : Station → Station) : (s.modSt a f).image = s.image := by cases a <;> rfl
@[simp] theorem State.modSt_imageValid (a : Nat) (f : Station → Station) : (s.modSt a f).imageValid = s.imageValid := by cases a <;> rfl
@[simp] theorem State.modSt_saving (a : Nat) (f : Station → Station) : (s.modSt a f).saving = s.saving := by cases a <;> rfl
@[simp] theorem State.modSt_drain (a : Nat) (f : Station → Station) : (s.modSt a f).drain = s.drain := by cases a <;> rfl
@[simp] theorem State.modSt_pending (a : Nat) (f : Station → Station) : (s.modSt a f).pending = s.pending := by cases a <;> rfl

/-! ### setPol -/

@[simp] theorem State.setPol_online (a : Nat) (p : Policy) : (s.setPol a p).online = s.online := by cases a <;> rfl
@[simp] theorem State.setPol_straps (a : Nat) (p : Policy) : (s.setPol a p).straps = s.straps := by cases a <;> rfl
@[simp] theorem State.setPol_mono (a : Nat) (p : Policy) : (s.setPol a p).mono = s.mono := by cases a <;> rfl
@[simp] theorem State.setPol_frac (a : Nat) (p : Policy) : (s.setPol a p).frac = s.frac := by cases a <;> rfl
@[simp] theorem State.setPol_cport (a : Nat) (p : Policy) : (s.setPol a p).cport = s.cport := by cases a <;> rfl
@[simp] theorem State.setPol_fport (a : Nat) (p : Policy) : (s.setPol a p).fport = s.fport := by cases a <;> rfl
@[simp] theorem State.setPol_answers (a : Nat) (p : Policy) : (s.setPol a p).answers = s.answers := by cases a <;> rfl
@[simp] theorem State.setPol_fwd (a : Nat) (p : Policy) : (s.setPol a p).fwd = s.fwd := by cases a <;> rfl
@[simp] theorem State.setPol_master (a : Nat) (p : Policy) : (s.setPol a p).master = s.master := by cases a <;> rfl
@[simp] theorem State.setPol_stations (a : Nat) (p : Policy) : (s.setPol a p).stations = s.stations := by cases a <;> rfl
@[simp] theorem State.setPol_parkQ (a : Nat) (p : Policy) : (s.setPol a p).parkQ = s.parkQ := by cases a <;> rfl
@[simp] theorem State.setPol_demandQ (a : Nat) (p : Policy) : (s.setPol a p).demandQ = s.demandQ := by cases a <;> rfl
@[simp] theorem State.setPol_schedQ (a : Nat) (p : Policy) : (s.setPol a p).schedQ = s.schedQ := by cases a <;> rfl
@[simp] theorem State.setPol_starved (a : Nat) (p : Policy) : (s.setPol a p).starved = s.starved := by cases a <;> rfl
@[simp] theorem State.setPol_zones (a : Nat) (p : Policy) : (s.setPol a p).zones = s.zones := by cases a <;> rfl
@[simp] theorem State.setPol_clock (a : Nat) (p : Policy) : (s.setPol a p).clock = s.clock := by cases a <;> rfl
@[simp] theorem State.setPol_mode (a : Nat) (p : Policy) : (s.setPol a p).mode = s.mode := by cases a <;> rfl
@[simp] theorem State.setPol_timeRange (a : Nat) (p : Policy) : (s.setPol a p).timeRange = s.timeRange := by cases a <;> rfl
@[simp] theorem State.setPol_scan (a : Nat) (p : Policy) : (s.setPol a p).scan = s.scan := by cases a <;> rfl
@[simp] theorem State.setPol_access (a : Nat) (p : Policy) : (s.setPol a p).access = s.access := by cases a <;> rfl
@[simp] theorem State.setPol_unlocks (a : Nat) (p : Policy) : (s.setPol a p).unlocks = s.unlocks := by cases a <;> rfl
@[simp] theorem State.setPol_flags (a : Nat) (p : Policy) : (s.setPol a p).flags = s.flags := by cases a <;> rfl
@[simp] theorem State.setPol_image (a : Nat) (p : Policy) : (s.setPol a p).image = s.image := by cases a <;> rfl
@[simp] theorem State.setPol_imageValid (a : Nat) (p : Policy) : (s.setPol a p).imageValid = s.imageValid := by cases a <;> rfl
@[simp] theorem State.setPol_saving (a : Nat) (p : Policy) : (s.setPol a p).saving = s.saving := by cases a <;> rfl
@[simp] theorem State.setPol_drain (a : Nat) (p : Policy) : (s.setPol a p).drain = s.drain := by cases a <;> rfl
@[simp] theorem State.setPol_pending (a : Nat) (p : Policy) : (s.setPol a p).pending = s.pending := by cases a <;> rfl

/-! ### setPort -/

@[simp] theorem State.setPort_online (p : Port) (q : PortState) : (s.setPort p q).online = s.online := by cases p <;> rfl
@[simp] theorem State.setPort_straps (p : Port) (q : PortState) : (s.setPort p q).straps = s.straps := by cases p <;> rfl
@[simp] theorem State.setPort_mono (p : Port) (q : PortState) : (s.setPort p q).mono = s.mono := by cases p <;> rfl
@[simp] theorem State.setPort_frac (p : Port) (q : PortState) : (s.setPort p q).frac = s.frac := by cases p <;> rfl
@[simp] theorem State.setPort_answers (p : Port) (q : PortState) : (s.setPort p q).answers = s.answers := by cases p <;> rfl
@[simp] theorem State.setPort_fwd (p : Port) (q : PortState) : (s.setPort p q).fwd = s.fwd := by cases p <;> rfl
@[simp] theorem State.setPort_master (p : Port) (q : PortState) : (s.setPort p q).master = s.master := by cases p <;> rfl
@[simp] theorem State.setPort_stations (p : Port) (q : PortState) : (s.setPort p q).stations = s.stations := by cases p <;> rfl
@[simp] theorem State.setPort_parkQ (p : Port) (q : PortState) : (s.setPort p q).parkQ = s.parkQ := by cases p <;> rfl
@[simp] theorem State.setPort_demandQ (p : Port) (q : PortState) : (s.setPort p q).demandQ = s.demandQ := by cases p <;> rfl
@[simp] theorem State.setPort_schedQ (p : Port) (q : PortState) : (s.setPort p q).schedQ = s.schedQ := by cases p <;> rfl
@[simp] theorem State.setPort_starved (p : Port) (q : PortState) : (s.setPort p q).starved = s.starved := by cases p <;> rfl
@[simp] theorem State.setPort_zones (p : Port) (q : PortState) : (s.setPort p q).zones = s.zones := by cases p <;> rfl
@[simp] theorem State.setPort_clock (p : Port) (q : PortState) : (s.setPort p q).clock = s.clock := by cases p <;> rfl
@[simp] theorem State.setPort_mode (p : Port) (q : PortState) : (s.setPort p q).mode = s.mode := by cases p <;> rfl
@[simp] theorem State.setPort_timeRange (p : Port) (q : PortState) : (s.setPort p q).timeRange = s.timeRange := by cases p <;> rfl
@[simp] theorem State.setPort_scan (p : Port) (q : PortState) : (s.setPort p q).scan = s.scan := by cases p <;> rfl
@[simp] theorem State.setPort_cfg (p : Port) (q : PortState) : (s.setPort p q).cfg = s.cfg := by cases p <;> rfl
@[simp] theorem State.setPort_access (p : Port) (q : PortState) : (s.setPort p q).access = s.access := by cases p <;> rfl
@[simp] theorem State.setPort_unlocks (p : Port) (q : PortState) : (s.setPort p q).unlocks = s.unlocks := by cases p <;> rfl
@[simp] theorem State.setPort_flags (p : Port) (q : PortState) : (s.setPort p q).flags = s.flags := by cases p <;> rfl
@[simp] theorem State.setPort_image (p : Port) (q : PortState) : (s.setPort p q).image = s.image := by cases p <;> rfl
@[simp] theorem State.setPort_imageValid (p : Port) (q : PortState) : (s.setPort p q).imageValid = s.imageValid := by cases p <;> rfl
@[simp] theorem State.setPort_saving (p : Port) (q : PortState) : (s.setPort p q).saving = s.saving := by cases p <;> rfl
@[simp] theorem State.setPort_drain (p : Port) (q : PortState) : (s.setPort p q).drain = s.drain := by cases p <;> rfl
@[simp] theorem State.setPort_pending (p : Port) (q : PortState) : (s.setPort p q).pending = s.pending := by cases p <;> rfl

/-! ### hunt -/

@[simp] theorem State.hunt_online (p : Port) : (s.hunt p).online = s.online := by cases p <;> rfl
@[simp] theorem State.hunt_straps (p : Port) : (s.hunt p).straps = s.straps := by cases p <;> rfl
@[simp] theorem State.hunt_mono (p : Port) : (s.hunt p).mono = s.mono := by cases p <;> rfl
@[simp] theorem State.hunt_frac (p : Port) : (s.hunt p).frac = s.frac := by cases p <;> rfl
@[simp] theorem State.hunt_answers (p : Port) : (s.hunt p).answers = s.answers := by cases p <;> rfl
@[simp] theorem State.hunt_fwd (p : Port) : (s.hunt p).fwd = s.fwd := by cases p <;> rfl
@[simp] theorem State.hunt_master (p : Port) : (s.hunt p).master = s.master := by cases p <;> rfl
@[simp] theorem State.hunt_stations (p : Port) : (s.hunt p).stations = s.stations := by cases p <;> rfl
@[simp] theorem State.hunt_parkQ (p : Port) : (s.hunt p).parkQ = s.parkQ := by cases p <;> rfl
@[simp] theorem State.hunt_demandQ (p : Port) : (s.hunt p).demandQ = s.demandQ := by cases p <;> rfl
@[simp] theorem State.hunt_schedQ (p : Port) : (s.hunt p).schedQ = s.schedQ := by cases p <;> rfl
@[simp] theorem State.hunt_starved (p : Port) : (s.hunt p).starved = s.starved := by cases p <;> rfl
@[simp] theorem State.hunt_zones (p : Port) : (s.hunt p).zones = s.zones := by cases p <;> rfl
@[simp] theorem State.hunt_clock (p : Port) : (s.hunt p).clock = s.clock := by cases p <;> rfl
@[simp] theorem State.hunt_mode (p : Port) : (s.hunt p).mode = s.mode := by cases p <;> rfl
@[simp] theorem State.hunt_timeRange (p : Port) : (s.hunt p).timeRange = s.timeRange := by cases p <;> rfl
@[simp] theorem State.hunt_scan (p : Port) : (s.hunt p).scan = s.scan := by cases p <;> rfl
@[simp] theorem State.hunt_cfg (p : Port) : (s.hunt p).cfg = s.cfg := by cases p <;> rfl
@[simp] theorem State.hunt_access (p : Port) : (s.hunt p).access = s.access := by cases p <;> rfl
@[simp] theorem State.hunt_unlocks (p : Port) : (s.hunt p).unlocks = s.unlocks := by cases p <;> rfl
@[simp] theorem State.hunt_flags (p : Port) : (s.hunt p).flags = s.flags := by cases p <;> rfl
@[simp] theorem State.hunt_image (p : Port) : (s.hunt p).image = s.image := by cases p <;> rfl
@[simp] theorem State.hunt_imageValid (p : Port) : (s.hunt p).imageValid = s.imageValid := by cases p <;> rfl
@[simp] theorem State.hunt_saving (p : Port) : (s.hunt p).saving = s.saving := by cases p <;> rfl
@[simp] theorem State.hunt_drain (p : Port) : (s.hunt p).drain = s.drain := by cases p <;> rfl
@[simp] theorem State.hunt_pending (p : Port) : (s.hunt p).pending = s.pending := by cases p <;> rfl

/-! ### raise -/

@[simp] theorem State.raise_online (x : Flag) : (s.raise x).online = s.online := rfl
@[simp] theorem State.raise_straps (x : Flag) : (s.raise x).straps = s.straps := rfl
@[simp] theorem State.raise_mono (x : Flag) : (s.raise x).mono = s.mono := rfl
@[simp] theorem State.raise_frac (x : Flag) : (s.raise x).frac = s.frac := rfl
@[simp] theorem State.raise_cport (x : Flag) : (s.raise x).cport = s.cport := rfl
@[simp] theorem State.raise_fport (x : Flag) : (s.raise x).fport = s.fport := rfl
@[simp] theorem State.raise_answers (x : Flag) : (s.raise x).answers = s.answers := rfl
@[simp] theorem State.raise_fwd (x : Flag) : (s.raise x).fwd = s.fwd := rfl
@[simp] theorem State.raise_master (x : Flag) : (s.raise x).master = s.master := rfl
@[simp] theorem State.raise_stations (x : Flag) : (s.raise x).stations = s.stations := rfl
@[simp] theorem State.raise_parkQ (x : Flag) : (s.raise x).parkQ = s.parkQ := rfl
@[simp] theorem State.raise_demandQ (x : Flag) : (s.raise x).demandQ = s.demandQ := rfl
@[simp] theorem State.raise_schedQ (x : Flag) : (s.raise x).schedQ = s.schedQ := rfl
@[simp] theorem State.raise_starved (x : Flag) : (s.raise x).starved = s.starved := rfl
@[simp] theorem State.raise_zones (x : Flag) : (s.raise x).zones = s.zones := rfl
@[simp] theorem State.raise_clock (x : Flag) : (s.raise x).clock = s.clock := rfl
@[simp] theorem State.raise_mode (x : Flag) : (s.raise x).mode = s.mode := rfl
@[simp] theorem State.raise_timeRange (x : Flag) : (s.raise x).timeRange = s.timeRange := rfl
@[simp] theorem State.raise_scan (x : Flag) : (s.raise x).scan = s.scan := rfl
@[simp] theorem State.raise_cfg (x : Flag) : (s.raise x).cfg = s.cfg := rfl
@[simp] theorem State.raise_access (x : Flag) : (s.raise x).access = s.access := rfl
@[simp] theorem State.raise_unlocks (x : Flag) : (s.raise x).unlocks = s.unlocks := rfl
@[simp] theorem State.raise_image (x : Flag) : (s.raise x).image = s.image := rfl
@[simp] theorem State.raise_imageValid (x : Flag) : (s.raise x).imageValid = s.imageValid := rfl
@[simp] theorem State.raise_saving (x : Flag) : (s.raise x).saving = s.saving := rfl
@[simp] theorem State.raise_drain (x : Flag) : (s.raise x).drain = s.drain := rfl
@[simp] theorem State.raise_pending (x : Flag) : (s.raise x).pending = s.pending := rfl

/-! ### setZone -/

@[simp] theorem State.setZone_online (z : Nat) (r : Zone) : (s.setZone z r).online = s.online := rfl
@[simp] theorem State.setZone_straps (z : Nat) (r : Zone) : (s.setZone z r).straps = s.straps := rfl
@[simp] theorem State.setZone_mono (z : Nat) (r : Zone) : (s.setZone z r).mono = s.mono := rfl
@[simp] theorem State.setZone_frac (z : Nat) (r : Zone) : (s.setZone z r).frac = s.frac := rfl
@[simp] theorem State.setZone_cport (z : Nat) (r : Zone) : (s.setZone z r).cport = s.cport := rfl
@[simp] theorem State.setZone_fport (z : Nat) (r : Zone) : (s.setZone z r).fport = s.fport := rfl
@[simp] theorem State.setZone_answers (z : Nat) (r : Zone) : (s.setZone z r).answers = s.answers := rfl
@[simp] theorem State.setZone_fwd (z : Nat) (r : Zone) : (s.setZone z r).fwd = s.fwd := rfl
@[simp] theorem State.setZone_master (z : Nat) (r : Zone) : (s.setZone z r).master = s.master := rfl
@[simp] theorem State.setZone_stations (z : Nat) (r : Zone) : (s.setZone z r).stations = s.stations := rfl
@[simp] theorem State.setZone_parkQ (z : Nat) (r : Zone) : (s.setZone z r).parkQ = s.parkQ := rfl
@[simp] theorem State.setZone_demandQ (z : Nat) (r : Zone) : (s.setZone z r).demandQ = s.demandQ := rfl
@[simp] theorem State.setZone_schedQ (z : Nat) (r : Zone) : (s.setZone z r).schedQ = s.schedQ := rfl
@[simp] theorem State.setZone_starved (z : Nat) (r : Zone) : (s.setZone z r).starved = s.starved := rfl
@[simp] theorem State.setZone_clock (z : Nat) (r : Zone) : (s.setZone z r).clock = s.clock := rfl
@[simp] theorem State.setZone_mode (z : Nat) (r : Zone) : (s.setZone z r).mode = s.mode := rfl
@[simp] theorem State.setZone_timeRange (z : Nat) (r : Zone) : (s.setZone z r).timeRange = s.timeRange := rfl
@[simp] theorem State.setZone_scan (z : Nat) (r : Zone) : (s.setZone z r).scan = s.scan := rfl
@[simp] theorem State.setZone_cfg (z : Nat) (r : Zone) : (s.setZone z r).cfg = s.cfg := rfl
@[simp] theorem State.setZone_access (z : Nat) (r : Zone) : (s.setZone z r).access = s.access := rfl
@[simp] theorem State.setZone_unlocks (z : Nat) (r : Zone) : (s.setZone z r).unlocks = s.unlocks := rfl
@[simp] theorem State.setZone_flags (z : Nat) (r : Zone) : (s.setZone z r).flags = s.flags := rfl
@[simp] theorem State.setZone_image (z : Nat) (r : Zone) : (s.setZone z r).image = s.image := rfl
@[simp] theorem State.setZone_imageValid (z : Nat) (r : Zone) : (s.setZone z r).imageValid = s.imageValid := rfl
@[simp] theorem State.setZone_saving (z : Nat) (r : Zone) : (s.setZone z r).saving = s.saving := rfl
@[simp] theorem State.setZone_drain (z : Nat) (r : Zone) : (s.setZone z r).drain = s.drain := rfl
@[simp] theorem State.setZone_pending (z : Nat) (r : Zone) : (s.setZone z r).pending = s.pending := rfl

/-! ### dequeue -/

@[simp] theorem State.dequeue_online (a : Nat) : (s.dequeue a).online = s.online := rfl
@[simp] theorem State.dequeue_straps (a : Nat) : (s.dequeue a).straps = s.straps := rfl
@[simp] theorem State.dequeue_mono (a : Nat) : (s.dequeue a).mono = s.mono := rfl
@[simp] theorem State.dequeue_frac (a : Nat) : (s.dequeue a).frac = s.frac := rfl
@[simp] theorem State.dequeue_cport (a : Nat) : (s.dequeue a).cport = s.cport := rfl
@[simp] theorem State.dequeue_fport (a : Nat) : (s.dequeue a).fport = s.fport := rfl
@[simp] theorem State.dequeue_answers (a : Nat) : (s.dequeue a).answers = s.answers := rfl
@[simp] theorem State.dequeue_fwd (a : Nat) : (s.dequeue a).fwd = s.fwd := rfl
@[simp] theorem State.dequeue_master (a : Nat) : (s.dequeue a).master = s.master := rfl
@[simp] theorem State.dequeue_stations (a : Nat) : (s.dequeue a).stations = s.stations := rfl
@[simp] theorem State.dequeue_starved (a : Nat) : (s.dequeue a).starved = s.starved := rfl
@[simp] theorem State.dequeue_zones (a : Nat) : (s.dequeue a).zones = s.zones := rfl
@[simp] theorem State.dequeue_clock (a : Nat) : (s.dequeue a).clock = s.clock := rfl
@[simp] theorem State.dequeue_mode (a : Nat) : (s.dequeue a).mode = s.mode := rfl
@[simp] theorem State.dequeue_timeRange (a : Nat) : (s.dequeue a).timeRange = s.timeRange := rfl
@[simp] theorem State.dequeue_scan (a : Nat) : (s.dequeue a).scan = s.scan := rfl
@[simp] theorem State.dequeue_cfg (a : Nat) : (s.dequeue a).cfg = s.cfg := rfl
@[simp] theorem State.dequeue_access (a : Nat) : (s.dequeue a).access = s.access := rfl
@[simp] theorem State.dequeue_unlocks (a : Nat) : (s.dequeue a).unlocks = s.unlocks := rfl
@[simp] theorem State.dequeue_flags (a : Nat) : (s.dequeue a).flags = s.flags := rfl
@[simp] theorem State.dequeue_image (a : Nat) : (s.dequeue a).image = s.image := rfl
@[simp] theorem State.dequeue_imageValid (a : Nat) : (s.dequeue a).imageValid = s.imageValid := rfl
@[simp] theorem State.dequeue_saving (a : Nat) : (s.dequeue a).saving = s.saving := rfl
@[simp] theorem State.dequeue_drain (a : Nat) : (s.dequeue a).drain = s.drain := rfl
@[simp] theorem State.dequeue_pending (a : Nat) : (s.dequeue a).pending = s.pending := rfl

/-! ### enqueue -/

@[simp] theorem State.enqueue_online (a : Nat) (q : Priority) : (s.enqueue a q).online = s.online := by cases q <;> rfl
@[simp] theorem State.enqueue_straps (a : Nat) (q : Priority) : (s.enqueue a q).straps = s.straps := by cases q <;> rfl
@[simp] theorem State.enqueue_mono (a : Nat) (q : Priority) : (s.enqueue a q).mono = s.mono := by cases q <;> rfl
@[simp] theorem State.enqueue_frac (a : Nat) (q : Priority) : (s.enqueue a q).frac = s.frac := by cases q <;> rfl
@[simp] theorem State.enqueue_cport (a : Nat) (q : Priority) : (s.enqueue a q).cport = s.cport := by cases q <;> rfl
@[simp] theorem State.enqueue_fport (a : Nat) (q : Priority) : (s.enqueue a q).fport = s.fport := by cases q <;> rfl
@[simp] theorem State.enqueue_answers (a : Nat) (q : Priority) : (s.enqueue a q).answers = s.answers := by cases q <;> rfl
@[simp] theorem State.enqueue_fwd (a : Nat) (q : Priority) : (s.enqueue a q).fwd = s.fwd := by cases q <;> rfl
@[simp] theorem State.enqueue_master (a : Nat) (q : Priority) : (s.enqueue a q).master = s.master := by cases q <;> rfl
@[simp] theorem State.enqueue_stations (a : Nat) (q : Priority) : (s.enqueue a q).stations = s.stations := by cases q <;> rfl
@[simp] theorem State.enqueue_parkQ (a : Nat) (q : Priority) : (s.enqueue a q).parkQ = s.parkQ := by cases q <;> rfl
@[simp] theorem State.enqueue_starved (a : Nat) (q : Priority) : (s.enqueue a q).starved = s.starved := by cases q <;> rfl
@[simp] theorem State.enqueue_zones (a : Nat) (q : Priority) : (s.enqueue a q).zones = s.zones := by cases q <;> rfl
@[simp] theorem State.enqueue_clock (a : Nat) (q : Priority) : (s.enqueue a q).clock = s.clock := by cases q <;> rfl
@[simp] theorem State.enqueue_mode (a : Nat) (q : Priority) : (s.enqueue a q).mode = s.mode := by cases q <;> rfl
@[simp] theorem State.enqueue_timeRange (a : Nat) (q : Priority) : (s.enqueue a q).timeRange = s.timeRange := by cases q <;> rfl
@[simp] theorem State.enqueue_scan (a : Nat) (q : Priority) : (s.enqueue a q).scan = s.scan := by cases q <;> rfl
@[simp] theorem State.enqueue_cfg (a : Nat) (q : Priority) : (s.enqueue a q).cfg = s.cfg := by cases q <;> rfl
@[simp] theorem State.enqueue_access (a : Nat) (q : Priority) : (s.enqueue a q).access = s.access := by cases q <;> rfl
@[simp] theorem State.enqueue_unlocks (a : Nat) (q : Priority) : (s.enqueue a q).unlocks = s.unlocks := by cases q <;> rfl
@[simp] theorem State.enqueue_flags (a : Nat) (q : Priority) : (s.enqueue a q).flags = s.flags := by cases q <;> rfl
@[simp] theorem State.enqueue_image (a : Nat) (q : Priority) : (s.enqueue a q).image = s.image := by cases q <;> rfl
@[simp] theorem State.enqueue_imageValid (a : Nat) (q : Priority) : (s.enqueue a q).imageValid = s.imageValid := by cases q <;> rfl
@[simp] theorem State.enqueue_saving (a : Nat) (q : Priority) : (s.enqueue a q).saving = s.saving := by cases q <;> rfl
@[simp] theorem State.enqueue_drain (a : Nat) (q : Priority) : (s.enqueue a q).drain = s.drain := by cases q <;> rfl
@[simp] theorem State.enqueue_pending (a : Nat) (q : Priority) : (s.enqueue a q).pending = s.pending := by cases q <;> rfl

/-! ### setStarved -/

@[simp] theorem State.setStarved_online (i : Nat) (b : Bool) : (s.setStarved i b).online = s.online := rfl
@[simp] theorem State.setStarved_straps (i : Nat) (b : Bool) : (s.setStarved i b).straps = s.straps := rfl
@[simp] theorem State.setStarved_mono (i : Nat) (b : Bool) : (s.setStarved i b).mono = s.mono := rfl
@[simp] theorem State.setStarved_frac (i : Nat) (b : Bool) : (s.setStarved i b).frac = s.frac := rfl
@[simp] theorem State.setStarved_cport (i : Nat) (b : Bool) : (s.setStarved i b).cport = s.cport := rfl
@[simp] theorem State.setStarved_fport (i : Nat) (b : Bool) : (s.setStarved i b).fport = s.fport := rfl
@[simp] theorem State.setStarved_answers (i : Nat) (b : Bool) : (s.setStarved i b).answers = s.answers := rfl
@[simp] theorem State.setStarved_fwd (i : Nat) (b : Bool) : (s.setStarved i b).fwd = s.fwd := rfl
@[simp] theorem State.setStarved_master (i : Nat) (b : Bool) : (s.setStarved i b).master = s.master := rfl
@[simp] theorem State.setStarved_stations (i : Nat) (b : Bool) : (s.setStarved i b).stations = s.stations := rfl
@[simp] theorem State.setStarved_parkQ (i : Nat) (b : Bool) : (s.setStarved i b).parkQ = s.parkQ := rfl
@[simp] theorem State.setStarved_demandQ (i : Nat) (b : Bool) : (s.setStarved i b).demandQ = s.demandQ := rfl
@[simp] theorem State.setStarved_schedQ (i : Nat) (b : Bool) : (s.setStarved i b).schedQ = s.schedQ := rfl
@[simp] theorem State.setStarved_zones (i : Nat) (b : Bool) : (s.setStarved i b).zones = s.zones := rfl
@[simp] theorem State.setStarved_clock (i : Nat) (b : Bool) : (s.setStarved i b).clock = s.clock := rfl
@[simp] theorem State.setStarved_mode (i : Nat) (b : Bool) : (s.setStarved i b).mode = s.mode := rfl
@[simp] theorem State.setStarved_timeRange (i : Nat) (b : Bool) : (s.setStarved i b).timeRange = s.timeRange := rfl
@[simp] theorem State.setStarved_scan (i : Nat) (b : Bool) : (s.setStarved i b).scan = s.scan := rfl
@[simp] theorem State.setStarved_cfg (i : Nat) (b : Bool) : (s.setStarved i b).cfg = s.cfg := rfl
@[simp] theorem State.setStarved_access (i : Nat) (b : Bool) : (s.setStarved i b).access = s.access := rfl
@[simp] theorem State.setStarved_unlocks (i : Nat) (b : Bool) : (s.setStarved i b).unlocks = s.unlocks := rfl
@[simp] theorem State.setStarved_flags (i : Nat) (b : Bool) : (s.setStarved i b).flags = s.flags := rfl
@[simp] theorem State.setStarved_image (i : Nat) (b : Bool) : (s.setStarved i b).image = s.image := rfl
@[simp] theorem State.setStarved_imageValid (i : Nat) (b : Bool) : (s.setStarved i b).imageValid = s.imageValid := rfl
@[simp] theorem State.setStarved_saving (i : Nat) (b : Bool) : (s.setStarved i b).saving = s.saving := rfl
@[simp] theorem State.setStarved_drain (i : Nat) (b : Bool) : (s.setStarved i b).drain = s.drain := rfl
@[simp] theorem State.setStarved_pending (i : Nat) (b : Bool) : (s.setStarved i b).pending = s.pending := rfl

/-! ### countFwd -/

@[simp] theorem State.countFwd_online (f : FwdCounters → FwdCounters) : (s.countFwd f).online = s.online := rfl
@[simp] theorem State.countFwd_straps (f : FwdCounters → FwdCounters) : (s.countFwd f).straps = s.straps := rfl
@[simp] theorem State.countFwd_mono (f : FwdCounters → FwdCounters) : (s.countFwd f).mono = s.mono := rfl
@[simp] theorem State.countFwd_frac (f : FwdCounters → FwdCounters) : (s.countFwd f).frac = s.frac := rfl
@[simp] theorem State.countFwd_cport (f : FwdCounters → FwdCounters) : (s.countFwd f).cport = s.cport := rfl
@[simp] theorem State.countFwd_fport (f : FwdCounters → FwdCounters) : (s.countFwd f).fport = s.fport := rfl
@[simp] theorem State.countFwd_answers (f : FwdCounters → FwdCounters) : (s.countFwd f).answers = s.answers := rfl
@[simp] theorem State.countFwd_master (f : FwdCounters → FwdCounters) : (s.countFwd f).master = s.master := rfl
@[simp] theorem State.countFwd_stations (f : FwdCounters → FwdCounters) : (s.countFwd f).stations = s.stations := rfl
@[simp] theorem State.countFwd_parkQ (f : FwdCounters → FwdCounters) : (s.countFwd f).parkQ = s.parkQ := rfl
@[simp] theorem State.countFwd_demandQ (f : FwdCounters → FwdCounters) : (s.countFwd f).demandQ = s.demandQ := rfl
@[simp] theorem State.countFwd_schedQ (f : FwdCounters → FwdCounters) : (s.countFwd f).schedQ = s.schedQ := rfl
@[simp] theorem State.countFwd_starved (f : FwdCounters → FwdCounters) : (s.countFwd f).starved = s.starved := rfl
@[simp] theorem State.countFwd_zones (f : FwdCounters → FwdCounters) : (s.countFwd f).zones = s.zones := rfl
@[simp] theorem State.countFwd_clock (f : FwdCounters → FwdCounters) : (s.countFwd f).clock = s.clock := rfl
@[simp] theorem State.countFwd_mode (f : FwdCounters → FwdCounters) : (s.countFwd f).mode = s.mode := rfl
@[simp] theorem State.countFwd_timeRange (f : FwdCounters → FwdCounters) : (s.countFwd f).timeRange = s.timeRange := rfl
@[simp] theorem State.countFwd_scan (f : FwdCounters → FwdCounters) : (s.countFwd f).scan = s.scan := rfl
@[simp] theorem State.countFwd_cfg (f : FwdCounters → FwdCounters) : (s.countFwd f).cfg = s.cfg := rfl
@[simp] theorem State.countFwd_access (f : FwdCounters → FwdCounters) : (s.countFwd f).access = s.access := rfl
@[simp] theorem State.countFwd_unlocks (f : FwdCounters → FwdCounters) : (s.countFwd f).unlocks = s.unlocks := rfl
@[simp] theorem State.countFwd_flags (f : FwdCounters → FwdCounters) : (s.countFwd f).flags = s.flags := rfl
@[simp] theorem State.countFwd_image (f : FwdCounters → FwdCounters) : (s.countFwd f).image = s.image := rfl
@[simp] theorem State.countFwd_imageValid (f : FwdCounters → FwdCounters) : (s.countFwd f).imageValid = s.imageValid := rfl
@[simp] theorem State.countFwd_saving (f : FwdCounters → FwdCounters) : (s.countFwd f).saving = s.saving := rfl
@[simp] theorem State.countFwd_drain (f : FwdCounters → FwdCounters) : (s.countFwd f).drain = s.drain := rfl
@[simp] theorem State.countFwd_pending (f : FwdCounters → FwdCounters) : (s.countFwd f).pending = s.pending := rfl

/-! ### setScan -/

@[simp] theorem State.setScan_online (c : Scanner) : (s.setScan c).online = s.online := rfl
@[simp] theorem State.setScan_straps (c : Scanner) : (s.setScan c).straps = s.straps := rfl
@[simp] theorem State.setScan_mono (c : Scanner) : (s.setScan c).mono = s.mono := rfl
@[simp] theorem State.setScan_frac (c : Scanner) : (s.setScan c).frac = s.frac := rfl
@[simp] theorem State.setScan_cport (c : Scanner) : (s.setScan c).cport = s.cport := rfl
@[simp] theorem State.setScan_fport (c : Scanner) : (s.setScan c).fport = s.fport := rfl
@[simp] theorem State.setScan_answers (c : Scanner) : (s.setScan c).answers = s.answers := rfl
@[simp] theorem State.setScan_fwd (c : Scanner) : (s.setScan c).fwd = s.fwd := rfl
@[simp] theorem State.setScan_master (c : Scanner) : (s.setScan c).master = s.master := rfl
@[simp] theorem State.setScan_stations (c : Scanner) : (s.setScan c).stations = s.stations := rfl
@[simp] theorem State.setScan_parkQ (c : Scanner) : (s.setScan c).parkQ = s.parkQ := rfl
@[simp] theorem State.setScan_demandQ (c : Scanner) : (s.setScan c).demandQ = s.demandQ := rfl
@[simp] theorem State.setScan_schedQ (c : Scanner) : (s.setScan c).schedQ = s.schedQ := rfl
@[simp] theorem State.setScan_starved (c : Scanner) : (s.setScan c).starved = s.starved := rfl
@[simp] theorem State.setScan_zones (c : Scanner) : (s.setScan c).zones = s.zones := rfl
@[simp] theorem State.setScan_clock (c : Scanner) : (s.setScan c).clock = s.clock := rfl
@[simp] theorem State.setScan_mode (c : Scanner) : (s.setScan c).mode = s.mode := rfl
@[simp] theorem State.setScan_timeRange (c : Scanner) : (s.setScan c).timeRange = s.timeRange := rfl
@[simp] theorem State.setScan_cfg (c : Scanner) : (s.setScan c).cfg = s.cfg := rfl
@[simp] theorem State.setScan_access (c : Scanner) : (s.setScan c).access = s.access := rfl
@[simp] theorem State.setScan_unlocks (c : Scanner) : (s.setScan c).unlocks = s.unlocks := rfl
@[simp] theorem State.setScan_flags (c : Scanner) : (s.setScan c).flags = s.flags := rfl
@[simp] theorem State.setScan_image (c : Scanner) : (s.setScan c).image = s.image := rfl
@[simp] theorem State.setScan_imageValid (c : Scanner) : (s.setScan c).imageValid = s.imageValid := rfl
@[simp] theorem State.setScan_saving (c : Scanner) : (s.setScan c).saving = s.saving := rfl
@[simp] theorem State.setScan_drain (c : Scanner) : (s.setScan c).drain = s.drain := rfl
@[simp] theorem State.setScan_pending (c : Scanner) : (s.setScan c).pending = s.pending := rfl

/-! ### setMaster -/

@[simp] theorem State.setMaster_online (m : Master) : (s.setMaster m).online = s.online := rfl
@[simp] theorem State.setMaster_straps (m : Master) : (s.setMaster m).straps = s.straps := rfl
@[simp] theorem State.setMaster_mono (m : Master) : (s.setMaster m).mono = s.mono := rfl
@[simp] theorem State.setMaster_frac (m : Master) : (s.setMaster m).frac = s.frac := rfl
@[simp] theorem State.setMaster_cport (m : Master) : (s.setMaster m).cport = s.cport := rfl
@[simp] theorem State.setMaster_fport (m : Master) : (s.setMaster m).fport = s.fport := rfl
@[simp] theorem State.setMaster_answers (m : Master) : (s.setMaster m).answers = s.answers := rfl
@[simp] theorem State.setMaster_fwd (m : Master) : (s.setMaster m).fwd = s.fwd := rfl
@[simp] theorem State.setMaster_stations (m : Master) : (s.setMaster m).stations = s.stations := rfl
@[simp] theorem State.setMaster_parkQ (m : Master) : (s.setMaster m).parkQ = s.parkQ := rfl
@[simp] theorem State.setMaster_demandQ (m : Master) : (s.setMaster m).demandQ = s.demandQ := rfl
@[simp] theorem State.setMaster_schedQ (m : Master) : (s.setMaster m).schedQ = s.schedQ := rfl
@[simp] theorem State.setMaster_starved (m : Master) : (s.setMaster m).starved = s.starved := rfl
@[simp] theorem State.setMaster_zones (m : Master) : (s.setMaster m).zones = s.zones := rfl
@[simp] theorem State.setMaster_clock (m : Master) : (s.setMaster m).clock = s.clock := rfl
@[simp] theorem State.setMaster_mode (m : Master) : (s.setMaster m).mode = s.mode := rfl
@[simp] theorem State.setMaster_timeRange (m : Master) : (s.setMaster m).timeRange = s.timeRange := rfl
@[simp] theorem State.setMaster_scan (m : Master) : (s.setMaster m).scan = s.scan := rfl
@[simp] theorem State.setMaster_cfg (m : Master) : (s.setMaster m).cfg = s.cfg := rfl
@[simp] theorem State.setMaster_access (m : Master) : (s.setMaster m).access = s.access := rfl
@[simp] theorem State.setMaster_unlocks (m : Master) : (s.setMaster m).unlocks = s.unlocks := rfl
@[simp] theorem State.setMaster_flags (m : Master) : (s.setMaster m).flags = s.flags := rfl
@[simp] theorem State.setMaster_image (m : Master) : (s.setMaster m).image = s.image := rfl
@[simp] theorem State.setMaster_imageValid (m : Master) : (s.setMaster m).imageValid = s.imageValid := rfl
@[simp] theorem State.setMaster_saving (m : Master) : (s.setMaster m).saving = s.saving := rfl
@[simp] theorem State.setMaster_drain (m : Master) : (s.setMaster m).drain = s.drain := rfl
@[simp] theorem State.setMaster_pending (m : Master) : (s.setMaster m).pending = s.pending := rfl

/-! ### The fields the updates write -/

@[simp] theorem State.setMaster_master (m : Master) : (s.setMaster m).master = m := rfl
@[simp] theorem State.setScan_scan (c : Scanner) : (s.setScan c).scan = c := rfl
@[simp] theorem State.raise_flags (x : Flag) : (s.raise x).flags = s.flags.raised x := rfl
@[simp] theorem State.countFwd_posted (f : FwdCounters → FwdCounters) :
    (s.countFwd f).fwd.posted = s.fwd.posted := rfl
@[simp] theorem State.countFwd_delayed (f : FwdCounters → FwdCounters) :
    (s.countFwd f).fwd.delayed = s.fwd.delayed := rfl
@[simp] theorem State.setPort_port (p : Port) (q : PortState) : (s.setPort p q).port p = q := by cases p <;> rfl
@[simp] theorem State.hunt_rx (p : Port) : ((s.hunt p).port p).rx = .hunting := by cases p <;> rfl

end Sys2Proof.Machine
end

