-- ==== Sys2Proof/Laws/Stations.lean ====
section
/-! SUPPORT. Reading a station record after an update, and what "kept" means for the rest of the state. -/

namespace Sys2Proof.Machine

variable (s t u : State)

/-! ## Reading records -/

/-- An address that has a record. -/
def hasRecord (a : Nat) : Prop := 1 ≤ a ∧ a ≤ 127

theorem State.st_setSt_self (a : Nat) (r : Station) (h : hasRecord a) : (s.setSt a r).st a = r := by
  obtain ⟨h1, h2⟩ := h
  cases a with
  | zero => omega
  | succ n =>
    have : n < 127 := by omega
    simp [State.setSt, State.st, this]

theorem State.st_setSt_other (a b : Nat) (r : Station) (h : b ≠ a) : (s.setSt a r).st b = s.st b := by
  cases a with
  | zero => rfl
  | succ n =>
    cases b with
    | zero => rfl
    | succ m =>
      have hm : n ≠ m := by omega
      simp only [State.setSt, State.st]
      by_cases hb : m < 127
      · simp [hb, hm]
      · simp [hb]

/-- An address without a record always reads as one after reset. -/
theorem State.st_none (a : Nat) (h : ¬ hasRecord a) : s.st a = .reset := by
  cases a with
  | zero => rfl
  | succ n =>
    have hn : ¬ n < 127 := by
      intro hlt
      exact h ⟨by omega, by omega⟩
    simp [State.st, hn]

theorem State.setSt_none (a : Nat) (r : Station) (h : ¬ hasRecord a) : (s.setSt a r).st a = s.st a := by
  rw [State.st_none _ a h, State.st_none _ a h]

theorem State.st_modSt_self (a : Nat) (f : Station → Station) (h : hasRecord a) :
    (s.modSt a f).st a = f (s.st a) := s.st_setSt_self a _ h

theorem State.st_modSt_other (a b : Nat) (f : Station → Station) (h : b ≠ a) :
    (s.modSt a f).st b = s.st b := s.st_setSt_other a b _ h

theorem mem_addresses (a : Nat) : a ∈ addresses ↔ hasRecord a := by
  simp [addresses, hasRecord, List.mem_range'_1]
  omega

/-- A record in a state other than UNKNOWN is at an address that has one. -/
theorem hasRecord_of_state (a : Nat) (h : (s.st a).state ≠ .unknown) : hasRecord a := by
  by_contra hn
  rw [State.st_none s a hn] at h
  exact h rfl

/-! ## Updates that do not touch the records -/

theorem State.st_congr (h : t.stations = s.stations) (a : Nat) : t.st a = s.st a := by
  cases a with
  | zero => rfl
  | succ n => simp [State.st, h]

@[simp] theorem State.st_setPort (p : Port) (q : PortState) (a : Nat) : (s.setPort p q).st a = s.st a :=
  State.st_congr _ _ (by simp) a
@[simp] theorem State.st_hunt (p : Port) (a : Nat) : (s.hunt p).st a = s.st a := State.st_congr _ _ (by simp) a
@[simp] theorem State.st_raise (x : Flag) (a : Nat) : (s.raise x).st a = s.st a := State.st_congr _ _ rfl a
@[simp] theorem State.st_dequeue (b a : Nat) : (s.dequeue b).st a = s.st a := State.st_congr _ _ rfl a
@[simp] theorem State.st_enqueue (b a : Nat) (q : Priority) : (s.enqueue b q).st a = s.st a :=
  State.st_congr _ _ (by simp) a
@[simp] theorem State.st_setZone (z : Nat) (r : Zone) (a : Nat) : (s.setZone z r).st a = s.st a :=
  State.st_congr _ _ rfl a
@[simp] theorem State.st_setStarved (i : Nat) (b : Bool) (a : Nat) : (s.setStarved i b).st a = s.st a :=
  State.st_congr _ _ rfl a
@[simp] theorem State.st_setMaster (m : Master) (a : Nat) : (s.setMaster m).st a = s.st a :=
  State.st_congr _ _ rfl a
@[simp] theorem State.st_setScan (c : Scanner) (a : Nat) : (s.setScan c).st a = s.st a :=
  State.st_congr _ _ rfl a
@[simp] theorem State.st_countFwd (f : FwdCounters → FwdCounters) (a : Nat) : (s.countFwd f).st a = s.st a :=
  State.st_congr _ _ rfl a

/-- Policies are read from the tables alone. -/
theorem State.pol_congr (h : t.cfg = s.cfg) (a : Nat) : t.pol a = s.pol a := by
  cases a with
  | zero => rfl
  | succ n => simp [State.pol, h]

/-! ## What an engine step keeps -/

/-- Everything but the records, the three queues, the zones, the starved flags and the attention flags stands as it
was, and the records are related one by one. -/
structure State.Kept (R : Station → Station → Prop) (s t : State) : Prop where
  online : t.online = s.online
  straps : t.straps = s.straps
  mono : t.mono = s.mono
  frac : t.frac = s.frac
  cport : t.cport = s.cport
  fport : t.fport = s.fport
  answers : t.answers = s.answers
  fwd : t.fwd = s.fwd
  master : t.master = s.master
  clock : t.clock = s.clock
  mode : t.mode = s.mode
  timeRange : t.timeRange = s.timeRange
  scan : t.scan = s.scan
  cfg : t.cfg = s.cfg
  access : t.access = s.access
  unlocks : t.unlocks = s.unlocks
  image : t.image = s.image
  imageValid : t.imageValid = s.imageValid
  saving : t.saving = s.saving
  drain : t.drain = s.drain
  pending : t.pending = s.pending
  st : ∀ a, R (s.st a) (t.st a)

/-- What every engine leaves of a record: its hold list, lock, exempt mark and scan-miss count. -/
structure Station.HoldKept (r q : Station) : Prop where
  hold : q.hold = r.hold
  lock : q.lock = r.lock
  exempt : q.exempt = r.exempt
  scanMiss : q.scanMiss = r.scanMiss

/-- What the wake side, the faults and the park queue leave of a record besides: what the controller believes, the
credit and its base, the snapshot and the starts. -/
structure Station.BeliefKept (r q : Station) : Prop extends Station.HoldKept r q where
  shadow : q.shadow = r.shadow
  credit : q.credit = r.credit
  snapshot : q.snapshot = r.snapshot
  seen : q.seen = r.seen
  notFresh : q.notFresh = r.notFresh
  starts : q.starts = r.starts
  lastStart : q.lastStart = r.lastStart
  parkedSince : q.parkedSince = r.parkedSince

theorem Station.HoldKept.refl (r : Station) : Station.HoldKept r r := ⟨rfl, rfl, rfl, rfl⟩

theorem Station.BeliefKept.refl (r : Station) : Station.BeliefKept r r :=
  ⟨.refl r, rfl, rfl, rfl, rfl, rfl, rfl, rfl, rfl⟩

theorem Station.HoldKept.trans {r q p : Station} (h : Station.HoldKept r q) (k : Station.HoldKept q p) :
    Station.HoldKept r p :=
  ⟨k.hold.trans h.hold, k.lock.trans h.lock, k.exempt.trans h.exempt, k.scanMiss.trans h.scanMiss⟩

theorem Station.BeliefKept.trans {r q p : Station} (h : Station.BeliefKept r q) (k : Station.BeliefKept q p) :
    Station.BeliefKept r p :=
  ⟨h.toHoldKept.trans k.toHoldKept, k.shadow.trans h.shadow, k.credit.trans h.credit,
    k.snapshot.trans h.snapshot, k.seen.trans h.seen, k.notFresh.trans h.notFresh, k.starts.trans h.starts,
    k.lastStart.trans h.lastStart, k.parkedSince.trans h.parkedSince⟩

/-- The records' relations used here: reflexive and transitive. -/
structure Station.Order (R : Station → Station → Prop) : Prop where
  refl : ∀ r, R r r
  trans : ∀ {r q p}, R r q → R q p → R r p

theorem Station.holdOrder : Station.Order Station.HoldKept := ⟨.refl, fun h k => h.trans k⟩
theorem Station.beliefOrder : Station.Order Station.BeliefKept := ⟨.refl, fun h k => h.trans k⟩

variable {s t u} {R Q : Station → Station → Prop}

theorem State.Kept.refl (o : Station.Order R) (s : State) : s.Kept R s :=
  ⟨rfl, rfl, rfl, rfl, rfl, rfl, rfl, rfl, rfl, rfl, rfl, rfl, rfl, rfl, rfl, rfl, rfl, rfl, rfl, rfl, rfl,
    fun _ => o.refl _⟩

theorem State.Kept.trans (o : Station.Order R) (h : s.Kept R t) (k : t.Kept R u) : s.Kept R u :=
  ⟨k.online.trans h.online, k.straps.trans h.straps, k.mono.trans h.mono, k.frac.trans h.frac,
    k.cport.trans h.cport, k.fport.trans h.fport, k.answers.trans h.answers, k.fwd.trans h.fwd,
    k.master.trans h.master, k.clock.trans h.clock, k.mode.trans h.mode, k.timeRange.trans h.timeRange,
    k.scan.trans h.scan, k.cfg.trans h.cfg, k.access.trans h.access, k.unlocks.trans h.unlocks,
    k.image.trans h.image, k.imageValid.trans h.imageValid, k.saving.trans h.saving, k.drain.trans h.drain,
    k.pending.trans h.pending, fun a => o.trans (h.st a) (k.st a)⟩

theorem State.Kept.weaken (h : s.Kept R t) (w : ∀ r q, R r q → Q r q) : s.Kept Q t :=
  { h with st := fun a => w _ _ (h.st a) }

/-- The weaker relation of the two. -/
theorem State.Kept.holds (h : s.Kept Station.BeliefKept t) : s.Kept Station.HoldKept t :=
  h.weaken fun _ _ k => k.toHoldKept

theorem State.Kept.lineTime (h : s.Kept R t) : t.lineTime = s.lineTime := by
  simp [State.lineTime, h.mono, h.frac]

theorem State.Kept.pol (h : s.Kept R t) (a : Nat) : t.pol a = s.pol a := State.pol_congr _ _ h.cfg a

theorem State.Kept.draining (h : s.Kept R t) : t.draining = s.draining := by simp [State.draining, h.drain]

/-- Updates of other fields only. -/
theorem State.Kept.ofStations (o : Station.Order R) (h : t.stations = s.stations)
    (k : t = { s with stations := t.stations, parkQ := t.parkQ, demandQ := t.demandQ, schedQ := t.schedQ,
                      zones := t.zones, starved := t.starved, flags := t.flags }) : s.Kept R t := by
  constructor
  case st =>
    intro a
    rw [State.st_congr s t h a]
    exact o.refl _
  all_goals rw [k]

theorem State.modSt_kept (o : Station.Order R) (s : State) (a : Nat) (f : Station → Station)
    (h : R (s.st a) (f (s.st a))) : s.Kept R (s.modSt a f) := by
  constructor
  case st =>
    intro b
    by_cases hb : b = a
    · subst hb
      by_cases hr : hasRecord b
      · rw [s.st_modSt_self b f hr]
        exact h
      · rw [State.modSt, s.setSt_none b _ hr]
        exact o.refl _
    · rw [s.st_modSt_other a b f hb]
      exact o.refl _
  all_goals simp

theorem State.dequeue_kept (o : Station.Order R) (s : State) (a : Nat) : s.Kept R (s.dequeue a) :=
  .ofStations o rfl rfl

theorem State.enqueue_kept (o : Station.Order R) (s : State) (a : Nat) (q : Priority) :
    s.Kept R (s.enqueue a q) := .ofStations o (by simp) (by cases q <;> rfl)

theorem State.raise_kept (o : Station.Order R) (s : State) (x : Flag) : s.Kept R (s.raise x) :=
  .ofStations o rfl rfl

theorem State.setZone_kept (o : Station.Order R) (s : State) (z : Nat) (r : Zone) : s.Kept R (s.setZone z r) :=
  .ofStations o rfl rfl

theorem State.setStarved_kept (o : Station.Order R) (s : State) (i : Nat) (b : Bool) :
    s.Kept R (s.setStarved i b) := .ofStations o rfl rfl

/-- A list of steps that each keep keeps. -/
theorem State.foldl_kept (o : Station.Order R) {α : Type} (f : State → α → State)
    (h : ∀ (s : State) (x : α), s.Kept R (f s x)) (l : List α) (s : State) : s.Kept R (l.foldl f s) := by
  induction l generalizing s with
  | nil => exact .refl o s
  | cons x l ih => exact (h s x).trans o (ih _)

end Sys2Proof.Machine
end

