-- ==== Sys2Proof/Laws/Frames.lean ====
section
/-! SUPPORT. The record formats read back, which frames fit R8, and what a frame's arrival comes to. -/

namespace Sys2Proof

/-! ## Fields -/

theorem byte_toNat (n : Nat) : (byte n).toNat = n % 256 := by simp [byte]

theorem length_be16 (n : Nat) : (be16 n).length = 2 := rfl

theorem length_be32 (n : Nat) : (be32 n).length = 4 := rfl

theorem beVal_be16 (n : Nat) (h : n < 65536) : beVal (be16 n) = n := by
  simp only [beVal, be16, List.foldl, byte_toNat]
  omega

theorem beVal_be32 (n : Nat) (h : n < 4294967296) : beVal (be32 n) = n := by
  simp only [beVal, be32, be16, List.cons_append, List.nil_append, List.foldl, byte_toNat]
  omega

/-- Two bytes carry a half-word. -/
theorem half_of_be16 (x : Half) : BitVec.ofNat 16 (beVal (be16 x.toNat)) = x := by
  rw [beVal_be16 _ x.isLt, BitVec.ofNat_toNat, BitVec.setWidth_eq]

theorem Action.ofCode_code (a : Action) : Action.ofCode a.code = some a := by cases a <;> rfl

theorem RunState.ofCode_code (r : RunState) : RunState.ofCode r.code = some r := by cases r <;> rfl

theorem StopCause.ofCode_code (c : StopCause) : StopCause.ofCode c.code = some c := by cases c <;> rfl

theorem flagOf_flagByte (b : Bool) : flagOf (flagByte b) = some b := by cases b <;> rfl

theorem SetRec.ofBytes_bytes (r : SetRec) : SetRec.ofBytes r.bytes = some r := by
  have h := half_of_be16 r.arg
  simp only [be16] at h
  simp only [SetRec.bytes, be16, List.cons_append, List.nil_append, SetRec.ofBytes, Action.ofCode_code,
    flagOf_flagByte, h]

theorem StatusRec.ofBytes_bytes (r : StatusRec) : StatusRec.ofBytes r.bytes = some r := by
  have h := half_of_be16 r.load
  have k := half_of_be16 r.aux
  simp only [be16] at h k
  simp only [StatusRec.bytes, be16, List.cons_append, List.nil_append, StatusRec.ofBytes, RunState.ofCode_code,
    StopCause.ofCode_code, h, k]

/-! ## Bodies that fit R8 -/

theorem Body.fits_poll : Body.ofPayload Body.poll.kind Body.poll.payload = some .poll := rfl

theorem Body.fits_status (r : StatusRec) :
    Body.ofPayload (Body.status r).kind (Body.status r).payload = some (.status r) := by
  simp [Body.kind, Body.payload, Body.ofPayload, StatusRec.ofBytes_bytes]

theorem Body.fits_set (r : SetRec) : Body.ofPayload (Body.set r).kind (Body.set r).payload = some (.set r) := by
  simp [Body.kind, Body.payload, Body.ofPayload, SetRec.ofBytes_bytes]

theorem Body.fits_nak (c : Byte) : Body.ofPayload (Body.nak c).kind (Body.nak c).payload = some (.nak c) := rfl

theorem Body.fits_time (w : BitVec 32) :
    Body.ofPayload (Body.time w).kind (Body.time w).payload = some (.time w) := by
  simp [Body.kind, Body.payload, Body.ofPayload, length_be32, beVal_be32 _ w.isLt]

theorem Body.fits_mgmt (bs : List Byte) (h : 1 ≤ bs.length) (k : bs.length ≤ 32) :
    Body.ofPayload (Body.mgmt bs).kind (Body.mgmt bs).payload = some (.mgmt bs) := by
  simp [Body.kind, Body.payload, Body.ofPayload, h, k]

/-- A STATUS on the line is a station's: the gate's own record is not read back as one (R16, R18). -/
theorem Body.status_of_fits (b : Body) (bs : List Byte) (h : b = .gateStatus bs) :
    Body.ofPayload b.kind b.payload ≠ some b := by
  subst h
  simp [Body.kind, Body.payload, Body.ofPayload]

namespace Machine

variable (s : State)

/-! ## Arrivals -/

/-- A well-formed frame at a listening port is delivered with the receiver HUNTING (R9). -/
theorem State.arrive_ok (p : Port) (f : Frame) (h : s.listening p = true) (k : f.shapeOk = true) :
    s.arrive p f = (s.hunt p).deliver p f := by
  simp [State.arrive, h, k]

/-- An ill-formed frame at a listening port is discarded (R8, R10). -/
theorem State.arrive_bad (p : Port) (f : Frame) (h : s.listening p = true) (k : f.shapeOk = false) :
    s.arrive p f = s.discard p .shape := by
  simp [State.arrive, h, k]

/-- A frame at a port that does not listen is lost (R12, R14). -/
theorem State.arrive_off (p : Port) (f : Frame) (h : s.listening p = false) : s.arrive p f = s := by
  simp [State.arrive, h]

variable {s} {src dst tag : Byte}

theorem State.hears_listening (h : s.hears src = true) : s.listening .c = true := by
  simp only [State.hears, Bool.and_eq_true] at h
  exact h.1.1.1

theorem State.hears_bounds (h : s.hears src = true) :
    1 ≤ src.toNat ∧ src.toNat ≤ 127 ∧ 1 ≤ s.straps.addr ∧ s.straps.addr ≤ 127 := by
  simp only [State.hears, busAddress, Bool.and_eq_true, decide_eq_true_eq] at h
  omega

/-- The frame fits R8 when its destination and its body do. -/
theorem State.hears_shape {b : Body} (h : s.hears src = true) (hd : dst.toNat ≤ 127)
    (hb : Body.ofPayload b.kind b.payload = some b) : (⟨dst, src, tag, b⟩ : Frame).shapeOk = true := by
  obtain ⟨h1, h2, -, -⟩ := State.hears_bounds h
  simp [Frame.shapeOk, h1, h2, hd, hb]

theorem State.gate_toNat (h : s.hears src = true) : (byte s.straps.addr).toNat = s.straps.addr := by
  obtain ⟨-, -, h3, h4⟩ := State.hears_bounds h
  rw [byte_toNat]
  omega

/-- A frame to the gate's own address (R43). -/
theorem State.arrive_gate {b : Body} (h : s.hears src = true) (hb : Body.ofPayload b.kind b.payload = some b) :
    s.arrive .c ⟨byte s.straps.addr, src, tag, b⟩ = (s.hunt .c).gateFrame ⟨byte s.straps.addr, src, tag, b⟩ := by
  have hd := State.gate_toNat h
  have hle := (State.hears_bounds h).2.2.2
  rw [State.arrive_ok _ _ _ (State.hears_listening h) (State.hears_shape h (by omega) hb)]
  simp [State.deliver, State.controllerFrame, hd]

/-- A frame to a station (R21). -/
theorem State.arrive_station {b : Body} (h : s.hears src = true) (hs : s.serves dst = true)
    (hb : Body.ofPayload b.kind b.payload = some b) :
    s.arrive .c ⟨dst, src, tag, b⟩ = ((s.hunt .c).stationFrame ⟨dst, src, tag, b⟩).finish := by
  simp only [State.serves, busAddress, Bool.and_eq_true, decide_eq_true_eq, bne_iff_ne] at hs
  have h0 : dst.toNat ≠ 0 := by omega
  rw [State.arrive_ok _ _ _ (State.hears_listening h) (State.hears_shape h (by omega) hb)]
  simp [State.deliver, State.controllerFrame, hs.1.2, h0]

/-- A frame to address 0 (R44). -/
theorem State.arrive_broadcast {b : Body} (h : s.hears src = true)
    (hb : Body.ofPayload b.kind b.payload = some b) :
    s.arrive .c ⟨0, src, tag, b⟩ = ((s.hunt .c).broadcastFrame ⟨0, src, tag, b⟩).finish := by
  have hne : s.straps.addr ≠ 0 := by
    have := (State.hears_bounds h).2.2.1
    omega
  rw [State.arrive_ok _ _ _ (State.hears_listening h) (State.hears_shape h (by simp) hb)]
  simp [State.deliver, State.controllerFrame, hne.symm]

/-- A management request reaches the Management unit (R43, R181). -/
theorem State.manage_eq (code : Byte) (fields : List Byte) (h : s.managed src = true) (k : fields.length ≤ 31) :
    s.manage src tag code fields = (s.hunt .c).mgmtFrame src tag code fields := by
  simp only [State.managed, Bool.and_eq_true] at h
  rw [State.manage, State.arrive_gate h.1 (Body.fits_mgmt _ (by simp) (by simp; omega))]
  rfl

/-- The request's verdict is answered with one MREPLY (R19, R181). -/
theorem State.manage_request (q : Req) (fields : List Byte) (h : s.managed src = true) (k : fields.length ≤ 31) :
    s.manage src tag q.code fields
      = ((s.hunt .c).request q fields).state.answerOwn src tag
          (.mreply ([q.code, ((s.hunt .c).request q fields).res.code] ++ ((s.hunt .c).request q fields).data)) := by
  have hd : (s.hunt .c).draining = false := by
    simp only [State.managed, Bool.and_eq_true, Bool.not_eq_true'] at h
    simpa [State.draining] using h.2
  rw [State.manage_eq _ _ h k, State.mgmtFrame, hd]
  have hq : Req.ofCode q.code = some q := by cases q <;> rfl
  simp [hq]

/-- What the checks of R181 leave of a request that passes them. -/
theorem State.judge_pass (q : Req) (act : Verdict) (hf : s.accessRefusal q = none)
    (hb : q.always = true ∨ s.saving.isSome = false) : s.judge q true true act = act := by
  rcases hb with hb | hb <;> simp [State.judge, State.shutOut, hf, hb]

/-- A field out of range is refused with RANGE once the access check is passed, but during a SAVE for a request judged
BUSY first (R138, R175, R181). -/
theorem State.judge_range (q : Req) (act : Verdict) (hf : s.accessRefusal q = none)
    (hb : s.shutOut q = false ∨ q.saveFirst = false) : s.judge q true false act = s.refuse .range := by
  rcases hb with hb | hb <;> simp [State.judge, hf, hb]

/-- A request that a SAVE shuts out and that is in range, or is judged BUSY first, is refused with BUSY (R182). -/
theorem State.judge_busy (q : Req) (act : Verdict) (range : Bool) (hf : s.accessRefusal q = none)
    (hs : s.shutOut q = true) (hr : q.saveFirst = true ∨ range = true) :
    s.judge q true range act = s.refuse .busy := by
  rcases hr with hr | hr <;> simp [State.judge, hf, hs, hr]

/-- What is out of range during a SAVE is refused with BUSY or RANGE, by the request's order (R181, R182). -/
theorem State.judge_range_in_save (q : Req) (act : Verdict) (hf : s.accessRefusal q = none)
    (hs : s.shutOut q = true) : s.judge q true false act = s.refuse (if q.saveFirst then .busy else .range) := by
  cases h : q.saveFirst <;> simp [State.judge, hf, hs, h]

/-- The access check passes every request when the gate admits guarded ones (R182). -/
theorem State.accessRefusal_admits (q : Req) (h : s.admits = true) : s.accessRefusal q = none := by
  simp only [State.admits, Bool.and_eq_true, Bool.or_eq_true, decide_eq_true_eq] at h
  unfold State.accessRefusal
  split
  · rfl
  · rcases h.1 with k | k <;> rw [k]

end Machine

end Sys2Proof
end

