-- ==== Sys2Proof/Laws/Wake.lean ====
section
/-! SUPPORT. One lemma for each shared operation of the Wake engine, the Group unit's walks and the faults: what
each keeps (Laws/Stations.lean). -/

namespace Sys2Proof.Machine

open Station (BeliefKept HoldKept beliefOrder holdOrder)

variable (s : State)

/-! ## Updates of one record -/

theorem Station.account_kept (now rated : Nat) (r : Station) : BeliefKept r (r.account now rated) := by
  unfold Station.account
  split
  · exact .refl r
  · exact ⟨⟨rfl, rfl, rfl, rfl⟩, rfl, rfl, rfl, rfl, rfl, rfl, rfl, rfl⟩

theorem Station.faultWith_kept (now rated : Nat) (c : FaultCause) (r : Station) :
    BeliefKept r (r.faultWith now rated c) := by
  have h := Station.account_kept now rated r
  exact ⟨⟨h.hold, h.lock, h.exempt, h.scanMiss⟩, h.shadow, h.credit, h.snapshot, h.seen, h.notFresh, h.starts,
    h.lastStart, h.parkedSince⟩

theorem Station.freed_kept (now rated : Nat) (r : Station) : BeliefKept r (r.freed now rated) := by
  have h := Station.account_kept now rated r
  exact ⟨⟨h.hold, h.lock, h.exempt, h.scanMiss⟩, h.shadow, h.credit, h.snapshot, h.seen, h.notFresh, h.starts,
    h.lastStart, h.parkedSince⟩

/-- A record update that writes fields of the operation in hand only. -/
theorem State.modSt_belief (a : Nat) (f : Station → Station) (h : ∀ r, BeliefKept r (f r)) :
    s.Kept BeliefKept (s.modSt a f) := s.modSt_kept beliefOrder a f (h _)

theorem State.account_kept (a : Nat) : s.Kept BeliefKept (s.account a) :=
  s.modSt_belief a _ (Station.account_kept _ _)

theorem State.setDemand_kept (a : Nat) : s.Kept BeliefKept (s.setDemand a) :=
  s.modSt_belief a _ (by exact fun _ => ⟨⟨rfl, rfl, rfl, rfl⟩, rfl, rfl, rfl, rfl, rfl, rfl, rfl, rfl⟩)

theorem State.satisfy_kept (a t : Nat) : s.Kept BeliefKept (s.satisfy a t) :=
  s.modSt_belief a _ (by exact fun _ => ⟨⟨rfl, rfl, rfl, rfl⟩, rfl, rfl, rfl, rfl, rfl, rfl, rfl, rfl⟩)

/-! ## Admission -/

theorem State.warnAdmitted_kept (a : Nat) : s.Kept BeliefKept (s.warnAdmitted a) := by
  unfold State.warnAdmitted
  dsimp only
  split
  · exact s.satisfy_kept a _
  · split
    · exact .refl beliefOrder s
    · split
      · exact s.satisfy_kept a _
      · exact s.setZone_kept beliefOrder _ _

theorem State.admit_kept (a : Nat) : s.Kept BeliefKept (s.admitOne a) :=
  ((s.dequeue_kept beliefOrder a).trans beliefOrder
    (State.modSt_belief _ a _ (by exact fun _ => ⟨⟨rfl, rfl, rfl, rfl⟩, rfl, rfl, rfl, rfl, rfl, rfl, rfl, rfl⟩))).trans beliefOrder
    (State.warnAdmitted_kept _ a)

theorem State.admitWalk_kept (l : List Nat) : s.Kept BeliefKept (s.admitWalk l) := by
  induction l generalizing s with
  | nil => exact .refl beliefOrder s
  | cons a l ih =>
    unfold State.admitWalk
    split
    · split
      · exact (s.admit_kept a).trans beliefOrder (ih _)
      · exact .refl beliefOrder s
    · exact ih s

theorem State.admissionPass_kept : s.Kept BeliefKept s.admissionPass := by
  unfold State.admissionPass
  split
  · exact .refl beliefOrder s
  · exact s.admitWalk_kept _

/-! ## Faults -/

theorem State.failLimitTest_kept (a : Nat) : s.Kept BeliefKept (s.failLimitTest a) := by
  unfold State.failLimitTest
  dsimp only
  split
  · exact (s.modSt_belief a _ (by exact fun _ => ⟨⟨rfl, rfl, rfl, rfl⟩, rfl, rfl, rfl, rfl, rfl, rfl, rfl, rfl⟩)).trans beliefOrder
      (State.raise_kept beliefOrder _ _)
  · exact .refl beliefOrder s

theorem State.faultOne_kept (a : Nat) (c : FaultCause) : s.Kept BeliefKept (s.faultOne a c) := by
  have h : s.Kept BeliefKept (((s.dequeue a).modSt a (Station.faultWith s.now (s.pol a).rated c)).raise .stationFault) :=
    ((s.dequeue_kept beliefOrder a).trans beliefOrder
      (State.modSt_belief _ a _ (Station.faultWith_kept _ _ _))).trans beliefOrder (State.raise_kept beliefOrder _ _)
  unfold State.faultOne
  dsimp only
  split
  · exact h.trans beliefOrder (State.failLimitTest_kept _ a)
  · exact h.trans beliefOrder (State.failLimitTest_kept _ a)
  · exact h

theorem State.spreadFaults_kept (n : Nat) (l : List Nat) : s.Kept BeliefKept (s.spreadFaults n l) := by
  induction n generalizing s l with
  | zero => exact .refl beliefOrder s
  | succ n ih =>
    cases l with
    | nil => exact .refl beliefOrder s
    | cons p l =>
      exact (State.foldl_kept beliefOrder (fun t q => t.faultOne q .supportFault)
        (fun t q => t.faultOne_kept q _) _ s).trans beliefOrder (ih _ _)

theorem State.faultSpread_kept (a : Nat) (c : FaultCause) : s.Kept BeliefKept (s.faultSpread a c) :=
  (s.faultOne_kept a c).trans beliefOrder (State.spreadFaults_kept _ _ _)

theorem State.enterFaulted_kept (a : Nat) (c : FaultCause) : s.Kept BeliefKept (s.enterFaulted a c) := by
  unfold State.enterFaulted
  dsimp only
  split
  · exact (s.faultSpread_kept a c).trans beliefOrder (State.admissionPass_kept _)
  · exact s.faultSpread_kept a c

/-! ## Wake queues -/

theorem State.joinQueue_kept (a : Nat) (q : Priority) : s.Kept BeliefKept (s.joinQueue a q) :=
  ((s.account_kept a).trans beliefOrder
    (State.modSt_belief _ a _ (by exact fun _ => ⟨⟨rfl, rfl, rfl, rfl⟩, rfl, rfl, rfl, rfl, rfl, rfl, rfl, rfl⟩))).trans beliefOrder
    (State.enqueue_kept beliefOrder _ a q)

theorem State.moveToDemand_kept (a : Nat) : s.Kept BeliefKept (s.moveToDemand a) :=
  ((s.dequeue_kept beliefOrder a).trans beliefOrder (State.setDemand_kept _ a)).trans beliefOrder
    (State.enqueue_kept beliefOrder _ a _)

theorem State.chainOne_kept (q : Priority) (p : Nat) : s.Kept BeliefKept (s.chainOne q p).1 := by
  unfold State.chainOne
  split
  · exact s.joinQueue_kept p q
  · split
    · exact s.moveToDemand_kept p
    · exact .refl beliefOrder s
  · exact .refl beliefOrder s

theorem State.chainAll_kept (q : Priority) (l : List Nat) : s.Kept BeliefKept (s.chainAll q l).1 := by
  induction l generalizing s with
  | nil => exact .refl beliefOrder s
  | cons p l ih => exact (s.chainOne_kept q p).trans beliefOrder (ih _)

theorem State.chainWalk_kept (n : Nat) (l : List Nat) : s.Kept BeliefKept (s.chainWalk n l) := by
  induction n generalizing s l with
  | zero => exact .refl beliefOrder s
  | succ n ih =>
    cases l with
    | nil => exact .refl beliefOrder s
    | cons a l =>
      unfold State.chainWalk
      split
      · exact ih s l
      · split
        · exact (s.faultSpread_kept a _).trans beliefOrder (ih _ _)
        · exact (s.chainAll_kept _ _).trans beliefOrder (ih _ _)

theorem State.afterEntry_kept (a : Nat) : s.Kept BeliefKept (s.afterEntry a) := s.chainWalk_kept _ _

theorem State.takeWake_kept (a : Nat) (q : Priority) : s.Kept BeliefKept (s.takeWake a q) := by
  unfold State.takeWake
  split
  · exact ((s.joinQueue_kept a _).trans beliefOrder (State.afterEntry_kept _ a)).trans beliefOrder
      (State.admissionPass_kept _)
  · split
    · exact ((s.moveToDemand_kept a).trans beliefOrder (State.afterEntry_kept _ a)).trans beliefOrder
        (State.admissionPass_kept _)
    · exact s.setDemand_kept a
  · exact s.setDemand_kept a
  · exact s.setDemand_kept a
  · exact .refl beliefOrder s

theorem State.takeWakes_kept (q : Priority) (l : List Nat) : s.Kept BeliefKept (s.takeWakes q l) :=
  State.foldl_kept beliefOrder _ (fun t a => t.takeWake_kept a q) l s

/-! ## Entry to FREE and leaving the park queue -/

/-- Entry to FREE keeps what the causing rule's own update keeps. -/
theorem State.enterFree_kept {R : Station → Station → Prop} (o : Station.Order R)
    (w : ∀ r q, BeliefKept r q → R r q) (a : Nat) (f : Station → Station) (h : ∀ r, R r (f r)) :
    s.Kept R (s.enterFree a f) := by
  have k : s.Kept R ((s.dequeue a).modSt a fun r => f (r.freed s.now (s.pol a).rated)) :=
    (s.dequeue_kept o a).trans o
      (State.modSt_kept o _ a _ (o.trans (w _ _ (Station.freed_kept _ _ _)) (h _)))
  unfold State.enterFree
  dsimp only
  split
  · exact k.trans o ((State.admissionPass_kept _).weaken w)
  · exact k

theorem State.leavePark_kept (a : Nat) : s.Kept BeliefKept (s.leavePark a false) := by
  unfold State.leavePark
  split
  · exact s.enterFree_kept beliefOrder (fun _ _ h => h) a _ (fun r => .refl r)
  · exact .refl beliefOrder s

theorem State.leavePark_holds (a : Nat) (z : Bool) : s.Kept HoldKept (s.leavePark a z) := by
  unfold State.leavePark
  split
  · refine s.enterFree_kept holdOrder (fun _ _ h => h.toHoldKept) a _ (fun r => ?_)
    cases z
    · exact .refl r
    · exact ⟨rfl, rfl, rfl, rfl⟩
  · exact .refl holdOrder s

theorem State.leaveParkAll_kept (l : List Nat) : s.Kept BeliefKept (s.leaveParkAll l) :=
  State.foldl_kept beliefOrder _ (fun t a => t.leavePark_kept a) l s

/-! ## Soundings, closing zones, wake-due times -/

theorem State.endSounding_kept (z t : Nat) : s.Kept BeliefKept (s.endSounding z t) :=
  (s.setZone_kept beliefOrder z _).trans beliefOrder
    (State.foldl_kept beliefOrder _ (fun u a => u.satisfy_kept a t) _ _)

theorem State.closeZone_kept (z : Nat) : s.Kept BeliefKept (s.closeZone z) := s.leaveParkAll_kept _

theorem State.closeThose_kept (l : List Nat) : s.Kept BeliefKept (s.closeThose l) := by
  refine State.foldl_kept beliefOrder _ (fun t z => ?_) l s
  split
  · exact .refl beliefOrder t
  · exact t.closeZone_kept z

theorem State.armWakeDue_kept (a : Nat) : s.Kept BeliefKept (s.armWakeDue a) := by
  unfold State.armWakeDue
  exact s.modSt_belief a _ (by exact fun _ => ⟨⟨rfl, rfl, rfl, rfl⟩, rfl, rfl, rfl, rfl, rfl, rfl, rfl, rfl⟩)

theorem State.expireWakeDue_kept (a : Nat) : s.Kept BeliefKept (s.expireWakeDue a) := by
  unfold State.expireWakeDue
  split
  · exact .refl beliefOrder s
  · split
    · exact (s.modSt_belief a _ (by exact fun _ => ⟨⟨rfl, rfl, rfl, rfl⟩, rfl, rfl, rfl, rfl, rfl, rfl, rfl, rfl⟩)).trans beliefOrder
        (State.takeWake_kept _ a _)
    · exact .refl beliefOrder s

theorem State.rearmWakeDue_kept : s.Kept BeliefKept s.rearmWakeDue :=
  (State.foldl_kept beliefOrder _ (fun t a => t.armWakeDue_kept a) _ s).trans beliefOrder
    (State.foldl_kept beliefOrder _ (fun t a => t.expireWakeDue_kept a) _ _)

/-- The zones open at the minute before, as a condition (R169). -/
@[simp] theorem State.mem_openBefore (s : State) (z : Nat) :
    z ∈ s.openBefore ↔ z < 8 ∧ s.openAt z ((s.weekMinute + Config.weekMinutes - 1) % Config.weekMinutes) = true := by
  simp [State.openBefore]

/-- The zones whose closing a clock set or a window write acts on (R164). -/
@[simp] theorem State.mem_openUntilNow (s : State) (z : Nat) :
    z ∈ s.openUntilNow
      ↔ z < 8 ∧ (s.zoneOpen z = true
          ∨ s.atMinute = true
            ∧ s.openAt z ((s.weekMinute + Config.weekMinutes - 1) % Config.weekMinutes) = true) := by
  simp +contextual [State.openUntilNow]

/-- Setting the clock keeps the same, the clock apart (R164). -/
theorem State.setWeek_kept (v : Nat) :
    State.Kept BeliefKept { s with clock := ⟨true, v, s.now⟩ } (s.setWeek v) :=
  (State.closeThose_kept _ _).trans beliefOrder (State.rearmWakeDue_kept _)

end Sys2Proof.Machine
end

