-- ==== Sys2Proof/Laws/Observe.lean ====
section
/-! SUPPORT. One lemma for each shared operation of the Park engine and of observations: what each keeps. -/

namespace Sys2Proof.Machine

open Station (BeliefKept HoldKept beliefOrder holdOrder)

variable (s : State)

/-- A record update that leaves the hold list, the lock, the exempt mark and the scan-miss count. -/
theorem State.modSt_holds (a : Nat) (f : Station → Station) (h : ∀ r, HoldKept r (f r)) :
    s.Kept HoldKept (s.modSt a f) := s.modSt_kept holdOrder a f (h _)

theorem State.enterFree_holds (a : Nat) (f : Station → Station) (h : ∀ r, HoldKept r (f r)) :
    s.Kept HoldKept (s.enterFree a f) := s.enterFree_kept holdOrder (fun _ _ k => k.toHoldKept) a f h

/-! ## Records -/

theorem Station.recordStart_holds (now : Nat) (r : Station) : HoldKept r (r.recordStart now) := ⟨rfl, rfl, rfl, rfl⟩

theorem Station.creditUpdate_holds (now : Nat) (p : Policy) (load : Nat) (r : Station) :
    HoldKept r (r.creditUpdate now p load) := ⟨rfl, rfl, rfl, rfl⟩

theorem Station.creditFault_holds (now : Nat) (r : Station) : HoldKept r (r.creditFault now) := ⟨rfl, rfl, rfl, rfl⟩

theorem Station.parkedAt_holds (now : Nat) (r : Station) : HoldKept r (r.parkedAt now) := ⟨rfl, rfl, rfl, rfl⟩

/-! ## Park engine -/

/-- A change of the park queue alone. -/
theorem State.setParkQ_kept {R : Station → Station → Prop} (o : Station.Order R) (q : List Nat) :
    s.Kept R { s with parkQ := q } := .ofStations o rfl rfl

theorem State.queuePark_kept (a : Nat) : s.Kept BeliefKept (s.queuePark a) :=
  (s.modSt_belief a (fun r => { r with state := .parkQueued })
      (fun _ => ⟨⟨rfl, rfl, rfl, rfl⟩, rfl, rfl, rfl, rfl, rfl, rfl, rfl, rfl⟩)).trans beliefOrder
    (State.setParkQ_kept _ beliefOrder _)

theorem State.parkTest_kept (a : Nat) : s.Kept BeliefKept (s.parkTest a) := by
  unfold State.parkTest
  split
  · exact s.queuePark_kept a
  · exact .refl beliefOrder s

theorem State.startPark_kept (a : Nat) : s.Kept BeliefKept (s.startPark a) := by
  unfold State.startPark
  exact (s.dequeue_kept beliefOrder a).trans beliefOrder
    (State.modSt_belief _ a _ (by exact fun _ => ⟨⟨rfl, rfl, rfl, rfl⟩, rfl, rfl, rfl, rfl, rfl, rfl, rfl, rfl⟩))

theorem State.starvedWake_kept (a : Nat) : s.Kept BeliefKept (s.starvedWake a) := by
  unfold State.starvedWake
  split
  · exact s.takeWake_kept a _
  · exact .refl beliefOrder s

theorem State.neededWake_kept (a : Nat) : s.Kept BeliefKept (s.neededWake a) := by
  unfold State.neededWake
  dsimp only
  split
  · exact s.takeWake_kept a _
  · split
    · exact .refl beliefOrder s
    · exact s.takeWake_kept a _

theorem State.enterParked_holds (a : Nat) (f : Station → Station) (h : ∀ r, HoldKept r (f r)) :
    s.Kept HoldKept (s.enterParked a f) := by
  unfold State.enterParked
  exact (((s.modSt_holds a _ (fun r => (Station.parkedAt_holds _ r).trans (h _))).trans holdOrder
    (State.armWakeDue_kept _ a).holds).trans holdOrder (State.starvedWake_kept _ a).holds).trans holdOrder
    (State.neededWake_kept _ a).holds

theorem State.actAtParked_holds (a : Nat) : s.Kept HoldKept (s.actAtParked a) := by
  unfold State.actAtParked
  dsimp only
  split
  · exact (s.takeWake_kept a _).holds
  · split
    · split
      · exact s.enterFree_holds a _ (by exact fun _ => ⟨rfl, rfl, rfl, rfl⟩)
      · exact .refl holdOrder s
    · split
      · exact (s.takeWake_kept a _).holds
      · exact .refl holdOrder s

theorem State.completePark_holds (a : Nat) : s.Kept HoldKept (s.completePark a) :=
  ((s.enterParked_holds a _ (by exact fun _ => ⟨rfl, rfl, rfl, rfl⟩)).trans holdOrder
    (State.actAtParked_holds _ a)).trans holdOrder (State.expireWakeDue_kept _ a).holds

theorem State.adoptWake_kept (a : Nat) : s.Kept BeliefKept (s.adoptWake a) := by
  unfold State.adoptWake
  split
  · exact s.takeWake_kept a _
  · exact .refl beliefOrder s

theorem State.exemptWake_kept (a : Nat) : s.Kept BeliefKept (s.exemptWake a) := by
  unfold State.exemptWake
  split
  · exact s.takeWake_kept a _
  · exact .refl beliefOrder s

theorem State.adoptParked_holds (a : Nat) : s.Kept HoldKept (s.adoptParked a) := by
  unfold State.adoptParked
  exact (((s.enterParked_holds a _ (by exact fun _ => ⟨rfl, rfl, rfl, rfl⟩)).trans holdOrder
    (State.adoptWake_kept _ a).holds).trans holdOrder (State.exemptWake_kept _ a).holds).trans holdOrder
    (State.expireWakeDue_kept _ a).holds

theorem State.coastObserved_holds (a : Nat) (o : Snapshot) : s.Kept HoldKept (s.coastObserved a o) := by
  unfold State.coastObserved
  split
  · exact s.completePark_holds a
  · exact s.enterFree_holds a _ (fun r => .refl r)
  · exact .refl holdOrder s

/-! ## Observations -/

theorem Station.overridden_holds (now : Nat) (r : Station) : HoldKept r (r.overridden now) := ⟨rfl, rfl, rfl, rfl⟩
theorem Station.settled_holds (now : Nat) (r : Station) : HoldKept r (r.settled now) := ⟨rfl, rfl, rfl, rfl⟩
theorem Station.adopted_holds (now : Nat) (o : Snapshot) (r : Station) : HoldKept r (r.adopted now o) :=
  ⟨rfl, rfl, rfl, rfl⟩

theorem State.localStart_holds (a : Nat) : s.Kept HoldKept (s.localStart a) :=
  s.enterFree_holds a _ (Station.overridden_holds _)

theorem State.settle_holds (a : Nat) : s.Kept HoldKept (s.settle a) :=
  s.enterFree_holds a _ (Station.settled_holds _)

theorem State.creditUpdate_holds (a load : Nat) : s.Kept HoldKept (s.creditUpdate a load) :=
  s.modSt_holds a _ (Station.creditUpdate_holds _ _ _)

theorem State.creditFault_holds (a : Nat) : s.Kept HoldKept (s.creditFault a) :=
  s.modSt_holds a _ (Station.creditFault_holds _)

theorem State.creditAndTest_holds (a load : Nat) : s.Kept HoldKept (s.creditAndTest a load) :=
  (s.creditUpdate_holds a load).trans holdOrder (State.parkTest_kept _ a).holds

theorem State.noteStart_holds (a : Nat) (b : Option Snapshot) (o : Snapshot) :
    s.Kept HoldKept (s.noteStart a b o) := by
  unfold State.noteStart
  split
  · exact s.modSt_holds a _ (Station.recordStart_holds _)
  · exact .refl holdOrder s

theorem State.adoptFree_holds (a : Nat) (o : Snapshot) : s.Kept HoldKept (s.adoptFree a o) := by
  have h := s.enterFree_holds a _ (Station.adopted_holds s.now o)
  unfold State.adoptFree
  dsimp only
  split
  · exact h.trans holdOrder (State.creditFault_holds _ a)
  · exact h.trans holdOrder (State.creditAndTest_holds _ a _)

theorem State.dispatchObs_holds (a : Nat) (b : Option Snapshot) (o : Snapshot) :
    s.Kept HoldKept (s.dispatchObs a b o) := by
  unfold State.dispatchObs
  dsimp only
  split
  · split
    · exact s.adoptParked_holds a
    · exact s.adoptFree_holds a o
  · split
    · exact s.creditFault_holds a
    · exact (s.noteStart_holds a b o).trans holdOrder (State.creditAndTest_holds _ a _)
  · split
    · exact (s.creditFault_holds a).trans holdOrder (State.leavePark_holds _ a _)
    · split
      · exact s.leavePark_holds a _
      · split
        · exact (s.creditUpdate_holds a _).trans holdOrder (State.leavePark_holds _ a _)
        · exact s.creditUpdate_holds a _
  · split
    · exact (s.enterFaulted_kept a _).holds
    · split
      · exact s.coastObserved_holds a o
      · exact .refl holdOrder s
  · split
    · exact (s.enterFaulted_kept a _).holds
    · split
      · exact s.localStart_holds a
      · exact (s.account_kept a).holds
  · split
    · exact (s.enterFaulted_kept a _).holds
    · split
      · exact s.localStart_holds a
      · exact .refl holdOrder s
  · split
    · exact (s.enterFaulted_kept a _).holds
    · split
      · split
        · exact s.localStart_holds a
        · exact .refl holdOrder s
      · split
        · split
          · exact s.settle_holds a
          · exact .refl holdOrder s
        · exact .refl holdOrder s
  · exact .refl holdOrder s

/-! ## Pressure references -/

theorem State.starveMember_kept (m : Nat) : s.Kept BeliefKept (s.starveMember m) := by
  unfold State.starveMember
  split
  · exact s.takeWake_kept m _
  · split
    · exact s.takeWake_kept m _
    · exact .refl beliefOrder s
  · exact s.leavePark_kept m
  · exact .refl beliefOrder s

theorem State.starve_kept (i : Nat) (ms : List Nat) : s.Kept BeliefKept (s.starve i ms) :=
  ((s.setStarved_kept beliefOrder i true).trans beliefOrder (State.raise_kept beliefOrder _ _)).trans beliefOrder
    (State.foldl_kept beliefOrder _ (fun t m => t.starveMember_kept m) _ _)

theorem State.judgeStarved_kept (a aux i : Nat) : s.Kept BeliefKept (s.judgeStarved a aux i) := by
  unfold State.judgeStarved
  split
  · split
    · split
      · split
        · exact s.setStarved_kept beliefOrder i false
        · exact .refl beliefOrder s
      · split
        · exact s.starve_kept i _
        · exact .refl beliefOrder s
    · exact .refl beliefOrder s
  all_goals exact .refl beliefOrder s

theorem State.referenceSeen_kept (a aux : Nat) : s.Kept BeliefKept (s.referenceSeen a aux) :=
  State.foldl_kept beliefOrder _ (fun t i => t.judgeStarved_kept a aux i) _ s

/-- An observation moves no hold list, lock, exempt mark or scan-miss count, and nothing but the records, the queues,
the zones, the starved flags and the attention flags (R72 to R81). -/
theorem State.observe_holds (a : Nat) (x : StatusRec) : s.Kept HoldKept (s.observe a x) := by
  unfold State.observe
  split
  · exact .refl holdOrder s
  · dsimp only
    have h1 : s.Kept HoldKept (s.modSt a (Station.observed s.now (snapshotOf x))) :=
      s.modSt_holds a _ (by exact fun _ => ⟨rfl, rfl, rfl, rfl⟩)
    split
    · exact h1.trans holdOrder (State.referenceSeen_kept _ a _).holds
    · exact (h1.trans holdOrder (State.dispatchObs_holds _ a _ _)).trans holdOrder
        (State.referenceSeen_kept _ a _).holds

end Sys2Proof.Machine
end

