-- ==== Sys2Proof/Laws/Master.lean ====
section
/-! SUPPORT. What an arbitration, and so the end of every step, can change. -/

namespace Sys2Proof.Machine

open Station (BeliefKept HoldKept beliefOrder holdOrder)

/-- What grants and the mode check keep: everything but the mode, the master, the F-port, the states of the delayed
entries, the queues and what leaving the park queue moves. -/
structure State.Granted (s t : State) : Prop where
  online : t.online = s.online
  straps : t.straps = s.straps
  mono : t.mono = s.mono
  frac : t.frac = s.frac
  cport : t.cport = s.cport
  answers : t.answers = s.answers
  fwd : t.fwd = { s.fwd with delayed := t.fwd.delayed }
  keys : t.fwd.delayed.map Delayed.key = s.fwd.delayed.map Delayed.key
  clock : t.clock = s.clock
  timeRange : t.timeRange = s.timeRange
  scan : t.scan = s.scan
  cfg : t.cfg = s.cfg
  access : t.access = s.access
  unlocks : t.unlocks = s.unlocks
  image : t.image = s.image
  imageValid : t.imageValid = s.imageValid
  saving : t.saving = s.saving
  drain : t.drain = s.drain
  pending : t.pending = s.pending
  st : ∀ a, BeliefKept (s.st a) (t.st a)

variable {s t u : State}

theorem State.Kept.granted (h : s.Kept BeliefKept t) : s.Granted t :=
  ⟨h.online, h.straps, h.mono, h.frac, h.cport, h.answers, by rw [h.fwd], by rw [h.fwd], h.clock, h.timeRange, h.scan,
    h.cfg, h.access, h.unlocks, h.image, h.imageValid, h.saving, h.drain, h.pending, h.st⟩

theorem State.Granted.refl (s : State) : s.Granted s := (State.Kept.refl beliefOrder s).granted

theorem State.Granted.trans (h : s.Granted t) (k : t.Granted u) : s.Granted u :=
  ⟨k.online.trans h.online, k.straps.trans h.straps, k.mono.trans h.mono, k.frac.trans h.frac, k.cport.trans h.cport,
    k.answers.trans h.answers, by rw [k.fwd, h.fwd], k.keys.trans h.keys, k.clock.trans h.clock,
    k.timeRange.trans h.timeRange, k.scan.trans h.scan, k.cfg.trans h.cfg, k.access.trans h.access,
    k.unlocks.trans h.unlocks, k.image.trans h.image, k.imageValid.trans h.imageValid, k.saving.trans h.saving,
    k.drain.trans h.drain, k.pending.trans h.pending, fun a => (h.st a).trans (k.st a)⟩

/-- A change of the master and the F-port alone. -/
theorem State.Granted.line (k : t = { s with master := t.master, fport := t.fport, mode := t.mode }) :
    s.Granted t := by
  have hst : ∀ a, t.st a = s.st a := fun a => State.st_congr _ _ (by rw [k]) a
  constructor
  case st => exact fun a => by rw [hst]; exact .refl _
  all_goals rw [k]

variable (s : State)

theorem State.setMaster_granted (m : Master) : s.Granted (s.setMaster m) := .line rfl

theorem State.offer_field_granted (f : Frame) : s.Granted (s.offer .f f) := by
  unfold State.offer
  dsimp only
  split <;> exact .line rfl

theorem State.startExchange_granted (x : Exchange) : s.Granted (s.startExchange x) :=
  (s.setMaster_granted _).trans (State.offer_field_granted _ _)

theorem State.startOwn_granted (c : ReqClass) (q : ReqRef) (a : Nat) (b : Body) :
    s.Granted (s.startOwn c q a b) := (s.setMaster_granted _).trans (State.startExchange_granted _ _)

theorem State.markInFlight_granted (k : DelayKey) : s.Granted (s.markInFlight k) := by
  constructor
  case st => exact fun a => by rw [State.st_congr (s.markInFlight k) s rfl]; exact .refl _
  case keys =>
    simp only [State.markInFlight, List.map_map]
    refine List.map_congr_left fun d _ => ?_
    simp only [Function.comp]
    split <;> rfl
  all_goals rfl

theorem State.arbitrate_granted (n : Nat) (s : State) : s.Granted (State.arbitrate n s) := by
  induction n generalizing s with
  | zero => exact .refl s
  | succ n ih =>
    unfold State.arbitrate
    split
    · exact .refl s
    · exact (s.markInFlight_granted _).trans (State.startExchange_granted _ _)
    · exact s.startExchange_granted _
    · exact s.startOwn_granted _ _ _ _
    · split
      · exact (s.startPark_kept _).granted.trans (State.startOwn_granted _ _ _ _ _)
      · exact (s.leavePark_kept _).granted.trans (ih _)
    · exact s.startOwn_granted _ _ _ _

theorem State.modeCheck_granted : s.Granted s.modeCheck := by
  unfold State.modeCheck
  split
  · exact .line rfl
  · exact .refl s

/-- The end of a step: everything a mode check and an arbitration can change. -/
theorem State.finish_granted : s.Granted s.finish := by
  unfold State.finish
  dsimp only
  split
  · exact s.modeCheck_granted.trans (State.arbitrate_granted _ _)
  · exact s.modeCheck_granted

end Sys2Proof.Machine
end

