-- ==== Sys2Proof/Laws/Queues.lean ====
section
/-! SUPPORT. The invariants over station records as checks that evaluate, each looking at the 127 addresses that have
records; and the reference test as one over the 32 group entries. -/

namespace Sys2Proof.Machine

/-- `queuesMatch` over the addresses that have records. -/
def State.queuesCheck (s : State) : Bool :=
  decide (s.parkQ ++ s.demandQ ++ s.schedQ).Nodup
    && (s.parkQ ++ s.demandQ ++ s.schedQ).all (fun a => 1 ≤ a && a ≤ 127)
    && addresses.all fun a =>
      (decide (a ∈ s.parkQ) == decide ((s.st a).state = .parkQueued))
        && (decide (a ∈ s.demandQ ++ s.schedQ) == decide ((s.st a).state = .wakeQueued))

theorem State.queuesMatch_of_check (s : State) (h : s.queuesCheck = true) : s.queuesMatch := by
  simp only [State.queuesCheck, Bool.and_eq_true, decide_eq_true_eq, List.all_eq_true, beq_iff_eq] at h
  obtain ⟨⟨hn, hr⟩, ha⟩ := h
  refine ⟨hn, fun a => ?_⟩
  by_cases hb : hasRecord a
  · have := ha a ((mem_addresses a).mpr hb)
    exact ⟨decide_eq_decide.mp this.1, decide_eq_decide.mp this.2⟩
  · have hout : a ∉ s.parkQ ++ s.demandQ ++ s.schedQ := by
      intro hm
      exact hb (hr a hm)
    rw [State.st_none s a hb]
    simp only [List.mem_append, not_or] at hout
    simp [hout, Station.reset]

/-- `withinCapacity` over the addresses that have records. -/
def State.capacityCheck (s : State) : Bool :=
  s.fwd.posted.length ≤ Config.postedCap && s.fwd.delayed.length ≤ Config.delayedCap
    && addresses.all fun a => (s.st a).hold.length ≤ Config.holdCap

theorem State.withinCapacity_of_check (s : State) (h : s.capacityCheck = true) : s.withinCapacity := by
  simp only [State.capacityCheck, Bool.and_eq_true, decide_eq_true_eq, List.all_eq_true] at h
  refine ⟨h.1.1, h.1.2, fun a => ?_⟩
  by_cases hb : hasRecord a
  · exact h.2 a ((mem_addresses a).mpr hb)
  · rw [State.st_none s a hb]
    simp [Station.reset]

/-- `parkMarksMatch` over the addresses that have records. -/
def State.parkMarksCheck (s : State) : Bool :=
  addresses.all fun a => (s.st a).parkMark.isSome == decide ((s.st a).state = .parked)

theorem State.parkMarksMatch_of_check (s : State) (h : s.parkMarksCheck = true) : s.parkMarksMatch := by
  simp only [State.parkMarksCheck, List.all_eq_true, beq_iff_eq] at h
  intro a
  by_cases hb : hasRecord a
  · rw [h a ((mem_addresses a).mpr hb), decide_eq_true_iff]
  · simp [State.st_none s a hb, Station.reset]

/-- `inrushInBudget` where one station at most is WAKING. -/
theorem State.inrushInBudget_of_single (s : State) (c : Nat) (h : addresses.all (fun a =>
    decide ((s.st a).state = .waking) == false || a == c) = true) : s.inrushInBudget := by
  simp only [List.all_eq_true, Bool.or_eq_true, beq_iff_eq, decide_eq_false_iff_not] at h
  have only : ∀ a, (s.st a).state = .waking → a = c := fun a ha =>
    (h a ((mem_addresses a).mpr (hasRecord_of_state s a (by simp [ha])))).resolve_left (fun hn => hn ha)
  exact .inr fun a b ha hb => (only a ha).trans (only b hb).symm

/-- The group entries that have station `a` as their reference are none. -/
theorem State.noReference_of_check (s : State) (a : Nat) (h : s.cfg.groups.toList.all (fun g =>
    match g with
    | .quorum _ _ ref _ _ => ref != a
    | .empty | .support .. => true) = true) : s.noReference a := by
  intro i ms k lo hi hg
  have hm : Group.quorum ms k a lo hi ∈ s.cfg.groups.toList := by
    unfold State.group at hg
    cases hi' : s.cfg.groups[i]? with
    | none => simp [hi'] at hg
    | some g =>
      rw [hi', Option.getD_some] at hg
      subst hg
      have : s.cfg.groups.toList[i]? = some (.quorum ms k a lo hi) := by simpa using hi'
      exact List.mem_of_getElem? this
  simpa using List.all_eq_true.mp h _ hm

/-- Nothing outside the records and the queues enters the queue invariant. -/
theorem State.queuesMatch_congr {s t : State} (h : s.queuesMatch) (hs : t.stations = s.stations)
    (hp : t.parkQ = s.parkQ) (hd : t.demandQ = s.demandQ) (hq : t.schedQ = s.schedQ) : t.queuesMatch := by
  refine ⟨by rw [hp, hd, hq]; exact h.1, fun a => ?_⟩
  rw [State.st_congr s t hs a, hp, hd, hq]
  exact h.2 a

end Sys2Proof.Machine
end

