-- ==== Sys2Proof/Laws/Timers.lean ====
section
/-! SUPPORT. When each timer's and port's command is due: every test of the idle tick as what it says of the state. -/

namespace Sys2Proof.Machine

theorem mem_due {b : Bool} {i c : Instr} : c ∈ due b i ↔ b = true ∧ c = i := by unfold due; split <;> simp_all

theorem State.reached_iff (s : State) (t : Option Nat) : s.reached t = true ↔ ∃ n, t = some n ∧ n ≤ s.mono := by
  cases t with
  | none => simp [State.reached]
  | some n =>
    simp [State.reached, State.now]
    exact decide_eq_true_iff

theorem State.sendOver_isSome (s : State) (p : Port) :
    (s.sendOver p).isSome = true ↔ ∃ f e, (s.port p).tx = .sending f e ∧ e ≤ s.lineTime := by
  unfold State.sendOver; cases (s.port p).tx <;> simp

theorem State.silentFor_iff (s : State) (p : Port) (n : Nat) :
    s.silentFor p n = true ↔ ∃ y, (s.port p).rx = .assembling y ∧ y.lastEnd + n * s.charTime < s.lineTime := by
  unfold State.silentFor State.lastEnd; cases (s.port p).rx <;> simp

theorem State.deadlineOver_isSome (s : State) :
    s.deadlineOver.isSome = true ↔ ∃ x d, s.master.st = .awaitReply x d ∧ d ≤ s.lineTime := by
  unfold State.deadlineOver; cases s.master.st <;> simp

theorem State.gapOver_iff (s : State) : s.gapOver = true ↔ ∃ x e, s.master.st = .gap x e ∧ e ≤ s.lineTime := by
  unfold State.gapOver; cases s.master.st <;> simp

theorem State.doneOver_iff (s : State) (d : Delayed) :
    s.doneOver d = true ↔ ∃ r n, d.st = .done r n ∧ n + 2000 ≤ s.mono := by
  unfold State.doneOver
  cases d.st with
  | done r n =>
    simp [Config.doneLife, State.now]
    exact decide_eq_true_iff
  | queued => simp
  | inFlight => simp

theorem State.soundingOver_isSome (s : State) (z : Nat) :
    (s.soundingOver z).isSome = true ↔ ∃ y, (s.zone z).sounding = some y ∧ y.ends ≤ s.mono := by
  unfold State.soundingOver
  cases (s.zone z).sounding with
  | none => simp
  | some y => by_cases h : y.ends ≤ s.mono <;> simp [State.now, h]

end Sys2Proof.Machine
end

