-- ==== Sys2Proof/Tests/Slice0.lean ====
section
/-! SUPPORT. Tests: each well-formedness check refuses an ill-formed term; worked values of the spec's own tables; and
for every statement with hypotheses a concrete state that meets them, clause by clause. -/

open Sys2Proof Sys2Proof.Machine

set_option Elab.async false

/-! ## Well-formedness: what each check refuses -/

theorem test_wf_source_zero : (Instr.controllerPoll 0 5 1).wellFormed = false := by decide
theorem test_wf_source_high : (Instr.pollOfGate 128 1).wellFormed = false := by decide
theorem test_wf_station_zero : (Instr.setIntake 100 0 1 ⟨.run, false, 0⟩).wellFormed = false := by decide
theorem test_wf_timer_station : (Instr.lockExpiry 128).wellFormed = false := by decide
theorem test_wf_zone : (Instr.soundingEnd 8).wellFormed = false := by decide
theorem test_wf_unexpected_kind : (Instr.unexpectedFrame ⟨5, 100, 1, .set ⟨.run, false, 0⟩⟩).wellFormed = false := by
  decide
theorem test_wf_reply_kind : (Instr.reply ⟨127, 5, 1, .poll⟩).wellFormed = false := by decide
theorem test_wf_stray_mgmt : (Instr.strayFrame ⟨127, 5, 1, .mgmt [1]⟩).wellFormed = false := by decide
theorem test_wf_field_mgmt : (Instr.fPortMgmt ⟨127, 5, 1, .poll⟩).wellFormed = false := by decide
theorem test_wf_fields_long : (Instr.save 100 1 (List.replicate 32 0)).wellFormed = false := by decide
theorem test_wf_known_code : (Instr.unknownRequestCode 100 1 0x10 []).wellFormed = false := by decide
theorem test_wf_cut_off : (Instr.frameDiscard .c (.cutOff (cleanSamples (charBits 5 false)))).wellFormed = false := by
  decide
theorem test_wf_frame : (⟨5, 100, 1, .ack 2⟩ : Frame).shapeOk = false := by decide
theorem test_wf_accepts : (Instr.controllerPoll 100 5 1).wellFormed = true := by decide

/-! ## Worked values -/

/-- The CRC of R7: the check value of nine ASCII digits for this polynomial, preset and order. -/
theorem test_crc : crc16 [0x31, 0x32, 0x33, 0x34, 0x35, 0x36, 0x37, 0x38, 0x39] = 0x29B1#16 := by decide +kernel

/-- A character reads back through one wrong sample in each bit time (R1 to R3). -/
theorem test_character : readChar (cleanSamples (charBits 0xA7 true) ^^^ 0x249249249#36) = some ⟨0xA7, true, none⟩ := by
  decide +kernel

/-- A low stop bit is a framing error whatever the parity (R3). -/
theorem test_framing : readChar (cleanSamples (false :: List.replicate 11 false)) = some ⟨0, false, some .framing⟩ := by
  decide +kernel

/-- R92's table of elapsed times. -/
theorem test_elapsed :
    [99, 2350, 60099, 60100, 183000].map elapsedUnits = [(0, 99), (23, 50), (600, 99), (600, 0), (600, 0)] := by decide

/-- R94's table of weights for T_idle 80, W_base 2, W_slope 6. -/
theorem test_weights :
    [0, 20].map (idleWeight { Policy.default with tIdle := 80, wBase := 2, wSlope := 6 }) = [7, 6] := by decide

/-- Rows 1 to 3 of the credit table of section 5.1: 0, 138, 42. -/
theorem test_credit_table :
    let p := { Policy.default with tIdle := 80, tBusy := 300, wBase := 2, wSlope := 6, drain := 4 }
    let r1 := Station.creditUpdate 10000 p 350 { Station.reset with lastObs := 10000 }
    let r2 := Station.creditUpdate 12350 p 20 r1
    let r3 := Station.creditUpdate 14700 p 120 r2
    [r1.credit, r2.credit, r3.credit] = [0, 138, 42] ∧ r3.lastObs = 14700 := by decide

/-- An MGMT to a station is dropped and counted, and in a drain answered NAK BUSY (R21, R47). -/
theorem test_mgmt_to_station :
    ([Drain.off, .running false].map fun d =>
      match exec (.unexpectedFrame ⟨5, 100, 7, .mgmt [0x10]⟩) { State.reset with drain := d } with
      | .next t => some (t.fwd.cnt.unexpected,
          match t.cport.tx with
          | .sending f _ => some f
          | _ => none)
      | .fault _ | .refused _ => none)
      = [some (1, none), some (0, some ⟨100, 127, 7, .nak 0xE2⟩)] := by decide +kernel

/-- Writes during a SAVE: BUSY for a WRITE GROUP and a WRITE SCAN LIST in range (R182), RANGE for a WRITE ZONE out of
range (R181). -/
theorem test_writes_in_save :
    ([Instr.writeGroup 100 1 [31, 0], .writeScanList 100 1 [0, 1, 0, 1, 5],
        .writeZone 100 1 [8, 0, 0]].map fun c =>
      match exec c { State.reset with saving := some State.reset.imageNow } with
      | .next t => (match t.cport.tx with
          | .sending f _ => some f.body
          | _ => none)
      | .fault _ | .refused _ => none)
      = [some (.mreply [0x21, Res.busy.code]), some (.mreply [0x41, Res.busy.code]),
          some (.mreply [0x33, Res.range.code])] := by decide +kernel

/-- State.reset is a power-on reset with the straps low followed by a start-up (R191, log 4). -/
theorem test_reset_is_start_up : (State.reset.powerOnReset 0 0 false).startUp = State.reset := by decide +kernel

/-! ## States for the witnesses -/

/-- The gate after reset, at address 127; station 5 has the default policy, a controller at 100 speaks. -/
def gate : State := State.reset

/-- Station 5's record. -/
def rec5 (f : Station → Station) : State := gate.modSt 5 f

def st5 (x : StState) (ph : Phase) : Station → Station := fun r => { r with state := x, phase := ph }

/-- A POLL or SET for station 5 under way at tag 7. -/
def ask (q : ReqRef) (b : Body) : Exchange := ⟨.g, q, ⟨5, 127, 7, b⟩⟩

def askPark : Exchange := ask (.gate 5 .park) (.set ⟨.park, false, 0⟩)
def askWake : Exchange := ask (.gate 5 .wake) (.set ⟨.wake, false, 0⟩)

/-- Waiting for the reply to an exchange until line time `d`. -/
def waits (s : State) (x : Exchange) (d : Nat) : State := { s with master := { s.master with st := .awaitReply x d } }

/-- Station 5's answer to it. -/
def answer5 (b : Body) : Frame := ⟨127, 5, 7, b⟩

def stat5 (run : RunState) (load : Half) : StatusRec := ⟨run, .none, load, 0, 1, 0⟩

/-- A posted SET of station 5 with order number 3. -/
def entry5 (attempts : Nat) : Entry := ⟨3, 100, 5, 7, .set ⟨.run, false, 0⟩, 0, attempts⟩

def posted5 (attempts : Nat) : State := { gate with fwd := { gate.fwd with posted := [entry5 attempts] } }

def delayed5 (st : DelayState) : Delayed := ⟨⟨5, .poll, 7⟩, 100, none, st, 0, 1⟩

def filed5 (st : DelayState) : State := { gate with fwd := { gate.fwd with delayed := [delayed5 st] } }

/-- A policy for station 5. -/
def pol5 (f : Policy → Policy) (s : State) : State := s.setPol 5 (f (s.pol 5))

def assembling (chars : List Byte) (e : Option CharError) : State :=
  { gate with cport := { gate.cport with rx := .assembling ⟨chars, e, 0⟩ } }

def sample (d : Byte) (m : Bool) : Samples := cleanSamples (charBits d m)

def pollFrame : Frame := ⟨5, 100, 9, .poll⟩

/-! ## Witnesses: the machine and the resets -/

theorem wit_IdleStepAdvancesTime :
    (gate.pending = [] ∧ gate.legalBase = true ∧ gate.online = true)
      ∧ ({ gate with online := false }.pending = [] ∧ { gate with online := false }.legalBase = true) := by
  decide +kernel

/-- A lock and a sounding whose times are reached are due, a moment earlier they are not. -/
theorem wit_IdleStepAdvancesTime_due :
    let s : State := (rec5 fun r => { r with lock := some 10 }).setZone 7 ⟨some ⟨0, 10, .fast⟩, 0⟩
    { s with mono := 10 }.dueCommands = [.soundingEnd 7, .lockExpiry 5] ∧ { s with mono := 9 }.dueCommands = [] := by
  decide +kernel

theorem wit_StepKeepsTimeAndStraps :
    exec (.storeCompletion true) gate = .next gate ∧ gate.legalBase = true
      ∧ step { gate with frac := 2303 } = .next { gate with frac := 2303 }.tick := ⟨rfl, by decide, rfl⟩

theorem wit_FrozenStaysFrozen :
    { gate with access := .frozen }.online = true ∧ step { gate with access := .frozen, pending := [.gapEnd] }
      = .next { gate with access := .frozen } := ⟨rfl, rfl⟩

theorem wit_StepKeepsCapacities :
    { (posted5 0) with pending := [.gapEnd] }.withinCapacity ∧ step { (posted5 0) with pending := [.gapEnd] }
      = .next (posted5 0) := ⟨State.withinCapacity_of_check _ (by decide +kernel), rfl⟩

theorem wit_StepKeepsQueuesMatched :
    { rec5 (st5 .parkQueued .none) with parkQ := [5], pending := [.gapEnd] }.queuesMatch
      ∧ step { rec5 (st5 .parkQueued .none) with parkQ := [5], pending := [.gapEnd] }
        = .next { rec5 (st5 .parkQueued .none) with parkQ := [5] } :=
  ⟨State.queuesMatch_of_check _ (by decide +kernel), rfl⟩

/-- One station WAKING within the budget, and one alone above it. -/
theorem wit_StepKeepsInrushInBudget :
    let s (w : Nat) := { pol5 (fun p => { p with weight := w }) (rec5 (st5 .waking .warn)) with pending := [.gapEnd] }
    ((s 8).inrush = 8 ∧ (s 8).cfg.params.budget = 8 ∧ (s 8).inrushInBudget)
      ∧ ((s 15).inrush = 15 ∧ (s 15).inrushInBudget)
      ∧ step { rec5 (st5 .waking .warn) with pending := [.gapEnd] } = .next (rec5 (st5 .waking .warn)) :=
  ⟨⟨by decide +kernel, by decide +kernel, .inl (by decide +kernel)⟩,
    ⟨by decide +kernel, State.inrushInBudget_of_single _ 5 (by decide +kernel)⟩, rfl⟩

theorem wit_StepKeepsParkMarks :
    let s := { rec5 (fun r => { st5 .parked .none r with parkMark := some 0 }) with pending := [.gapEnd] }
    s.queuesMatch ∧ s.parkMarksMatch ∧ (s.st 5).state = .parked ∧ step s = .next { s with pending := [] } :=
  ⟨State.queuesMatch_of_check _ (by decide +kernel), State.parkMarksMatch_of_check _ (by decide +kernel),
    by decide +kernel, rfl⟩

theorem wit_OnlyWritesMoveTables :
    (Instr.minuteBoundary).wellFormed = true ∧ tableWriter .minuteBoundary = false
      ∧ exec .minuteBoundary gate = .next gate := ⟨by decide, by decide, rfl⟩

/-- A scan list of one address, 5, at start index `i`. -/
def listedAt (i : Nat) : State :=
  { gate with cfg := { gate.cfg with scan :=
      { gate.cfg.scan with slots := gate.cfg.scan.slots.setIfInBounds i 5, len := i + 1, startIdx := i } } }

def autoStart (s : State) : State := { s with cfg := { s.cfg with scan := { s.cfg.scan with autoStart := true } } }

theorem wit_StartUp :
    (gate.powerOnReset 127 3 true).online = false ∧ (gate.powerOnReset 0 0 false).image.mode ≠ .draining
      ∧ { gate.powerOnReset 1 0 false with imageValid := true }.loadsImage = true
      ∧ gate.cfg.scan.autoStart = false ∧ (autoStart gate).cfg.scan.len = 0 := by decide +kernel

/-- A stored image that starts the scanner itself. -/
theorem wit_StartUp_scans :
    let s := { gate with online := false, imageValid := true, image := ⟨(autoStart (listedAt 31)).cfg, .pass⟩ }
    s.image.mode ≠ .draining ∧ ∃ t, exec .startUp s = .next t ∧ t.cfg.scan.autoStart = true
      ∧ t.dueEntry t.cfg.scan.startIdx :=
  ⟨by decide, _, rfl, by decide +kernel, by decide +kernel, by decide +kernel, by decide +kernel⟩

/-- With no held entry, with one, and with a scanner that starts itself from the last slot. -/
theorem wit_WarmResetGivesWarmValues :
    let s := { gate with drain := .running true }
    let h := s.modSt 5 fun r => { r with hold := [entry5 0] }
    let c := { autoStart (listedAt 31) with drain := .running true }
    (s.online = true ∧ s.warmDue = true ∧ s.cfg.scan.autoStart = false
        ∧ addresses.flatMap (fun a => (s.st a).hold) = [])
      ∧ (h.warmDue = true ∧ (addresses.flatMap (fun a => (h.st a).hold)).getLast? = some (entry5 0))
      ∧ (c.warmDue = true ∧ c.cfg.scan.startIdx < c.cfg.scan.len ∧ c.absentEntry c.cfg.scan.startIdx = false) := by
  decide +kernel

/-! ## Witnesses: the line -/

/-- A character with one wrong sample in each bit time, and the shortest and the longest frame. -/
theorem wit_CharactersAndFramesReadBack :
    (∀ i, i < 12 → 2 ≤ (List.range 3).countP (fun k =>
      (cleanSamples (charBits 0xA7 true) ^^^ 0x249249249#36).getLsbD (3 * i + k)
        == (charBits 0xA7 true).getD i false))
      ∧ pollFrame.shapeOk = true ∧ pollFrame.chars = 7
      ∧ (⟨5, 100, 9, .mgmt (List.replicate 32 0)⟩ : Frame).chars = 39 := by decide +kernel

theorem wit_frames_fit :
    pollFrame.shapeOk = true ∧ (⟨5, 100, 9, .mgmt (List.replicate 32 0)⟩ : Frame).shapeOk = true
      ∧ gate.listening .c = true ∧ gate.listening .f = true ∧ gate.cport.rx = .hunting ∧ gate.fport.rx = .hunting := by
  decide +kernel

/-- False start; characters between frames; a marker; a short frame; lengths 32 and 33; the end of a frame; at 1920
units after the last character the next is in time, one unit later overdue. -/
theorem wit_CompletedCharacterAssembles :
    readChar (BitVec.allOnes 36) = none
      ∧ readChar (sample 5 true) = some ⟨5, true, none⟩ ∧ readChar (sample 5 false) = some ⟨5, false, none⟩
      ∧ gate.silentFor .c 4 = false ∧ (assembling [1, 2, 3, 4] none).silentFor .c 4 = false
      ∧ ([1, 2, 3, 4] ++ [(33 : Byte)])[4]? = some 33 ∧ ([1, 2, 3, 4] ++ [(32 : Byte)])[4]? = some 32
      ∧ ([5, 100, 1, 9, 0, 1] ++ [(2 : Byte)]).length = (0 : Byte).toNat + 7
      ∧ frameTest [5, 100, 1, 9, 0, 1, 2] = .bad .crc ∧ frameTest pollFrame.bytes = .valid pollFrame
      ∧ (assembling [5] none).cport.rx = .assembling ⟨[5], none, 0⟩
      ∧ 0 + 4 * gate.charTime < { gate with frac := 1921 }.lineTime
      ∧ { assembling [5] none with frac := 1920 }.silentFor .c 4 = false := by
  decide +kernel

theorem wit_DiscardCountsFrameOnce :
    readChar (sample 5 true) = some ⟨5, true, none⟩
      ∧ (assembling [5] none).cport.rx = .assembling ⟨[5], none, 0⟩
      ∧ 0 + 3 * gate.charTime < { gate with frac := 1441 }.lineTime
      ∧ { gate with frac := 1440 }.lineTime ≤ 0 + 3 * gate.charTime := by decide +kernel

theorem wit_ControllerPortSends :
    let slot (x : TxState) : State := { gate with cport := { gate.cport with tx := x } }
    (slot (.deferring pollFrame)).online = true ∧ (slot (.deferring pollFrame)).cport.rx = .hunting
      ∧ (slot (.sending pollFrame 1)).lineTime < 1 ∧ 0 ≤ (slot (.sending pollFrame 0)).lineTime
      ∧ (slot (.sending pollFrame 0)).answers = []
      ∧ { slot (.sending pollFrame 0) with answers := [pollFrame] }.answers = [pollFrame] := by decide +kernel

theorem wit_FieldPortSends :
    let sends (x : Exchange) : State :=
      { gate with fport := { gate.fport with tx := .sending x.frame 0 }, master := { gate.master with st := .sending x } }
    (sends askPark).online = true ∧ 0 ≤ (sends askPark).lineTime ∧ askPark.frame.dst.toNat ≠ 0
      ∧ (⟨.p, .entry 3, ⟨0, 100, 7, .time 5⟩⟩ : Exchange).frame.dst.toNat = 0 := by decide +kernel

/-! ## Witnesses: forwarding -/

theorem wit_controller_frames :
    gate.hears 100 = true ∧ gate.hears 1 = true ∧ gate.serves 5 = true ∧ gate.serves 126 = true
      ∧ gate.draining = false := by decide +kernel

theorem wit_PollJudgedAgainstTable :
    gate.findDelayed ⟨5, .poll, 7⟩ = none ∧ gate.fwd.delayed.length < 4
      ∧ 4 ≤ { gate with fwd := { gate.fwd with delayed := List.replicate 4 (delayed5 .queued) } }.fwd.delayed.length
      ∧ (filed5 .queued).findDelayed ⟨5, .poll, 7⟩ = some (delayed5 .queued)
      ∧ (filed5 .inFlight).findDelayed ⟨5, .poll, 7⟩ = some (delayed5 .inFlight)
      ∧ { delayed5 .queued with payload := some ⟨.run, false, 0⟩ }.payload ≠ none
      ∧ (filed5 .queued).hears 100 = true ∧ (filed5 .queued).serves 5 = true
      ∧ { filed5 .queued with drain := .running false }.draining = true := by decide +kernel

/-- Results to collect: no reply, a NAK, and a STATUS of a station not held and held. -/
theorem wit_PollJudgedAgainstTable_results :
    let s (r : Result) := filed5 (.done r 0)
    let nak : Result := .frame (answer5 (.nak 9))
    let status : Result := .frame (answer5 (.status (stat5 .running 0)))
    (s .noReply).findDelayed ⟨5, .poll, 7⟩ = some (delayed5 (.done .noReply 0))
      ∧ (s nak).findDelayed ⟨5, .poll, 7⟩ = some (delayed5 (.done nak 0))
      ∧ (s status).findDelayed ⟨5, .poll, 7⟩ = some (delayed5 (.done status 0))
      ∧ (s status).held 5 = false ∧ ((s status).modSt 5 (st5 .parked .none)).held 5 = true := by decide +kernel

theorem wit_SetsAnsweredWithoutAPlace :
    { gate with drain := .running false }.hears 100 = true ∧ { gate with drain := .running false }.serves 5 = true
      ∧ { gate with drain := .running false }.draining = true := by decide +kernel

/-- An empty list with room and with a full buffer; behind a list of one and of two. -/
theorem wit_PostedSetIsBuffered :
    let h (l : List Entry) := rec5 fun r => { r with hold := l }
    let sp : Entry := { entry5 0 with what := .set ⟨.setpoint, false, 5⟩ }
    (gate.pol 5).nonPosted = false ∧ gate.held 5 = false ∧ (gate.st 5).hold = [] ∧ gate.fwd.posted.length < 8
      ∧ 8 ≤ { gate with fwd := { gate.fwd with posted := List.replicate 8 (entry5 0) } }.fwd.posted.length
      ∧ (h [sp]).coalesces 5 ⟨.setpoint, false, 6⟩ = true ∧ (h [sp]).coalesces 5 ⟨.run, false, 6⟩ = false
      ∧ (h [sp, sp]).coalesces 5 ⟨.run, false, 6⟩ = false ∧ (h [sp]).held 5 = false := by
  decide +kernel

/-- A SET for a station that waits in the park queue (R25, R112). -/
theorem wit_PostedSetIsBuffered_queued :
    let s : State := { rec5 (fun r => { st5 .parkQueued .none r with credit := 9 }) with parkQ := [5] }
    (s.hears 100 && s.serves 5 && !s.held 5) = true
      ∧ [Instr.setIntake 100 5 1 ⟨.run, false, 0⟩, .broadcastSet 100 1 ⟨.run, false, 0⟩].map (fun c =>
          match exec c s with
          | .next t => some ((t.st 5).state, (t.st 5).credit, t.parkQ)
          | .fault _ | .refused _ => none) = [some (.free, 0, []), some (.free, 0, [])] := by decide +kernel

theorem wit_SetpointIsHeld :
    let s (h : List Entry) := rec5 fun r => { st5 .parked .none r with hold := h }
    let sp : Entry := { entry5 0 with what := .set ⟨.setpoint, false, 5⟩ }
    ((s []).hears 100 && (s []).serves 5 && !(s []).draining && (s []).held 5) = true
      ∧ ((s []).pol 5).setpointWakes = false
      ∧ (s [sp]).coalesces 5 ⟨.setpoint, false, 6⟩ = true
      ∧ (s []).coalesces 5 ⟨.setpoint, false, 6⟩ = false
      ∧ (s [entry5 0, entry5 0]).coalesces 5 ⟨.setpoint, false, 6⟩ = false := by decide +kernel

/-- Held stations a demand, a NOOP or a STOP may come to: PARKED, with and without a held SETPOINT, with a full list, in
WARN and in COMMAND. -/
theorem wit_held_station :
    let sp : Entry := { entry5 0 with what := .set ⟨.setpoint, false, 5⟩ }
    let s (l : List Entry) := rec5 fun r => { st5 .parked .none r with hold := l }
    let w := pol5 (fun p => { p with setpointWakes := true }) (s [sp])
    ((s []).hears 100 && (s []).serves 5 && !(s []).draining && (s []).held 5) = true
      ∧ ((s []).pol 5).nonPosted = false ∧ (s []).fwd.posted.length < 8 ∧ (s []).liveSupporters 5 = []
      ∧ (w.pol 5).setpointWakes = true ∧ w.coalesces 5 ⟨.setpoint, false, 6⟩ = true
      ∧ (s [sp]).coalesces 5 ⟨.run, false, 0⟩ = false ∧ (s [sp, sp]).coalesces 5 ⟨.run, false, 0⟩ = false
      ∧ ((rec5 (st5 .waking .warn)).held 5 && (rec5 (st5 .waking .command)).held 5) = true := by
  decide +kernel

theorem wit_held_station_queues :
    (rec5 (st5 .parked .none)).queuesMatch ∧ (rec5 (st5 .waking .warn)).queuesMatch
      ∧ (rec5 (st5 .waking .command)).queuesMatch
      ∧ { rec5 (st5 .wakeQueued .none) with schedQ := [5] }.queuesMatch :=
  ⟨State.queuesMatch_of_check _ (by decide +kernel), State.queuesMatch_of_check _ (by decide +kernel),
    State.queuesMatch_of_check _ (by decide +kernel), State.queuesMatch_of_check _ (by decide +kernel)⟩

theorem wit_NonPostedSetIsDelayedOrRefused :
    let np (x : StState) := pol5 (fun p => { p with nonPosted := true }) (rec5 (st5 x .none))
    let filed (st : DelayState) : State :=
      { np .free with fwd := { gate.fwd with delayed := [⟨⟨5, .set, 7⟩, 100, some ⟨.run, false, 0⟩, st, 0, 1⟩] } }
    ((np .parked).pol 5).nonPosted = true ∧ (np .parked).held 5 = true ∧ (np .free).held 5 = false
      ∧ ((np .parkQueued).st 5).state = .parkQueued ∧ (np .parked).findDelayed ⟨5, .set, 7⟩ = none
      ∧ (np .parked).hears 100 = true ∧ (np .parked).serves 5 = true ∧ (np .parked).draining = false
      ∧ (np .free).fwd.delayed.length < 4
      ∧ ((filed .queued).findDelayed ⟨5, .set, 7⟩).map Delayed.payload = some (some ⟨.run, false, 0⟩)
      ∧ ((filed (.done .noReply 0)).findDelayed ⟨5, .set, 7⟩).map Delayed.st = some (.done .noReply 0) := by
  decide +kernel

theorem wit_NonPostedSetIsDelayedOrRefused_queues :
    (pol5 (fun p => { p with nonPosted := true }) (rec5 (st5 .parked .none))).queuesMatch
      ∧ { pol5 (fun p => { p with nonPosted := true }) (rec5 (st5 .parkQueued .none)) with parkQ := [5] }.queuesMatch :=
  ⟨State.queuesMatch_of_check _ (by decide +kernel), State.queuesMatch_of_check _ (by decide +kernel)⟩

theorem wit_UncollectedResultIsDiscarded :
    (filed5 (.done .noReply 0)).online = true
      ∧ (filed5 (.done .noReply 0)).findDelayed ⟨5, .poll, 7⟩ = some (delayed5 (.done .noReply 0))
      ∧ 0 + 2000 ≤ { filed5 (.done .noReply 0) with mono := 2000 }.mono
      ∧ { filed5 (.done .noReply 0) with mono := 1999 }.mono < 0 + 2000 := by decide +kernel

/-- Frames to the gate, to an ABSENT address (the default of 9 made so), to a station and to address 0. -/
theorem wit_FramesFollowDestinationAndKind :
    let s := gate.setPol 9 { Policy.default with cls := .absent }
    gate.hears 100 = true ∧ Req.ofCode 0x17 = none ∧ (List.replicate 31 (0 : Byte)).length ≤ 31
      ∧ (⟨byte gate.straps.addr, 100, 7, .ack 1⟩ : Frame).shapeOk = true
      ∧ s.listening .c = true ∧ (s.pol 9).cls = .absent ∧ (s.pol 5).cls ≠ .absent
      ∧ (⟨9, 100, 7, .poll⟩ : Frame).shapeOk = true ∧ (⟨5, 100, 7, .mgmt [1]⟩ : Frame).shapeOk = true
      ∧ (⟨0, 100, 7, .mgmt [1]⟩ : Frame).shapeOk = true
      ∧ { gate with drain := .running false }.hears 100 = true ∧ { gate with drain := .running false }.draining = true
      ∧ (.save, .save 100 7 []) ∈ guardedCommands 100 7 [] ++ admittedCommands 100 7 []
      ∧ (.unlock, .unlock 100 7 [1]) ∈ guardedCommands 100 7 [1] ++ admittedCommands 100 7 [1] := by decide +kernel

theorem wit_Broadcasts :
    gate.hears 100 = true ∧ gate.cfg.params.takeTime = true ∧ gate.anyHeld = false
      ∧ (rec5 (st5 .waking .warn)).anyHeld = true ∧ stationAddress 1 = true ∧ stationAddress 127 = true
      ∧ (604799999#32).toNat < 604800000 ∧ 604800000 ≤ (604800000#32).toNat := by decide +kernel

/-! ## Witnesses: the field line -/

theorem wit_ReplyEndsEntryExchange :
    let x : Exchange := ⟨.p, .entry 3, ⟨5, 100, 7, .set ⟨.run, false, 0⟩⟩⟩
    let s := waits (posted5 0) x 0
    s.hearsField (answer5 (.ack 0)) = true ∧ x.fits (answer5 (.ack 0)) = true ∧ x.fits (answer5 (.nak 9)) = true
      ∧ s.findEntry x.frame.dst.toNat 3 = some (entry5 0) := by decide +kernel

theorem wit_ReplyReachesItsOwner :
    let x := ask (.delayed ⟨5, .poll, 7⟩) .poll
    let s := waits (filed5 .inFlight) x 0
    s.hearsField (answer5 (.status (stat5 .running 0))) = true ∧ x.fits (answer5 (.status (stat5 .running 0))) = true
      ∧ x.fits (answer5 (.nak 9)) = true ∧ (answer5 (.nak 9)).src.toNat ≠ s.straps.addr := by decide +kernel

/-- A NAK to a follow-up in COAST, in SETTLE and in neither. -/
theorem wit_ReplyReachesItsOwner_followUp :
    let s (x : StState) (p : Phase) := waits (rec5 (st5 x p)) (ask (.gate 5 .followUp) .poll) 0
    (s .parking .coast).hearsField (answer5 (.nak 9)) = true
      ∧ (ask (.gate 5 .followUp) .poll).fits (answer5 (.nak 9)) = true
      ∧ (s .parking .coast).inPhase 5 .parking .coast = true ∧ (s .waking .settle).inPhase 5 .waking .settle = true
      ∧ ((s .free .none).inPhase 5 .parking .coast || (s .free .none).inPhase 5 .waking .settle) = false := by
  decide +kernel

/-- The scanner polling the first of two addresses, in mode `m`, a stop pending or not, with spacing `w`. -/
def polling (m : ScanMode) (stop : Bool) (w : Nat) : State :=
  let s := listedAt 1
  { waits s ⟨.s, .scan 5, ⟨5, 127, 7, .poll⟩⟩ 0 with
    scan := { s.scan with st := .scanning, running := m, stopPending := stop }
    cfg := { s.cfg with scan := { s.cfg.scan with slots := s.cfg.scan.slots.setIfInBounds 0 6, spacing := w } } }

/-- A NAK to a scan poll in a SINGLE scan, with a stop pending, and going on with and without a spacing. -/
theorem wit_ReplyReachesItsOwner_scan :
    let ends (s : State) : Option (ScanState × Nat × Option Nat) :=
      match exec (.reply (answer5 (.nak 9))) s with
      | .next t => some (t.scan.st, t.scan.pos, t.scan.waitEnd)
      | .fault _ | .refused _ => none
    (polling .single false 0).hearsField (answer5 (.nak 9)) = true
      ∧ [ends (polling .single false 0), ends (polling .repeating true 0), ends (polling .repeating false 0),
          ends (polling .repeating false 100)]
        = [some (.idle, 0, none), some (.idle, 1, none), some (.scanning, 1, none), some (.waiting, 1, some 100)] := by
  decide +kernel

theorem wit_ReplyReachesItsOwner_entries :
    let v := polling .repeating false 0
    v.skips (v.scan.pos + 1) 1 ∧ v.dueEntry 1 :=
  ⟨⟨by decide, fun n h k => absurd (lt_of_lt_of_le k h) (lt_irrefl n)⟩, by constructor <;> decide +kernel⟩

theorem wit_ReplyToParkOrWake :
    let p := waits (rec5 (st5 .parking .command)) askPark 0
    let w := waits (rec5 (st5 .waking .command)) askWake 0
    p.hearsField (answer5 (.ack 0)) = true ∧ askPark.fits (answer5 (.ack 0)) = true
      ∧ askWake.fits (answer5 (.nak 9)) = true ∧ p.inPhase 5 .parking .command = true
      ∧ w.inPhase 5 .waking .command = true ∧ (waits gate askPark 0).inPhase 5 .parking .command = false := by
  decide +kernel

/-- Station 5 asked by a follow-up poll of tag 7. -/
def polled (s : State) : State := waits s (ask (.gate 5 .followUp) .poll) 0

/-- A STATUS of station 5 in reply to its poll is an observation. -/
theorem polled_observes (f : Station → Station) (r : StatusRec)
    (h : (polled (rec5 f)).hearsField (answer5 (.status r)) = true) :
    (polled (rec5 f)).observes (ask (.gate 5 .followUp) .poll) (answer5 (.status r)) r :=
  ⟨h, ⟨0, rfl⟩, rfl, rfl, rfl, (by decide : 5 ≠ 127)⟩

theorem gate_noReference (f : Station → Station) : (polled (rec5 f)).noReference 5 :=
  State.noReference_of_check _ 5 (by rw [show (polled (rec5 f)).cfg = gate.cfg from rfl]; decide +kernel)

/-- A FREE station and a queued one, a busy load (boundary 1000) and an idle one, a start seen, a FAULT. -/
theorem wit_ObservationIntegratesCredit :
    let failed := { stat5 .running 1000 with cause := .fault }
    (polled (rec5 (st5 .free .none))).observes (ask (.gate 5 .followUp) .poll)
        (answer5 (.status (stat5 .running 1000))) (stat5 .running 1000)
      ∧ (polled (rec5 (st5 .free .none))).observes (ask (.gate 5 .followUp) .poll)
        (answer5 (.status failed)) failed
      ∧ (polled (rec5 (st5 .free .none))).queuesMatch
      ∧ { polled (rec5 (st5 .parkQueued .none)) with parkQ := [5] }.queuesMatch
      ∧ ((polled gate).pol 5).cls ≠ .absent :=
  ⟨polled_observes _ _ rfl, polled_observes _ _ rfl, State.queuesMatch_of_check _ (by decide +kernel),
    State.queuesMatch_of_check _ (by decide +kernel), by decide⟩

/-- A station that stands in every test of eligibility, its zone open all week, and one that fails the credit test. -/
def eligible5 (credit : Nat) : State :=
  let s := polled (rec5 fun r =>
    { st5 .free .none r with shadow := .run, lastStart := some 0, credit := credit, lastObs := 10000000 })
  { pol5 (fun p => { p with cPark := 5, minRun := 0, wBase := 1 }) s with
    mode := .active, mono := 10000000, clock := ⟨true, 0, 0⟩
    cfg := { (pol5 (fun p => { p with cls := .managed, cPark := 5, minRun := 0, wBase := 1 }) s).cfg with
      windows := gate.cfg.windows.setIfInBounds 0 ⟨255, 127, 0, 0⟩ } }

theorem eligible5_observes (c : Nat) :
    (eligible5 c).observes (ask (.gate 5 .followUp) .poll) (answer5 (.status (stat5 .running 0))) (stat5 .running 0) :=
  ⟨rfl, ⟨0, rfl⟩, rfl, rfl, rfl, (by decide : 5 ≠ 127)⟩

/-- The two sides of the credit test. -/
theorem wit_EligibleStationJoinsParkQueue :
    (eligible5 4).noReference 5 ∧ (eligible5 5).noReference 5
      ∧ [4, 5].map (fun c => match exec (.reply (answer5 (.status (stat5 .running 0)))) (eligible5 c) with
          | .next t => (t.st 5).state
          | .fault _ | .refused _ => .unknown) = [.free, .parkQueued] :=
  ⟨State.noReference_of_check _ 5 (by decide +kernel), State.noReference_of_check _ 5 (by decide +kernel),
    by decide +kernel⟩

theorem wit_EligibleStationJoinsParkQueue_queues : (eligible5 4).queuesMatch ∧ (eligible5 5).queuesMatch :=
  ⟨State.queuesMatch_of_check _ (by decide +kernel), State.queuesMatch_of_check _ (by decide +kernel)⟩

/-- An UNKNOWN station seen STOPPED with cause PARKED, and seen running. -/
theorem wit_ObservationAdoptsUnknown :
    let parked := { stat5 .stopped 0 with cause := .parked }
    (polled (rec5 id)).observes (ask (.gate 5 .followUp) .poll) (answer5 (.status parked)) parked
      ∧ (polled (rec5 id)).observes (ask (.gate 5 .followUp) .poll) (answer5 (.status (stat5 .running 0)))
        (stat5 .running 0)
      ∧ (polled (rec5 id)).queuesMatch ∧ (polled (rec5 id)).noReference 5
      ∧ ((polled (rec5 id)).st 5).state = .unknown ∧ (polled (rec5 id)).setPending 5 = false :=
  ⟨polled_observes _ _ rfl, polled_observes _ _ rfl, State.queuesMatch_of_check _ (by decide +kernel),
    gate_noReference _, by decide +kernel, by decide +kernel⟩

/-- The held states, each polled: PARKING and WAKING in their phases, PARKED; the observations are those above. -/
theorem wit_ObservationMovesHeldStation :
    (∀ x ∈ [(StState.parking, Phase.command), (.parking, .coast), (.parked, .none), (.waking, .warn),
        (.waking, .command), (.waking, .settle)],
      (polled (rec5 (st5 x.1 x.2))).held 5 = true ∧ (polled (rec5 (st5 x.1 x.2))).queuesMatch)
      ∧ ∀ r, (polled (rec5 (st5 .parking .coast))).hearsField (answer5 (.status r)) = true →
        (polled (rec5 (st5 .parking .coast))).observes (ask (.gate 5 .followUp) .poll) (answer5 (.status r)) r :=
  ⟨by
    intro x hx
    simp only [List.mem_cons, List.not_mem_nil, or_false] at hx
    obtain rfl | rfl | rfl | rfl | rfl | rfl := hx <;>
      exact ⟨by decide +kernel, State.queuesMatch_of_check _ (by decide +kernel)⟩,
    fun r h => polled_observes _ r h⟩

/-- Station 5 WAKE_QUEUED and FAULTED by its own report, with station 6 that it supports. -/
theorem wit_ObservationMovesHeldStation_supported :
    let s : State := { (polled (rec5 (st5 .wakeQueued .none))).modSt 6 (st5 .wakeQueued .none) with
      schedQ := [5, 6], cfg := { gate.cfg with groups := gate.cfg.groups.setIfInBounds 0 (.support [5] [6]) } }
    s.supported 5 = [6] ∧ s.held 5 = true
      ∧ (match exec (.reply (answer5 (.status { stat5 .stopped 0 with cause := .fault }))) s with
          | .next t => some ((t.st 5).fault, (t.st 6).fault)
          | .fault _ | .refused _ => none) = some (some .stationFault, some .supportFault) := by decide +kernel

/-- Station 5 the reference of entry 31, marks 300 and 600, its member 6 PARKED. -/
def referred : State :=
  { (polled gate).modSt 6 (st5 .parked .none) with
    cfg := { gate.cfg with groups := gate.cfg.groups.setIfInBounds 31 (.quorum [6] 1 5 300 600) } }

/-- Either side of each mark. -/
theorem wit_ReferenceStarvesItsGroups :
    let seen (b : Bool) (aux : Half) : Option (Bool × StState) :=
      match exec (.reply (answer5 (.status { stat5 .running 0 with aux := aux }))) (referred.setStarved 31 b) with
      | .next t => some (t.isStarved 31, (t.st 6).state)
      | .fault _ | .refused _ => none
    referred.group 31 = .quorum [6] 1 5 300 600
      ∧ [seen false 299, seen false 300, seen true 599, seen true 600]
        = [some (true, .waking), some (false, .parked), some (true, .parked), some (false, .parked)] := by
  decide +kernel

/-- Station 5 the reference and a member of entry 31, in each state the statement names. -/
def ownReference (x : StState) (p : Phase) : State :=
  { polled (rec5 (st5 x p)) with
    parkQ := if x = .parkQueued then [5] else [], schedQ := if x = .wakeQueued then [5] else []
    cfg := { gate.cfg with groups := gate.cfg.groups.setIfInBounds 31 (.quorum [5] 1 5 300 600) } }

theorem wit_ReferenceStarvesItsGroups_member :
    let seen (r : StatusRec) (s : State) : Option (StState × List Nat) :=
      match exec (.reply (answer5 (.status { r with aux := 299 }))) { s with drain := .running false } with
      | .next t => some ((t.st 5).state, t.demandQ)
      | .fault _ | .refused _ => none
    let parked := { stat5 .stopped 0 with cause := .parked }
    (ownReference .parked .none).group 31 = .quorum [5] 1 5 300 600
      ∧ [seen parked (ownReference .parked .none), seen parked (ownReference .wakeQueued .none),
          seen parked (ownReference .unknown .none), seen parked (ownReference .parking .coast),
          seen (stat5 .running 0) (ownReference .free .none), seen (stat5 .running 0) (ownReference .parkQueued .none)]
        = [some (.wakeQueued, [5]), some (.wakeQueued, [5]), some (.wakeQueued, [5]), some (.wakeQueued, [5]),
            some (.free, []), some (.free, [])] := by decide +kernel

/-- The credit of a reference that starves its own entry after 2350 ms: idle, busy, faulted, and not running. -/
theorem wit_ReferenceStarvesItsGroups_credit :
    let credit (x : StState) (r : StatusRec) : Option (StState × Nat) :=
      match exec (.reply (answer5 (.status { r with aux := 299 })))
          { (ownReference x .none).modSt 5 (fun y => { y with credit := 3 }) with
            mono := 2350, drain := .running false } with
      | .next t => some ((t.st 5).state, (t.st 5).credit)
      | .fault _ | .refused _ => none
    [credit .free (stat5 .running 0), credit .parkQueued (stat5 .running 0), credit .parkQueued (stat5 .stopped 0),
        credit .free (stat5 .running 1000), credit .free { stat5 .running 0 with cause := .fault }]
      = [some (.free, 26), some (.free, 26), some (.free, 3), some (.free, 0), some (.free, 0)] := by decide +kernel

theorem wit_ReferenceStarvesItsGroups_member_queues :
    (ownReference .parked .none).queuesMatch ∧ (ownReference .wakeQueued .none).queuesMatch
      ∧ (ownReference .unknown .none).queuesMatch ∧ (ownReference .parking .coast).queuesMatch
      ∧ (ownReference .free .none).queuesMatch ∧ (ownReference .parkQueued .none).queuesMatch := by
  refine ⟨?_, ?_, ?_, ?_, ?_, ?_⟩ <;> exact State.queuesMatch_of_check _ (by decide +kernel)

theorem wit_ReferenceStarvesItsGroups_observes :
    referred.queuesMatch ∧ referred.observes (ask (.gate 5 .followUp) .poll) (answer5 (.status (stat5 .running 0)))
      (stat5 .running 0) :=
  ⟨State.queuesMatch_of_check _ (by decide +kernel), rfl, ⟨0, rfl⟩, rfl, rfl, rfl, by decide⟩

theorem wit_StrayAndUnsolicitedDropped :
    (waits gate askPark 0).hearsField ⟨127, 6, 7, .ack 0⟩ = true ∧ isMgmt ⟨127, 6, 7, .ack 0⟩ = false
      ∧ askPark.fits ⟨127, 6, 7, .ack 0⟩ = false
      ∧ gate.hearsField ⟨127, 6, 7, .mgmt [1]⟩ = true ∧ isMgmt ⟨127, 6, 7, .mgmt [1]⟩ = true := by decide +kernel

theorem wit_unsolicited : ∀ x d, gate.master.st ≠ .awaitReply x d := fun _ _ => nofun

theorem wit_ReplyDeadlineEndsExchange :
    let e : Exchange := ⟨.p, .entry 3, ⟨5, 100, 7, .set ⟨.run, false, 0⟩⟩⟩
    (waits (posted5 1) e 1).online = true ∧ (waits (posted5 1) e 1).lineTime < 1
      ∧ 0 ≤ (waits (posted5 1) e 0).lineTime
      ∧ (waits (posted5 1) e 0).findEntry 5 3 = some (entry5 1) ∧ (entry5 1).attempts < 2
      ∧ (waits (posted5 2) e 0).findEntry 5 3 = some (entry5 2) ∧ 2 ≤ (entry5 2).attempts
      ∧ (waits (rec5 (st5 .parking .command)) askPark 0).inPhase 5 .parking .command = true
      ∧ (waits (rec5 (st5 .waking .command)) askWake 0).inPhase 5 .waking .command = true
      ∧ (waits (rec5 (st5 .parking .coast)) (ask (.gate 5 .followUp) .poll) 0).inPhase 5 .parking .coast = true
      ∧ stationAddress 5 = true ∧ gate.scan.running ≠ .single ∧ gate.cfg.scan.spacing ≠ 0 := by decide +kernel

/-- A gap that has ended, with no request, a delayed request, an entry, a due WAKE, the head of the park queue, or the
scanner's poll. -/
theorem wit_GapEndGrants :
    let idle (s : State) : State := { s with master := { s.master with st := .idle } }
    let parkable := { rec5 (st5 .parkQueued .none) with parkQ := [5] }
    gate.online = true ∧ { gate with frac := 1439 }.lineTime < 1440 ∧ (idle gate).arbitration = none
      ∧ (idle (filed5 .queued)).arbitration = some (.r (delayed5 .queued))
      ∧ (idle (posted5 0)).arbitration = some (.p (entry5 0))
      ∧ (idle (rec5 (st5 .waking .command))).arbitration = some (.g (.request 5 .wake))
      ∧ (idle parkable).arbitration = some (.g (.head 5)) ∧ parkable.recheck 5 = false
      ∧ (idle { gate with scan := { gate.scan with st := .scanning } }).arbitration = some (.s 0) := by decide +kernel

theorem wit_GapEndGrants_recheck :
    let s := { rec5 (st5 .parkQueued .none) with
      parkQ := [5], clock := ⟨true, 0, 0⟩
      cfg := { gate.cfg with windows := gate.cfg.windows.setIfInBounds 0 ⟨255, 127, 0, 0⟩ } }
    s.arbitration = some (.g (.head 5)) ∧ s.recheck 5 = true ∧ stationAddress 5 = true
      ∧ ({ rec5 (st5 .parkQueued .none) with parkQ := [5] }.leavePark 5 false).arbitration = none := by decide +kernel

theorem wit_GapEndGrants_queues : { rec5 (st5 .parkQueued .none) with parkQ := [5] }.queuesMatch :=
  State.queuesMatch_of_check _ (by decide +kernel)

theorem wit_ArbitrationFollowsTable :
    let counts (g n : Nat) (s : State) : State := { s with master := { s.master with gPass := g, sPass := n } }
    let scanning : State := { gate with scan := { gate.scan with st := .scanning } }
    (counts 4 0 (rec5 (st5 .waking .command))).pickG = some (.request 5 .wake)
      ∧ (counts 0 8 scanning).pickS = some 0 ∧ (waits scanning ⟨.s, .scan 0, ⟨0, 127, 7, .poll⟩⟩ 0).pickS = none
      ∧ (filed5 .queued).classR ≠ [] ∧ (posted5 0).classR = [] ∧ (posted5 0).classP ≠ [] ∧ gate.classP = []
      ∧ gate.pickG = none := by decide +kernel

/-- Classes R and P: a delayed request behind an older entry and before a younger one, a sendable held entry, a
broadcast behind an older entry, and the posted entry that a drain still sends. -/
theorem wit_ArbitrationFollowsTable_queues :
    let filed (n : Nat) : State :=
      { posted5 0 with fwd := { (posted5 0).fwd with delayed := [{ delayed5 .queued with seq := n }] } }
    let hold := rec5 fun r => { st5 .free .none r with hold := [entry5 0] }
    let behind : State := { gate with fwd := { gate.fwd with posted := [entry5 0, { entry5 0 with dst := 0, seq := 4 }] } }
    (filed 4).classR = [] ∧ (filed 2).classR ≠ [] ∧ (filed 2).classP = [] ∧ hold.classP = [entry5 0]
      ∧ behind.classP = [entry5 0]
      ∧ { filed 2 with drain := .running false }.classP = [entry5 0]
      ∧ { filed 2 with drain := .running false }.draining = true := by decide +kernel

/-- Class G: of two WAKEs the one whose warning was satisfied first, of two equal times the lower address; a follow-up
that is due and one that is not; a PARK retry; a head of the park queue that may be sent, and one with its lock set. -/
theorem wit_ArbitrationFollowsTable_offers :
    let wakes (m n : Nat) : State :=
      (rec5 fun r => { st5 .waking .command r with satisfiedAt := some m }).modSt 6 fun r =>
        { st5 .waking .command r with satisfiedAt := some n }
    let follow := rec5 fun r => { st5 .parking .coast r with nextFollowUp := some 10 }
    let head := { rec5 (st5 .parkQueued .none) with parkQ := [5] }
    [(wakes 2 1).pickG, (wakes 1 1).pickG, { follow with mono := 10 }.pickG, follow.pickG,
        (rec5 fun r => { st5 .parking .command r with firstSent := some 0 }).pickG, head.pickG,
        (head.modSt 5 fun r => { r with lock := some 9 }).pickG]
      = [some (.request 6 .wake), some (.request 5 .wake), some (.request 5 .followUp), none,
          some (.request 5 .park), some (.head 5), none] := by decide +kernel

/-! ## Witnesses: timers -/

theorem wit_LockAndFollowUpTimes :
    let l := rec5 fun r => { r with lock := some 10 }
    let c := rec5 fun r => { st5 .parking .coast r with nextFollowUp := some 10 }
    (l.st 5).lock = some 10 ∧ { l with mono := 9 }.mono < 10 ∧ 10 ≤ { l with mono := 10 }.mono
      ∧ c.inPhase 5 .parking .coast = true ∧ (c.st 5).nextFollowUp = some 10
      ∧ { c with mono := 10 }.arbitration = some (.g (.request 5 .followUp)) ∧ gate.master.st = .idle
      ∧ gate.inPhase 5 .parking .coast = false := by decide +kernel

/-- A WAKE_QUEUED station of zone 2 at the head of the demand queue, the zone's warning time `w`. -/
def queued (w : Nat) : State :=
  { pol5 (fun p => { p with zone := 2 }) (rec5 (st5 .wakeQueued .none)) with
    demandQ := [5], cfg := { (pol5 (fun p => { p with zone := 2 }) gate).cfg with
      zones := gate.cfg.zones.setIfInBounds 2 ⟨w, .slow⟩ } }

theorem wit_AdmissionStartsWake :
    (queued 0).online = true ∧ (queued 0).draining = false ∧ (queued 0).demandQ = [5]
      ∧ ((queued 0).st 5).parkedSince = none ∧ ((queued 0).pol 5).startsLimit = 0 ∧ (queued 0).supporters 5 = []
      ∧ (queued 0).inrush + ((queued 0).pol 5).weight ≤ (queued 0).cfg.params.budget ∧ ((queued 0).pol 5).zone < 8
      ∧ ((queued 0).zoneCfg 2).warnTime = 0 ∧ ((queued 5).zoneCfg 2).warnTime ≠ 0
      ∧ ((queued 5).zone 2).sounding = none ∧ ((queued 5).zone 2).warnedUntil ≤ (queued 5).mono
      ∧ (((queued 5).setZone 2 ⟨some ⟨0, 9, .slow⟩, 0⟩).zone 2).sounding = some ⟨0, 9, .slow⟩ := by decide +kernel

/-- A station parked since 1000 ms, its min off of 60 s over. -/
theorem wit_AdmissionStartsWake_minOff :
    let s := { (queued 0).modSt 5 fun r => { r with parkedSince := some 1000 } with mono := 61000 }
    (s.st 5).parkedSince = some 1000 ∧ (s.pol 5).minOff * 1000 ≤ 60000 ∧ s.demandQ = [5]
      ∧ (s.st 5).state = .wakeQueued := by decide +kernel

theorem wit_AdmissionStartsWake_queues : (queued 0).queuesMatch := State.queuesMatch_of_check _ (by decide +kernel)

/-- Demand queue 5, 6, 7 and scheduled queue 8, each of weight 3: 5, below no limit of starts, is not ready where
`held`; the budget is `budget`. -/
def waiting (held : Bool) (budget : Nat) : State :=
  let wq (a : Nat) (s : State) : State :=
    (s.modSt a (st5 .wakeQueued .none)).setPol a { s.pol a with weight := 3, startsLimit := if a = 5 then 1 else 0 }
  let s := wq 5 (wq 6 (wq 7 (wq 8 (waits gate askPark 0))))
  { s.modSt 5 (fun r => { r with starts := if held then [0] else [] }) with
    demandQ := [5, 6, 7], schedQ := [8]
    cfg := { s.cfg with params := { s.cfg.params with budget := budget } } }

/-- R146's walk: an entry not ready passed over, the scheduled queue walked after the demand queue, the first entry
that does not fit blocking all behind it at each edge of the budget, and the first let in whatever its weight. -/
theorem wit_AdmissionStartsWake_walk :
    let walk (s : State) : List Nat := s.letIn s.inrush s.anyWaking (s.demandQ ++ s.schedQ)
    let seen (s : State) : Option (List Nat × List Nat) :=
      match exec (.protectionTime 6) s with
      | .next t => some (t.demandQ, t.schedQ)
      | .fault _ | .refused _ => none
    [(true, 9), (true, 8), (false, 12), (false, 11), (false, 0)].map (fun x => walk (waiting x.1 x.2))
        = [[6, 7, 8], [6, 7], [5, 6, 7, 8], [5, 6, 7], [5]]
      ∧ seen (waiting true 8) = some ([5], [8]) ∧ seen (waiting false 0) = some ([6, 7], [8]) := by decide +kernel

/-- Where the command acts and where it does not: 6 WAKE_QUEUED, 9 not; 5 held by its starts alone, then by both. -/
theorem wit_AdmissionStartsWake_reached :
    let both := (waiting true 9).modSt 5 fun r => { r with parkedSince := some 0 }
    let s := both.setPol 5 { both.pol 5 with minOff := 1 }
    (waiting true 9).online = true ∧ (waiting true 9).draining = false ∧ (waiting true 9).master.st ≠ .idle
      ∧ ((waiting true 9).st 6).state = .wakeQueued ∧ ((waiting true 9).pol 6).startsLimit = 0
      ∧ ((waiting true 9).st 9).state ≠ .wakeQueued ∧ ((waiting true 9).st 5).parkedSince = none
      ∧ { s with mono := 1000 }.protectionOver 5 = true ∧ { s with mono := 999 }.protectionOver 5 = false
      ∧ gate.parkQ = [] := by decide +kernel

theorem wit_AdmissionStartsWake_walk_queues : (waiting true 9).queuesMatch ∧ (waiting false 0).queuesMatch := by
  constructor <;> exact State.queuesMatch_of_check _ (by decide +kernel)

theorem wit_PhaseDeadlinesFault :
    let c := rec5 fun r => { st5 .parking .coast r with phaseDeadline := some 10 }
    let w := rec5 fun r => { st5 .waking .settle r with phaseDeadline := some 10 }
    c.online = true ∧ (c.st 5).phaseDeadline = some 10 ∧ (w.st 5).phaseDeadline = some 10
      ∧ c.inPhase 5 .parking .coast = true ∧ w.inPhase 5 .waking .settle = true
      ∧ { c with mono := 9 }.mono < 10 ∧ 10 ≤ { c with mono := 10 }.mono := by decide +kernel

/-- A zone that sounds until 10 ms, station 5 waiting on it. -/
def sounding : State := (rec5 (st5 .waking .warn)).setZone 0 ⟨some ⟨0, 10, .fast⟩, 0⟩

theorem wit_SoundingEndSatisfiesWarnings :
    sounding.online = true ∧ (sounding.zone 0).sounding = some ⟨0, 10, .fast⟩ ∧ { sounding with mono := 9 }.mono < 10
      ∧ 10 ≤ { sounding with mono := 10 }.mono ∧ (sounding.st 5).state = .waking ∧ sounding.parkQ = [] := by
  decide +kernel

/-- R150's table: either side of each edge of SLOW and of FAST, and of the sounding end. -/
theorem wit_SoundingEndSatisfiesWarnings_output :
    let at_ (p : Pattern) (n : Nat) : Bool :=
      { gate.setZone 0 ⟨some ⟨1000, 21000, p⟩, 0⟩ with mono := n }.zoneOutput 0
    [at_ .steady 1000, at_ .steady 20999, at_ .steady 21000] = [true, true, false]
      ∧ [at_ .slow 1000, at_ .slow 1499, at_ .slow 1500, at_ .slow 1999, at_ .slow 2000, at_ .slow 21000]
        = [true, true, false, false, true, false]
      ∧ [at_ .fast 1000, at_ .fast 1124, at_ .fast 1125, at_ .fast 1249, at_ .fast 1250]
        = [true, true, false, false, true] ∧ gate.zoneOutput 0 = false := by decide +kernel

theorem wit_SoundingEndSatisfiesWarnings_queues : sounding.queuesMatch :=
  State.queuesMatch_of_check _ (by decide +kernel)

/-- Station 5 PARKED, due to wake at 10 ms. -/
def dueAt10 : State := rec5 fun r => { st5 .parked .none r with wakeDue := some 10 }

theorem wit_WakeDueExpiryWakesParked :
    dueAt10.online = true ∧ (dueAt10.st 5).wakeDue = some 10 ∧ { dueAt10 with mono := 9 }.mono < 10
      ∧ 10 ≤ { dueAt10 with mono := 10 }.mono ∧ (dueAt10.st 5).state = .parked ∧ dueAt10.liveSupporters 5 = []
      ∧ { dueAt10 with drain := .running false }.draining = true := by decide +kernel

theorem wit_WakeDueExpiryWakesParked_queues : dueAt10.queuesMatch := State.queuesMatch_of_check _ (by decide +kernel)

/-- Station 5 waits for supporter 6: PARKED, or FAULTED; and station 5 FREE. -/
theorem wit_WakeDueExpiryWakesParked_supporters :
    let s (x : StState) := { dueAt10.modSt 6 (st5 x .none) with
      cfg := { gate.cfg with groups := gate.cfg.groups.setIfInBounds 0 (.support [6] [5]) } }
    (s .parked).liveSupporters 5 = [6] ∧ (s .parked).supporters 6 = [] ∧ ((s .faulted).st 6).state = .faulted
      ∧ ((dueAt10.modSt 5 (st5 .free .none)).st 5).wakeDue = some 10 := by decide +kernel

/-- Station 5's PARKED supporter 6 leaves PARKED with it; station 7, PARKED and no supporter, stays. -/
theorem wit_WakeDueExpiryWakesParked_chain :
    let s : State := { (dueAt10.modSt 6 (st5 .parked .none)).modSt 7 (st5 .parked .none) with
      mono := 10, cfg := { gate.cfg with groups := gate.cfg.groups.setIfInBounds 0 (.support [6] [5]) } }
    s.liveSupporters 5 = [6] ∧ s.liveSupporters 6 = [] ∧ (s.st 6).state = .parked
      ∧ (match exec (.wakeDueExpiry 5) s with
          | .next t => some ((t.st 5).state, (t.st 6).state, (t.st 7).state)
          | .fault _ | .refused _ => none) = some (.wakeQueued, .waking, .parked) := by decide +kernel

/-- In a drain the walk is breadth first: 5, its supporters 6 and 7, then 9 behind 6 and 8 behind 7, with 6 behind 8
already in the queue. -/
def deepChain : State :=
  let p (a : Nat) (s : State) : State := s.modSt a (st5 .parked .none)
  { p 6 (p 7 (p 8 (p 9 dueAt10))) with
    mono := 10, drain := .running false
    cfg :=
      { gate.cfg with
        groups :=
          (((gate.cfg.groups.setIfInBounds 0 (.support [6, 7] [5])).setIfInBounds 1 (.support [9] [6])).setIfInBounds 2
            (.support [8] [7])).setIfInBounds 3 (.support [6] [8]) } }

theorem wit_WakeDueExpiryWakesParked_deep :
    deepChain.walkOrder 128 [5] [5] = [5, 6, 7, 9, 8] ∧ deepChain.draining = true
      ∧ (match exec (.wakeDueExpiry 5) deepChain with
          | .next t => some t.schedQ
          | .fault _ | .refused _ => none) = some [5, 6, 7, 9, 8] := by decide +kernel

/-- Nothing in the gate of the walk is FAULTED, and its queues match. -/
theorem wit_WakeDueExpiryWakesParked_deep_states :
    deepChain.queuesMatch ∧ ∀ b ∈ addresses, (deepChain.st b).state ≠ .faulted :=
  ⟨State.queuesMatch_of_check _ (by decide +kernel), by decide +kernel⟩

/-- Station 7 is not reached from station 5. -/
theorem wit_WakeDueExpiryWakesParked_kept :
    ¬ (dueAt10.modSt 7 (st5 .parked .none)).chained 5 7 ∧ ((dueAt10.modSt 7 (st5 .parked .none)).st 7).state = .parked := by
  refine ⟨fun h => ?_, by decide +kernel⟩
  rcases Relation.ReflTransGen.cases_head h with h | ⟨c, h, -⟩
  · exact absurd h (by decide)
  · rw [show (dueAt10.modSt 7 (st5 .parked .none)).liveSupporters 5 = [] by decide +kernel] at h
    exact List.not_mem_nil h.1

/-- Station 5 PARK_QUEUED at Monday 01:00, when the window of its zone closes. -/
def closing : State :=
  { rec5 (st5 .parkQueued .none) with
    parkQ := [5], clock := ⟨true, 3600000, 0⟩
    cfg := { gate.cfg with windows := gate.cfg.windows.setIfInBounds 0 ⟨1, 1, 0, 60⟩ } }

theorem wit_MinuteBoundaryClosesZones :
    closing.online = true ∧ closing.clock.valid = true ∧ closing.weekTime % 60000 = 0
      ∧ { closing with mono := 1 }.weekTime % 60000 ≠ 0 ∧ gate.clock.valid = false
      ∧ (closing.st 5).state = .parkQueued ∧ (closing.pol 5).zone < 8
      ∧ closing.openAt 0 ((closing.weekMinute + 10079) % 10080) = true
      ∧ closing.openAt 0 closing.weekMinute = false := by decide +kernel

theorem wit_MinuteBoundaryClosesZones_queues : closing.queuesMatch :=
  State.queuesMatch_of_check _ (by decide +kernel)

/-! ## Witnesses: management -/

theorem wit_management :
    gate.managed 100 = true ∧ gate.admits = true ∧ gate.named 1 = true ∧ gate.named 126 = true
      ∧ gate.named 127 = false ∧ gate.named 0 = false ∧ gate.named 128 = false ∧ stationAddress 127 = true
      ∧ stationAddress 128 = false := by decide +kernel

theorem wit_TablesReadBackAsWritten :
    Policy.default.inRange = true ∧ gate.groupInRange (.support [1] [2]) = true
      ∧ gate.groupInRange (.quorum [1, 2] 2 3 0 65535) = true := by decide +kernel

theorem wit_StatisticsAreAccounted :
    ((rec5 (st5 .parked .none)).st 5).state = .parked ∧ (127 : Byte).toNat = gate.straps.addr
      ∧ { Station.reset with parkMark := some 5 }.parkMark = some 5 := by decide +kernel

/-- R99: 999 ms count nothing, 1000 and 1999 ms one second, and the sums saturate. -/
theorem wit_StatisticsAreAccounted_sums :
    let at_ (now : Nat) (n e : Nat) : Option Nat × Nat × Nat :=
      let u := Station.account now 7
        { Station.reset with
          parkMark := some 5, stats := { Station.reset.stats with parkedSeconds := n, energy := e } }
      (u.parkMark, u.stats.parkedSeconds, u.stats.energy)
    [at_ 1004 0 0, at_ 1005 0 0, at_ 2004 0 0, at_ 2005 0 0, at_ 2005 4294967294 281474976710642]
      = [(some 5, 0, 0), (some 1005, 1, 7), (some 1005, 1, 7), (some 2005, 2, 14),
          (some 2005, 4294967295, 281474976710655)]
      ∧ Station.reset.parkMark = none := by decide +kernel

theorem wit_PolicyWriteReplacesPolicy :
    Policy.default.bytes.length = 27 ∧ Policy.ofBytes Policy.default.bytes = some Policy.default
      ∧ Policy.ofBytes (List.replicate 27 9) = none
      ∧ (Policy.ofBytes (0 :: List.replicate 26 0)).any (fun p => !p.inRange) = true
      ∧ (gate.st 5).state = .unknown := by decide +kernel

theorem wit_queues_at_rest : gate.queuesMatch := State.queuesMatch_of_check _ (by decide +kernel)

theorem wit_HoldAwakeReleaseAndClearFault : ((rec5 (st5 .faulted .none)).st 5).state = .faulted := by decide +kernel

theorem wit_GroupWriteReplacesEntry :
    let g : Group := .support [1] [5]
    let s := rec5 (st5 .waking .warn)
    groupLength 2 18 = true ∧ Group.ofFields g.kind g.fields = some g ∧ s.groupInRange g = true
      ∧ withinLimit (s.cfg.groups.setIfInBounds 31 g).toList g = true
      ∧ hasCycle (s.cfg.groups.setIfInBounds 31 g).toList = false
      ∧ hasCycle [.support [1] [2], .support [2] [1]] = true
      ∧ withinLimit (List.replicate 5 (.quorum [1] 0 0 0 0)) (.quorum [1] 0 0 0 0) = false
      ∧ (s.pol 1).cls ≠ .absent ∧ (s.st 1).state ≠ .free ∧ (s.st 5).state = .waking
      ∧ (waits s askPark 0).master.st ≠ .idle := by decide +kernel

/-- The ends of the ranges; a zone that a set closes, and one that the minute of the same instant closes. -/
theorem wit_ClockAndWindowWrites :
    beVal [0x24, 0x0C, 0x83, 0xFF] < 604800000 ∧ 604800000 ≤ beVal [0x24, 0x0C, 0x84, 0x00]
      ∧ beVal [0x05, 0x9F] ≤ 1439 ∧ 1439 < beVal [0x05, 0xA0]
      ∧ { closing with clock := ⟨true, 0, 0⟩ }.zoneOpen 0 = true ∧ closing.zoneOpen 0 = false
      ∧ closing.clock.valid = true ∧ closing.weekTime % 60000 = 0
      ∧ closing.openAt 0 ((closing.weekMinute + 10079) % 10080) = true := by decide +kernel

/-- Spans of R167 at their edges: within a day, past midnight, past the week's end and a full day. -/
theorem wit_ClockAndWindowWrites_covers :
    let at_ (w : Window) (l : List Nat) : List Bool := l.map (w.covers 0)
    at_ ⟨1, 1, 60, 120⟩ [59, 60, 119, 120, 1500] = [false, true, true, false, false]
      ∧ at_ ⟨1, 1, 1380, 60⟩ [1379, 1380, 1439, 1440, 1499, 1500] = [false, true, true, true, true, false]
      ∧ at_ ⟨1, 64, 1380, 60⟩ [10019, 10020, 10079, 0, 59, 60] = [false, true, true, true, true, false]
      ∧ at_ ⟨1, 1, 5, 5⟩ [4, 5, 1444, 1445] = [false, true, true, false]
      ∧ (⟨1, 1, 60, 120⟩ : Window).covers 1 60 = false := by decide +kernel

/-- Span ends of R168 with the window 60 to 120 of Monday: open, in its last minute, shut, and open all week. -/
theorem wit_ClockAndWindowWrites_spanEnd :
    let s (w : Window) (n : Nat) : State :=
      { gate with
        clock := ⟨true, n, 0⟩, cfg := { gate.cfg with windows := gate.cfg.windows.setIfInBounds 0 w } }
    [3600000, 3600001, 7199999, 7200000].map (fun n => (s ⟨1, 1, 60, 120⟩ n).timeToSpanEnd 0)
        = [some 3600000, some 3599999, some 1, some 0]
      ∧ (s ⟨1, 127, 0, 0⟩ 5).timeToSpanEnd 0 = none
      ∧ (s ⟨1, 1, 60, 120⟩ 3600000).zoneOpen 0 = true ∧ (s ⟨1, 1, 60, 120⟩ 7200000).zoneOpen 0 = false := by
  decide +kernel

/-- A SET broadcast forwarded over the park queue: station 5 leaves it to FREE with credit 0. -/
theorem wit_Broadcasts_queued :
    let s : State := { rec5 (fun r => { st5 .parkQueued .none r with credit := 9 }) with parkQ := [5] }
    s.hears 100 = true ∧ s.anyHeld = false ∧ s.draining = false ∧ s.fwd.posted.length < 8
      ∧ (s.pol 5).cls ≠ .absent ∧ s.queuesCheck = true
      ∧ (match exec (.broadcastSet 100 1 ⟨.run, false, 0⟩) s with
          | .next t => some ((t.st 5).state, (t.st 5).credit, t.parkQ)
          | .fault _ | .refused _ => none) = some (.free, 0, []) := by decide +kernel

/-- A TIME broadcast that closes the zone of a queued station. -/
theorem wit_Broadcasts_closing :
    let s : State := { closing with clock := ⟨true, 0, 0⟩ }
    s.hears 100 = true ∧ s.cfg.params.takeTime = true ∧ s.zoneOpen 0 = true
      ∧ { s with clock := ⟨true, 3600000, 0⟩ }.zoneOpen 0 = false
      ∧ (match exec (.timeBroadcast 100 1 3600000) s with
          | .next t => some (t.st 5).state
          | .fault _ | .refused _ => none) = some .free := by decide +kernel

/-- A clock set taken before the MINUTE_BOUNDARY of its instant lets the closing zone's queued station go (R164). -/
theorem test_set_clock_at_closing_minute :
    (match exec (.setClock 100 1 [0x00, 0x36, 0xEE, 0x81]) closing with
      | .next t => some ((t.st 5).state, t.weekTime, t.parkQ)
      | .fault _ | .refused _ => none) = some (.free, 3600001, []) := by decide +kernel

theorem wit_ModeAndWakeZonesWakeParked :
    { gate with mode := .active }.managed 100 = true ∧ { gate with mode := .active }.admits = true
      ∧ gate.mode ≠ .active ∧ (1 : Byte).toNat.testBit (gate.pol 5).zone = true
      ∧ (2 : Byte).toNat.testBit (gate.pol 5).zone = false ∧ gate.supported 5 = [] := by decide +kernel

theorem wit_ModeAndWakeZonesWakeParked_queues : { gate with mode := .active }.queuesMatch :=
  State.queuesMatch_congr wit_queues_at_rest rfl rfl rfl rfl

theorem wit_SettingsRequests :
    Pattern.ofCode 2 = some .fast ∧ Pattern.ofCode 3 = none
      ∧ (pol5 (fun p => { p with weight := 15 }) (rec5 (st5 .waking .warn))).inrush = 15 := by decide +kernel

/-- The list of one address, 5. -/
def listed : State := listedAt 0

/-- Lists and parameters in range and out of it, SCAN STOP in each state. -/
theorem wit_ScannerRequests :
    ScanMode.ofCode 0 = some .single ∧ flagOf 1 = some true ∧ gate.cfg.scan.len = 0 ∧ gate.scan.st = .idle
      ∧ 0 ∉ (placeRun gate.cfg.scan.slots 0 [5]).toList.take 1
      ∧ 0 ∈ (placeRun gate.cfg.scan.slots 0 [5]).toList.take 2
      ∧ listed.managed 100 = true ∧ listed.admits = true ∧ listed.cfg.scan.len = 1
      ∧ { listed with scan := { listed.scan with st := .scanning } }.scanOffers = true
      ∧ { waits listed ⟨.s, .scan 5, ⟨5, 127, 7, .poll⟩⟩ 0 with
            scan := { listed.scan with st := .scanning } }.scanOffers = false
      ∧ { listed with scan := { listed.scan with st := .waiting, waitEnd := some 0 } }.scan.waitEnd = some 0
      ∧ listed.mono < listed.scan.passStart + listed.cfg.scan.period * 1000
      ∧ listed.scan.passStart + listed.cfg.scan.period * 1000 ≤ { listed with mono := 3600000 }.mono := by
  decide +kernel

/-- A due entry at the start index; one behind a skipped entry (slot 0 empty, address 0's record ABSENT); the end of
the list. -/
theorem wit_ScannerRequests_entries :
    (listed.dueEntry 0 ∧ listed.skips 0 0) ∧ listed.skips 1 1
      ∧ let s := (listedAt 1).setPol 9 { Policy.default with cls := .absent }
        let v := { s with cfg := { s.cfg with scan := { s.cfg.scan with slots := s.cfg.scan.slots.setIfInBounds 0 9 } } }
        v.skips 0 1 ∧ v.dueEntry 1 :=
  ⟨⟨by constructor <;> decide +kernel, le_rfl, fun _ _ h => absurd h (by omega)⟩,
    ⟨le_rfl, fun _ h k => absurd k (by omega)⟩,
    ⟨by decide, fun n _ h => by obtain rfl : n = 0 := by omega
                                exact .inl (by decide +kernel)⟩, by constructor <;> decide +kernel⟩

theorem wit_AccessSaveAndWarmReset :
    let s := { gate with access := .locked, cfg := { gate.cfg with code := List.replicate 16 1 } }
    s.managed 100 = true ∧ s.saving = none ∧ s.cfg.code.length = 16 ∧ List.replicate 16 2 ≠ s.cfg.code
      ∧ { s with access := .frozen }.managed 100 = true ∧ { s with access := .unlocked }.admits = true
      ∧ gate.online = true ∧ { gate with saving := some gate.imageNow }.saving = some gate.imageNow := by
  decide +kernel

theorem wit_GuardedRequestsRefused :
    (.save, .save 100 1 []) ∈ guardedCommands 100 1 [] ∧ { gate with access := .frozen }.managed 100 = true
      ∧ { gate with access := .locked }.managed 100 = true
      ∧ { gate with saving := some gate.imageNow }.saving.isSome = true
      ∧ guardedLength .save [] = true ∧ guardedLength .save [0] = false
      ∧ guardedLength .writeGroup (0 :: 2 :: List.replicate 18 0) = true
      ∧ guardedLength .writeGroup (0 :: 2 :: List.replicate 17 0) = false
      ∧ guardedLength .writeScanList [0, 1, 0, 1, 5] = true ∧ 31 < (32 : Byte).toNat
      ∧ guardedLength .writeGroup [32, 0] = true ∧ guardedLength .writeScanList [0, 1, 32, 0] = true := by decide +kernel
end

section
/-! SUPPORT. What the scanner's selection and start-up change, and the Forwarding unit's state after start-up. -/

namespace Sys2Proof.Machine

/-! ## The scanner's selection changes the scanner alone (R176, R177) -/

theorem State.scanSkip_changes_scan (s : State) (counted : Bool) (next : State → State)
    (hnext : ∀ u : State, ∃ c, next u = u.setScan c) : ∃ c, s.scanSkip counted next = s.setScan c := by
  unfold State.scanSkip
  dsimp only
  split
  · exact ⟨_, rfl⟩
  · obtain ⟨c, hc⟩ := hnext (s.setScan _)
    exact ⟨c, hc⟩

theorem State.scanSelect_changes_scan (n : Nat) (s : State) : ∃ c, State.scanSelect n s = s.setScan c := by
  induction n generalizing s with
  | zero => exact ⟨_, rfl⟩
  | succ n ih =>
    unfold State.scanSelect
    dsimp only
    split
    · split
      · exact ⟨_, rfl⟩
      · exact ⟨_, rfl⟩
      · split
        · exact ⟨_, rfl⟩
        · obtain ⟨c, hc⟩ := ih (s.setScan _)
          exact ⟨c, hc⟩
    · split
      · exact s.scanSkip_changes_scan false _ ih
      · split
        · exact s.scanSkip_changes_scan true _ ih
        · exact ⟨_, rfl⟩

theorem State.startScan_changes_scan (s : State) (m : ScanMode) : ∃ c, s.startScan m = s.setScan c := by
  obtain ⟨c, hc⟩ := State.scanSelect_changes_scan 80 (s.setScan _)
  exact ⟨c, hc⟩

theorem State.autoScan_changes_scan (s : State) : ∃ c, s.autoScan = s.setScan c := by
  unfold State.autoScan
  split
  · exact s.startScan_changes_scan .repeating
  · exact ⟨s.scan, rfl⟩

/-! ## Start-up -/

theorem exec_startUp_of_offline (s : State) (h : s.online = false) : exec .startUp s = .next s.startUp := by
  change execStartUp s = _
  simp [execStartUp, h]

@[simp] theorem State.powerOnValues_fwd (s : State) : s.powerOnValues.fwd = .reset := rfl
@[simp] theorem State.powerOnValues_answers (s : State) : s.powerOnValues.answers = [] := rfl

@[simp] theorem State.powerOnValues_st (s : State) (a : Nat) : s.powerOnValues.st a = .reset := by
  by_cases ha : hasRecord a
  · obtain ⟨n, rfl⟩ := Nat.exists_eq_add_of_le' ha.1
    have hn : n < 127 := Nat.lt_of_succ_le ha.2
    simp [State.st, State.powerOnValues, State.reset, hn]
  · exact State.st_none _ a ha

/-- After the power-on values start-up changes the scanner, and then no more than the grant that ends every step. -/
theorem State.startUp_granted (s : State) : ∃ c, (s.powerOnValues.setScan c).Granted s.startUp := by
  obtain ⟨c, hc⟩ := s.powerOnValues.autoScan_changes_scan
  exact ⟨c, hc ▸ s.powerOnValues.autoScan.finish_granted⟩

/-- A grant moves the states of delayed entries only, so it leaves an empty table empty. -/
theorem State.Granted.fwd_of_no_delayed {s t : State} (h : s.Granted t) (hd : s.fwd.delayed = []) :
    t.fwd = s.fwd := by
  have hnil : t.fwd.delayed = [] := by simpa [hd] using h.keys
  rw [h.fwd, hnil, ← hd]

theorem State.startUp_fwd (s : State) : s.startUp.fwd = .reset := by
  obtain ⟨c, hg⟩ := s.startUp_granted
  simpa using hg.fwd_of_no_delayed (by simp [Fwd.reset])

theorem State.startUp_answers (s : State) : s.startUp.answers = [] := by
  obtain ⟨c, hg⟩ := s.startUp_granted
  simpa using hg.answers

theorem State.startUp_belief (s : State) (a : Nat) : Station.BeliefKept .reset (s.startUp.st a) := by
  obtain ⟨c, hg⟩ := s.startUp_granted
  simpa using hg.st a

/-- Settles O12: the Forwarding unit and the answers are those of the power-on values, which the scanner's start and
the first grant leave alone; each record keeps the hold list, the shadow and the lock of a reset record (R46). -/
theorem startUpForwardingValues : Obligations.StartUpForwardingValues := by
  intro s hoff
  refine ⟨s.startUp, exec_startUp_of_offline s hoff, ?_⟩
  rw [s.startUp_fwd]
  refine ⟨rfl, rfl, s.startUp_answers, fun a => ?_, rfl, rfl⟩
  have hb := s.startUp_belief a
  exact ⟨hb.hold, hb.shadow, hb.lock⟩

end Sys2Proof.Machine
end

section
/-! SUPPORT. What a valid frame on the F-port comes to when the master takes no reply from it (R51, R52). -/

namespace Sys2Proof.Machine

variable {s : State} {f : Frame}

theorem isMgmt_of_body {bs : List Byte} (h : f.body = .mgmt bs) : isMgmt f = true := by
  simp [isMgmt, h]

theorem exists_body_of_isMgmt (h : isMgmt f = true) : ∃ bs, f.body = .mgmt bs := by
  unfold isMgmt at h
  split at h
  · next bs hb => exact ⟨bs, hb⟩
  · contradiction

/-- The F-port's counterpart of `State.arrive_station`: the frame reaches the master (R9). -/
theorem State.arrive_field (h : s.hearsField f = true) : s.arrive .f f = (s.hunt .f).fieldFrame f := by
  obtain ⟨hl, hf⟩ := Bool.and_eq_true_iff.mp h
  exact s.arrive_ok .f f hl hf

/-! ## The master drops a frame: one counter rises and nothing else moves -/

/-- An MGMT is dropped in every state of the master, before any test of R50 (R51, R52). -/
theorem State.fieldFrame_mgmt (h : isMgmt f = true) :
    s.fieldFrame f = s.setMaster { s.master with fMgmt := satAdd Config.max16 s.master.fMgmt 1 } := by
  obtain ⟨bs, hb⟩ := exists_body_of_isMgmt h
  simp only [State.fieldFrame, hb]

/-- A frame that fails a test of R50 is stray (R51). -/
theorem State.fieldFrame_stray {x : Exchange} {d : Nat} (h : isMgmt f = false)
    (hm : s.master.st = .awaitReply x d) (hx : x.fits f = false) :
    s.fieldFrame f = s.setMaster { s.master with stray := satAdd Config.max16 s.master.stray 1 } := by
  unfold State.fieldFrame
  split
  · next bs hb => exact absurd (isMgmt_of_body hb) (by simp [h])
  · simp [hm, hx]

/-- A frame to a master in IDLE, SENDING or GAP is unsolicited (R52). -/
theorem State.fieldFrame_unsolicited (h : isMgmt f = false) (hm : ∀ x d, s.master.st ≠ .awaitReply x d) :
    s.fieldFrame f = s.setMaster { s.master with unsolicited := satAdd Config.max16 s.master.unsolicited 1 } := by
  unfold State.fieldFrame
  split
  · next bs hb => exact absurd (isMgmt_of_body hb) (by simp [h])
  · split
    · next x d hst => exact absurd hst (hm x d)
    · rfl

/-! ## The three commands -/

theorem exec_strayFrame (h : s.hearsField f = true) :
    exec (.strayFrame f) s = .next ((s.hunt .f).fieldFrame f) :=
  congrArg _ (State.arrive_field h)

theorem exec_unsolicitedFrame (h : s.hearsField f = true) :
    exec (.unsolicitedFrame f) s = .next ((s.hunt .f).fieldFrame f) :=
  congrArg _ (State.arrive_field h)

theorem exec_fPortMgmt (h : s.hearsField f = true) :
    exec (.fPortMgmt f) s = .next ((s.hunt .f).fieldFrame f) :=
  congrArg _ (State.arrive_field h)

/-- Settles O34: the frame reaches the master, and of its three ways to drop a frame (R51, R52) the kind and the
master's state pick one; the return of the receiver to HUNTING leaves the master as it was. -/
theorem strayAndUnsolicitedDropped : Obligations.StrayAndUnsolicitedDropped := by
  intro f s hear
  refine ⟨fun hk => ⟨fun x d hm hx => ?stray, fun hm => ?unsolicited⟩, fun hk => ?mgmt⟩
  case stray =>
    rw [exec_strayFrame hear, State.fieldFrame_stray hk (by simpa using hm) hx]
    rfl
  case unsolicited =>
    rw [exec_unsolicitedFrame hear, State.fieldFrame_unsolicited hk (by simpa using hm)]
    rfl
  case mgmt =>
    rw [exec_fPortMgmt hear, State.fieldFrame_mgmt hk]
    rfl

end Sys2Proof.Machine
end


section
/-! SUPPORT. What a command can do to the gate, said once: every command but the two power-on ones is a run of moves of
thirteen kinds, each a change of one record with its queues, of the tables, or of what lies beside both. The invariants
are checked move by move. -/

namespace Sys2Proof.Machine

/-! ## Moves -/

/-- A change that leaves the records, the queues, the tables, the time, the straps and the waiting commands alone, ends
no FROZEN and overfills no buffer. -/
structure State.Aside (s t : State) : Prop where
  stations : t.stations = s.stations
  parkQ : t.parkQ = s.parkQ
  demandQ : t.demandQ = s.demandQ
  schedQ : t.schedQ = s.schedQ
  cfg : t.cfg = s.cfg
  pending : t.pending = s.pending
  straps : t.straps = s.straps
  mono : t.mono = s.mono
  frac : t.frac = s.frac
  frozen : s.access = .frozen → t.access = .frozen
  posted : s.fwd.posted.length ≤ Config.postedCap → t.fwd.posted.length ≤ Config.postedCap
  delayed : s.fwd.delayed.length ≤ Config.delayedCap → t.fwd.delayed.length ≤ Config.delayedCap

/-- A record that stays in its state, with its park mark present or absent as it was and its hold list within room. -/
structure Station.Stays (r q : Station) : Prop where
  state : q.state = r.state
  mark : q.parkMark.isSome = r.parkMark.isSome
  hold : r.hold.length ≤ Config.holdCap → q.hold.length ≤ Config.holdCap

/-- A state that no queue goes with. -/
def StState.unqueued (x : StState) : Prop := x ≠ .parkQueued ∧ x ≠ .wakeQueued

/-- One move of the gate; `w` says whether the working tables may be written. -/
inductive Move (w : Prop) : State → State → Prop
  /-- Nothing of the records, queues and tables changes. -/
  | aside {s t : State} (h : s.Aside t) : Move w s t
  /-- A record changes and stays in its state. -/
  | record {s : State} (a : Nat) (f : Station → Station) (h : Station.Stays (s.st a) (f (s.st a))) :
      Move w s (s.modSt a f)
  /-- A station leaves every queue for a state that is not WAKING and not PARKED (R77, R82, R118). -/
  | leave {s : State} (a : Nat) (f : Station → Station) (state : (f (s.st a)).state.unqueued)
      (waking : (f (s.st a)).state ≠ .waking) (parked : (f (s.st a)).state ≠ .parked)
      (mark : (f (s.st a)).parkMark = none ∨ a ∈ s.parkQ ∧ (f (s.st a)).parkMark = (s.st a).parkMark)
      (hold : (f (s.st a)).hold = (s.st a).hold) : Move w s ((s.dequeue a).modSt a f)
  /-- A station of a wake queue is admitted (R149); on a queue that names it twice it may be WAKING already. -/
  | admission {s : State} (a : Nat) (f : Station → Station) (fits : s.fits a = true)
      (was : hasRecord a → a ∈ s.demandQ ++ s.schedQ ∨ (s.st a).state = .waking)
      (state : (f (s.st a)).state = .waking) (mark : (f (s.st a)).parkMark = (s.st a).parkMark)
      (hold : (f (s.st a)).hold = (s.st a).hold) : Move w s ((s.dequeue a).modSt a f)
  /-- A station in no queue moves to a state in no queue and not WAKING (R78, R84). -/
  | shift {s : State} (a : Nat) (f : Station → Station) (was : (s.st a).state.unqueued)
      (state : (f (s.st a)).state.unqueued) (waking : (f (s.st a)).state ≠ .waking)
      (mark : ((s.st a).parkMark.isSome = true ↔ (s.st a).state = .parked) →
        ((f (s.st a)).parkMark.isSome = true ↔ (f (s.st a)).state = .parked))
      (hold : (f (s.st a)).hold = (s.st a).hold) : Move w s (s.modSt a f)
  /-- A FREE station joins the park queue (R110). -/
  | queue {s : State} (a : Nat) (was : (s.st a).state = .free) : Move w s (s.queuePark a)
  /-- A PARKED station, or a WAKING one whose admission is undone, joins a wake queue (R143, R155). -/
  | wait {s : State} (a : Nat) (f : Station → Station) (q : Priority)
      (was : (s.st a).state = .parked ∧ (f (s.st a)).parkMark = none
        ∨ (s.st a).state = .waking ∧ (f (s.st a)).parkMark = (s.st a).parkMark)
      (state : (f (s.st a)).state = .wakeQueued) (hold : (f (s.st a)).hold = (s.st a).hold) :
      Move w s ((s.modSt a f).enqueue a q)
  /-- A WAKE_QUEUED station moves to the tail of the demand queue (R143). -/
  | up {s : State} (a : Nat) (was : (s.st a).state = .wakeQueued) : Move w s (s.moveToDemand a)
  /-- The policy of a station that is UNKNOWN, FREE or FAULTED is written (R87). -/
  | policy {s : State} (hw : w) (a : Nat) (p : Policy) (was : (s.st a).state.writable = true) : Move w s (s.setPol a p)
  /-- Tables other than the policies and the gate parameters are written. -/
  | tables {s t : State} (hw : w) (h : s.Aside { t with cfg := s.cfg }) (policies : t.cfg.policies = s.cfg.policies)
      (params : t.cfg.params = s.cfg.params) : Move w s t
  /-- The gate parameters are written, the budget no lower than the inrush in use (R148). -/
  | params {s : State} (hw : w) (p : GateParams) (h : s.inrush ≤ p.budget) :
      Move w s { s with cfg := { s.cfg with params := p } }
  /-- Every record takes its warm values and the queues empty (R192). -/
  | clear {s t : State} (h : s.Aside { t with stations := s.stations, parkQ := s.parkQ, demandQ := s.demandQ, schedQ := s.schedQ })
      (state : ∀ a, (t.st a).state = .unknown) (mark : ∀ a, (t.st a).parkMark = none)
      (hold : ∀ a, (t.st a).hold = []) (park : t.parkQ = []) (demand : t.demandQ = []) (sched : t.schedQ = []) :
      Move w s t

/-- A run of moves. -/
def Moves (w : Prop) : State → State → Prop := Relation.ReflTransGen (Move w)

variable {w : Prop} {s t u : State}

theorem Moves.refl (w : Prop) (s : State) : Moves w s s := Relation.ReflTransGen.refl

theorem Moves.trans (h : Moves w s t) (k : Moves w t u) : Moves w s u := Relation.ReflTransGen.trans h k

theorem Move.moves (h : Move w s t) : Moves w s t := Relation.ReflTransGen.single h

theorem Moves.mono {v : Prop} (h : Moves v s t) (hv : v → w) : Moves w s t := by
  induction h with
  | refl => exact .refl w s
  | tail _ hm ih =>
    refine ih.trans (Move.moves ?_)
    cases hm with
    | aside h => exact .aside h
    | record a f h => exact .record a f h
    | leave a f h1 h2 h3 h4 h5 => exact .leave a f h1 h2 h3 h4 h5
    | admission a f h1 h2 h3 h4 h5 => exact .admission a f h1 h2 h3 h4 h5
    | shift a f h1 h2 h3 h4 h5 => exact .shift a f h1 h2 h3 h4 h5
    | queue a h => exact .queue a h
    | wait a f q h1 h2 h3 => exact .wait a f q h1 h2 h3
    | up a h => exact .up a h
    | policy hw a p h => exact .policy (hv hw) a p h
    | tables hw h1 h2 h3 => exact .tables (hv hw) h1 h2 h3
    | params hw p h => exact .params (hv hw) p h
    | clear h1 h2 h3 h4 h5 h6 h7 => exact .clear h1 h2 h3 h4 h5 h6 h7

/-- What every move keeps, every run of moves keeps. -/
theorem Moves.keeps {P : State → Prop} (step : ∀ s t, Move w s t → P s → P t) (h : Moves w s t) (hs : P s) : P t := by
  induction h with
  | refl => exact hs
  | tail _ hm ih => exact step _ _ hm ih

theorem Moves.foldl {α : Type} (f : State → α → State) (h : ∀ (s : State) (x : α), Moves w s (f s x)) (l : List α)
    (s : State) : Moves w s (l.foldl f s) := by
  induction l generalizing s with
  | nil => exact .refl w s
  | cons x l ih => exact (h s x).trans (ih _)

/-! ## Changes aside -/

theorem State.Aside.refl (s : State) : s.Aside s := ⟨rfl, rfl, rfl, rfl, rfl, rfl, rfl, rfl, rfl, id, id, id⟩

/-- A change of the ports, the answers, the master, the clock, the mode, the zones, the scanner, the flags and the
image alone. -/
theorem State.Aside.line (k : t =
    { s with
      online := t.online, cport := t.cport, fport := t.fport, answers := t.answers, master := t.master
      starved := t.starved, zones := t.zones, clock := t.clock, mode := t.mode, timeRange := t.timeRange
      scan := t.scan, unlocks := t.unlocks, flags := t.flags, image := t.image, imageValid := t.imageValid
      saving := t.saving, drain := t.drain }) : s.Aside t := by
  constructor
  all_goals rw [k]
  all_goals exact id

/-- A change of the Forwarding unit alone, within its room. -/
theorem State.Aside.forward (f : Fwd)
    (posted : s.fwd.posted.length ≤ Config.postedCap → f.posted.length ≤ Config.postedCap)
    (delayed : s.fwd.delayed.length ≤ Config.delayedCap → f.delayed.length ≤ Config.delayedCap) :
    s.Aside { s with fwd := f } :=
  ⟨rfl, rfl, rfl, rfl, rfl, rfl, rfl, rfl, rfl, id, posted, delayed⟩

theorem State.Aside.moves (h : s.Aside t) : Moves w s t := (Move.aside h).moves

/-! ## What every move keeps of the rest of the state -/

theorem State.enqueue_waiting (s : State) (a : Nat) (q : Priority) :
    (s.enqueue a q).demandQ ++ (s.enqueue a q).schedQ = s.demandQ ++ [a] ++ s.schedQ
      ∨ (s.enqueue a q).demandQ ++ (s.enqueue a q).schedQ = s.demandQ ++ (s.schedQ ++ [a]) := by
  cases q <;> simp [State.enqueue]

/-- The straps, the time, the waiting commands and FROZEN are kept by every move. -/
structure State.Steady (s t : State) : Prop where
  pending : t.pending = s.pending
  straps : t.straps = s.straps
  mono : t.mono = s.mono
  frac : t.frac = s.frac
  frozen : s.access = .frozen → t.access = .frozen

theorem Move.steady (h : Move w s t) : s.Steady t := by
  cases h with
  | aside h => exact ⟨h.pending, h.straps, h.mono, h.frac, h.frozen⟩
  | record a f _ => constructor <;> simp
  | leave a f _ _ _ _ _ => constructor <;> simp [State.dequeue]
  | admission a f _ _ _ _ _ => constructor <;> simp [State.dequeue]
  | shift a f _ _ _ _ _ => constructor <;> simp
  | queue a _ => constructor <;> simp [State.queuePark]
  | wait a f q _ _ _ => constructor <;> simp
  | up a _ => constructor <;> simp [State.moveToDemand, State.dequeue, State.setDemand]
  | policy _ a p _ => constructor <;> simp
  | tables _ h _ _ => exact ⟨h.pending, h.straps, h.mono, h.frac, h.frozen⟩
  | params _ p _ => constructor <;> simp
  | clear h _ _ _ _ _ _ => exact ⟨h.pending, h.straps, h.mono, h.frac, h.frozen⟩

theorem Moves.steady (h : Moves w s t) : s.Steady t :=
  h.keeps (P := s.Steady)
    (fun _ _ hm k =>
      have m := hm.steady
      ⟨m.pending.trans k.pending, m.straps.trans k.straps, m.mono.trans k.mono, m.frac.trans k.frac,
        fun hf => m.frozen (k.frozen hf)⟩)
    ⟨rfl, rfl, rfl, rfl, id⟩

/-- Where the tables may not be written, no move changes them. -/
theorem Move.cfg (h : Move w s t) (hw : ¬ w) : t.cfg = s.cfg := by
  cases h with
  | aside h => exact h.cfg
  | record a f _ => simp
  | leave a f _ _ _ _ _ => simp [State.dequeue]
  | admission a f _ _ _ _ _ => simp [State.dequeue]
  | shift a f _ _ _ _ _ => simp
  | queue a _ => simp [State.queuePark]
  | wait a f q _ _ _ => simp
  | up a _ => simp [State.moveToDemand, State.dequeue, State.setDemand]
  | policy h _ _ _ => exact absurd h hw
  | tables h _ _ _ => exact absurd h hw
  | params h _ _ => exact absurd h hw
  | clear h _ _ _ _ _ _ => exact h.cfg

theorem Moves.cfg (h : Moves w s t) (hw : ¬ w) : t.cfg = s.cfg :=
  h.keeps (P := fun t => t.cfg = s.cfg) (fun _ _ hm k => (hm.cfg hw).trans k) rfl

end Sys2Proof.Machine
end


section
/-! SUPPORT. The four invariants of Safety.lean, move by move (R28, R31, R38, R70, R98, R148). -/

namespace Sys2Proof.Machine

variable {w : Prop} {s t : State}

/-! ## Reading a record after an update -/

/-- An update of the record at `a` is seen at `a`, where there is a record, and nowhere else. -/
theorem State.st_modSt_cases (s : State) (a : Nat) (f : Station → Station) (b : Nat) :
    (b = a ∧ hasRecord a ∧ (s.modSt a f).st b = f (s.st a))
      ∨ (b ≠ a ∨ ¬ hasRecord a) ∧ (s.modSt a f).st b = s.st b := by
  by_cases hb : b = a
  · subst hb
    by_cases hr : hasRecord b
    · exact .inl ⟨rfl, hr, s.st_modSt_self b f hr⟩
    · exact .inr ⟨.inr hr, s.setSt_none b _ hr⟩
  · exact .inr ⟨.inl hb, s.st_modSt_other a b f hb⟩

/-- What holds of every record, and of the new record at `a`, holds of every record after the update. -/
theorem State.forall_st_modSt {P : Nat → Station → Prop} (s : State) (a : Nat) (f : Station → Station)
    (hf : P a (s.st a) → P a (f (s.st a))) (h : ∀ b, P b (s.st b)) (b : Nat) : P b ((s.modSt a f).st b) := by
  rcases s.st_modSt_cases a f b with ⟨rfl, -, e⟩ | ⟨-, e⟩ <;> rw [e]
  · exact hf (h b)
  · exact h b

/-! ## Capacities -/

theorem Move.fwd_room (h : Move w s t) :
    (s.fwd.posted.length ≤ Config.postedCap → t.fwd.posted.length ≤ Config.postedCap)
      ∧ (s.fwd.delayed.length ≤ Config.delayedCap → t.fwd.delayed.length ≤ Config.delayedCap) := by
  cases h with
  | aside h => exact ⟨h.posted, h.delayed⟩
  | record a f _ => simp
  | leave a f _ _ _ _ _ => simp [State.dequeue]
  | admission a f _ _ _ _ _ => simp [State.dequeue]
  | shift a f _ _ _ _ _ => simp
  | queue a _ => simp [State.queuePark]
  | wait a f q _ _ _ => simp
  | up a _ => simp [State.moveToDemand, State.dequeue, State.setDemand]
  | policy _ a p _ => simp
  | tables _ h _ _ => exact ⟨h.posted, h.delayed⟩
  | params _ p _ => simp
  | clear h _ _ _ _ _ _ => exact ⟨h.posted, h.delayed⟩

theorem Move.hold_room (h : Move w s t) (hs : ∀ a, (s.st a).hold.length ≤ Config.holdCap) (b : Nat) :
    (t.st b).hold.length ≤ Config.holdCap := by
  cases h with
  | aside h => rw [State.st_congr s t h.stations]; exact hs b
  | record a f h => exact s.forall_st_modSt (P := fun _ r => r.hold.length ≤ Config.holdCap) a f h.hold hs b
  | leave a f _ _ _ _ hold =>
    exact State.forall_st_modSt (P := fun _ r => r.hold.length ≤ Config.holdCap) _ a f
      (fun hr => by rw [State.st_dequeue] at hr ⊢; rwa [hold]) (by simpa using hs) b
  | admission a f _ _ _ _ hold =>
    exact State.forall_st_modSt (P := fun _ r => r.hold.length ≤ Config.holdCap) _ a f
      (fun hr => by rw [State.st_dequeue] at hr ⊢; rwa [hold]) (by simpa using hs) b
  | shift a f _ _ _ _ hold =>
    exact s.forall_st_modSt (P := fun _ r => r.hold.length ≤ Config.holdCap) a f (fun hr => by rwa [hold]) hs b
  | queue a _ =>
    exact s.forall_st_modSt (P := fun _ r => r.hold.length ≤ Config.holdCap) a _ (fun hr => hr) hs b
  | wait a f q _ _ hold =>
    rw [State.st_enqueue]
    exact s.forall_st_modSt (P := fun _ r => r.hold.length ≤ Config.holdCap) a f (fun hr => by rwa [hold]) hs b
  | up a _ =>
    rw [State.moveToDemand, State.st_enqueue]
    exact State.forall_st_modSt (P := fun _ r => r.hold.length ≤ Config.holdCap) _ a _ (fun hr => hr)
      (by simpa using hs) b
  | policy _ a p _ => rw [State.st_congr s _ (by simp)]; exact hs b
  | tables _ h _ _ => rw [State.st_congr s t h.stations]; exact hs b
  | params _ p _ => exact hs b
  | clear _ _ _ hold _ _ _ => simp [hold b]

theorem Move.withinCapacity (h : Move w s t) (hs : s.withinCapacity) : t.withinCapacity := by
  obtain ⟨posted, delayed, hold⟩ := hs
  exact ⟨h.fwd_room.1 posted, h.fwd_room.2 delayed, h.hold_room hold⟩

/-! ## Queues and states -/

/-- A station that leaves every queue for a state that no queue goes with. -/
theorem State.queuesMatch_leave (hs : s.queuesMatch) (a : Nat) (f : Station → Station)
    (state : (f (s.st a)).state.unqueued) : ((s.dequeue a).modSt a f).queuesMatch := by
  obtain ⟨nodup, mem⟩ := hs
  obtain ⟨hp, hw⟩ := state
  refine ⟨?_, fun b => ?_⟩
  · have h : ((s.dequeue a).modSt a f).parkQ ++ ((s.dequeue a).modSt a f).demandQ
        ++ ((s.dequeue a).modSt a f).schedQ = (s.parkQ ++ s.demandQ ++ s.schedQ).filter (· != a) := by
      simp [State.dequeue]
    rw [h]
    exact nodup.filter _
  · rcases State.st_modSt_cases (s.dequeue a) a f b with ⟨rfl, -, e⟩ | ⟨hb, e⟩
    · rw [e, State.st_dequeue]
      simp [State.dequeue, hp, hw]
    · rw [e, State.st_dequeue]
      rcases hb with hb | hb
      · simpa [State.dequeue, hb] using mem b
      · by_cases hba : b = a
        · subst hba
          simp [State.dequeue, State.st_none s b hb, Station.reset]
        · simpa [State.dequeue, hba] using mem b

/-- An update that leaves the queues alone and moves a station between states that no queue goes with, or none. -/
theorem State.queuesMatch_modSt (hs : s.queuesMatch) (a : Nat) (f : Station → Station)
    (state : (f (s.st a)).state = (s.st a).state ∨ (s.st a).state.unqueued ∧ (f (s.st a)).state.unqueued) :
    (s.modSt a f).queuesMatch := by
  obtain ⟨nodup, mem⟩ := hs
  refine ⟨by simpa using nodup, fun b => ?_⟩
  rcases s.st_modSt_cases a f b with ⟨rfl, -, e⟩ | ⟨-, e⟩ <;> rw [e]
  · rcases state with h | ⟨⟨h1, h2⟩, h3, h4⟩
    · simpa [h] using mem b
    · simpa [h1, h2, h3, h4] using mem b
  · simpa using mem b

/-- A station in no queue joins a wake queue. -/
theorem State.queuesMatch_wait (hs : s.queuesMatch) (a : Nat) (f : Station → Station) (q : Priority)
    (known : hasRecord a) (was : (s.st a).state.unqueued) (state : (f (s.st a)).state = .wakeQueued) :
    ((s.modSt a f).enqueue a q).queuesMatch := by
  obtain ⟨nodup, mem⟩ := hs
  have hp : a ∉ s.parkQ := fun h => was.1 ((mem a).1.mp h)
  have hw : a ∉ s.demandQ ++ s.schedQ := fun h => was.2 ((mem a).2.mp h)
  obtain ⟨hd, hq⟩ := not_or.mp (mt List.mem_append.mpr hw)
  refine ⟨?_, fun b => ?_⟩
  · have h : List.Perm (((s.modSt a f).enqueue a q).parkQ ++ ((s.modSt a f).enqueue a q).demandQ
        ++ ((s.modSt a f).enqueue a q).schedQ) (a :: (s.parkQ ++ s.demandQ ++ s.schedQ)) := by
      cases q
      · simp only [State.enqueue, State.modSt_parkQ, State.modSt_demandQ, State.modSt_schedQ]
        rw [← List.append_assoc, List.append_assoc _ [a] _]
        exact List.perm_middle
      · simp only [State.enqueue, State.modSt_parkQ, State.modSt_demandQ, State.modSt_schedQ]
        rw [← List.append_assoc]
        exact List.perm_append_singleton _ _
    rw [h.nodup_iff, List.nodup_cons]
    exact ⟨by simp [hp, hd, hq], nodup⟩
  · have hmem : b ∈ ((s.modSt a f).enqueue a q).demandQ ++ ((s.modSt a f).enqueue a q).schedQ
        ↔ b = a ∨ b ∈ s.demandQ ++ s.schedQ := by
      cases q <;> simp [State.enqueue] <;> tauto
    rw [hmem, State.st_enqueue]
    rcases s.st_modSt_cases a f b with ⟨rfl, -, e⟩ | ⟨hb, e⟩ <;> rw [e]
    · simp [state, hp]
    · have hba : b ≠ a := hb.resolve_right (not_not.mpr known)
      simpa [hba] using mem b

theorem State.queuesMatch_queuePark (hs : s.queuesMatch) (a : Nat) (was : (s.st a).state = .free) :
    (s.queuePark a).queuesMatch := by
  obtain ⟨nodup, mem⟩ := hs
  have known := hasRecord_of_state s a (by simp [was])
  have hp : a ∉ s.parkQ := fun h => by simpa [was] using (mem a).1.mp h
  have hw : a ∉ s.demandQ ++ s.schedQ := fun h => by simpa [was] using (mem a).2.mp h
  obtain ⟨hd, hq⟩ := not_or.mp (mt List.mem_append.mpr hw)
  refine ⟨?_, fun b => ?_⟩
  · have h : List.Perm ((s.queuePark a).parkQ ++ (s.queuePark a).demandQ ++ (s.queuePark a).schedQ)
        (a :: (s.parkQ ++ s.demandQ ++ s.schedQ)) := by
      simp only [State.queuePark, State.modSt_demandQ, State.modSt_schedQ, List.append_assoc, List.singleton_append]
      exact List.perm_middle
    rw [h.nodup_iff, List.nodup_cons]
    exact ⟨by simp [hp, hd, hq], nodup⟩
  · have e : (s.queuePark a).st b = (s.modSt a fun r => { r with state := .parkQueued }).st b := rfl
    rw [e]
    rcases s.st_modSt_cases a (fun r => { r with state := .parkQueued }) b with ⟨rfl, -, e⟩ | ⟨hb, e⟩ <;> rw [e]
    · simp only [List.mem_append, not_or] at hw
      simp [State.queuePark, hw]
    · have hba : b ≠ a := hb.resolve_right (not_not.mpr known)
      simpa [State.queuePark, hba] using mem b

theorem State.queuesMatch_moveToDemand (hs : s.queuesMatch) (a : Nat) (was : (s.st a).state = .wakeQueued) :
    (s.moveToDemand a).queuesMatch := by
  obtain ⟨nodup, mem⟩ := hs
  have hp : a ∉ s.parkQ := fun h => by simpa [was] using (mem a).1.mp h
  refine ⟨?_, fun b => ?_⟩
  · have h : List.Perm ((s.moveToDemand a).parkQ ++ (s.moveToDemand a).demandQ ++ (s.moveToDemand a).schedQ)
        (a :: (s.parkQ ++ s.demandQ ++ s.schedQ).filter (· != a)) := by
      simp only [State.moveToDemand, State.enqueue, State.setDemand, State.modSt_parkQ, State.modSt_demandQ,
        State.modSt_schedQ, State.dequeue, List.filter_append]
      rw [← List.append_assoc, List.append_assoc _ [a] _]
      exact List.perm_middle
    rw [h.nodup_iff, List.nodup_cons]
    exact ⟨by simp, nodup.filter _⟩
  · have e : ((s.moveToDemand a).st b).state = (s.st b).state := by
      rw [State.moveToDemand, State.st_enqueue, State.setDemand]
      rcases State.st_modSt_cases (s.dequeue a) a (fun r => { r with demand := true }) b with ⟨rfl, -, e⟩ | ⟨-, e⟩ <;>
        simp [e]
    rw [e]
    by_cases hba : b = a
    · subst hba
      simp [State.moveToDemand, State.enqueue, State.setDemand, State.dequeue, was]
    · simpa [State.moveToDemand, State.enqueue, State.setDemand, State.dequeue, hba] using mem b

theorem Move.queuesMatch (h : Move w s t) (hs : s.queuesMatch) : t.queuesMatch := by
  cases h with
  | aside h => exact State.queuesMatch_congr hs h.stations h.parkQ h.demandQ h.schedQ
  | record a f h => exact State.queuesMatch_modSt hs a f (.inl h.state)
  | leave a f state _ _ _ _ => exact State.queuesMatch_leave hs a f state
  | admission a f _ _ state _ _ => exact State.queuesMatch_leave hs a f (by simp [state, StState.unqueued])
  | shift a f was state _ _ _ => exact State.queuesMatch_modSt hs a f (.inr ⟨was, state⟩)
  | queue a was => exact State.queuesMatch_queuePark hs a was
  | wait a f q was state _ =>
    have hu : (s.st a).state = .parked ∨ (s.st a).state = .waking := was.imp And.left And.left
    refine State.queuesMatch_wait hs a f q (hasRecord_of_state s a ?_) ?_ state <;>
      rcases hu with h | h <;> simp [h, StState.unqueued]
  | up a was => exact State.queuesMatch_moveToDemand hs a was
  | policy _ a p _ => exact State.queuesMatch_congr hs (by simp) (by simp) (by simp) (by simp)
  | tables _ h _ _ => exact State.queuesMatch_congr hs h.stations h.parkQ h.demandQ h.schedQ
  | params _ p _ => exact State.queuesMatch_congr hs rfl rfl rfl rfl
  | clear _ state _ _ park demand sched => exact ⟨by simp [park, demand, sched], fun a => by simp [park, demand, sched, state a]⟩

/-! ## Park marks -/

/-- A record has a park mark exactly while its station is PARKED. -/
def Station.marked (r : Station) : Prop := r.parkMark.isSome = true ↔ r.state = .parked

theorem Move.parkMarksMatch (h : Move w s t) (hq : s.queuesMatch) (hs : s.parkMarksMatch) : t.parkMarksMatch := by
  have via (v : State) (hv : ∀ b, v.st b = s.st b) (a : Nat) (f : Station → Station)
      (hf : hasRecord a → (f (s.st a)).marked) : (v.modSt a f).parkMarksMatch := by
    intro b
    rcases v.st_modSt_cases a f b with ⟨rfl, hr, e⟩ | ⟨-, e⟩ <;> rw [e, hv]
    · exact hf hr
    · exact hs b
  have unmarked (a : Nat) (hp : (s.st a).state ≠ .parked) : (s.st a).parkMark = none := by
    simpa [hp] using hs a
  cases h with
  | aside h => intro b; rw [State.st_congr s t h.stations]; exact hs b
  | record a f h => exact via s (fun _ => rfl) a f (fun _ => by rw [Station.marked, h.mark, h.state]; exact hs a)
  | leave a f _ _ parked mark _ =>
    refine via _ (fun _ => s.st_dequeue _ _) a f (fun _ => ?_)
    have hn : (f (s.st a)).parkMark = none := by
      rcases mark with h | ⟨hm, h⟩
      · exact h
      · rw [h]
        exact unmarked a (by simp [(hq.2 a).1.mp hm])
    simp [Station.marked, hn, parked]
  | admission a f _ was state mark _ =>
    refine via _ (fun _ => s.st_dequeue _ _) a f (fun hr => ?_)
    have hn : (s.st a).parkMark = none := by
      rcases was hr with h | h
      · exact unmarked a (by simp [(hq.2 a).2.mp h])
      · exact unmarked a (by simp [h])
    simp [Station.marked, mark, hn, state]
  | shift a f _ _ _ mark _ => exact via s (fun _ => rfl) a f (fun _ => mark (hs a))
  | queue a was =>
    exact via s (fun _ => rfl) a (fun r => { r with state := .parkQueued })
      (fun _ => by simp [Station.marked, unmarked a (by simp [was])])
  | wait a f q was state _ =>
    intro b
    rw [State.st_enqueue]
    refine via s (fun _ => rfl) a f (fun _ => ?_) b
    have hn : (f (s.st a)).parkMark = none := by
      rcases was with ⟨-, h⟩ | ⟨h1, h2⟩
      · exact h
      · rw [h2]
        exact unmarked a (by simp [h1])
    simp [Station.marked, hn, state]
  | up a _ =>
    intro b
    rw [State.moveToDemand, State.st_enqueue]
    exact via _ (fun _ => s.st_dequeue _ _) a (fun r => { r with demand := true }) (fun _ => hs a) b
  | policy _ a p _ => intro b; rw [State.st_congr s _ (by simp)]; exact hs b
  | tables _ h _ _ => intro b; rw [State.st_congr s t h.stations]; exact hs b
  | params _ p _ => exact hs
  | clear _ state mark _ _ _ _ => intro b; simp [state b, mark b]

/-! ## Inrush -/

/-- The weight a record of state `x` and weight `n` puts on the budget (R148). -/
def inrushOf (x : StState) (n : Nat) : Nat := if x = .waking then n else 0

/-- Inrush in use as a sum over the addresses. -/
theorem State.inrush_eq_sum (s : State) :
    s.inrush = (addresses.map fun a => inrushOf (s.st a).state (s.pol a).weight).sum := by
  have h (l : List Nat) (n : Nat) :
      l.foldl (fun n a => if (s.st a).state = .waking then n + (s.pol a).weight else n) n
        = n + (l.map fun a => inrushOf (s.st a).state (s.pol a).weight).sum := by
    induction l generalizing n with
    | nil => simp
    | cons a l ih =>
      rw [List.foldl_cons, ih, List.map_cons, List.sum_cons, inrushOf]
      split <;> omega
  simpa [State.inrush] using h addresses 0

/-- With no station newly WAKING and the weights of the WAKING ones as they were, inrush does not rise. -/
theorem State.inrush_le (h : ∀ a, (t.st a).state = .waking → (s.st a).state = .waking ∧ (t.pol a).weight = (s.pol a).weight) :
    t.inrush ≤ s.inrush := by
  rw [State.inrush_eq_sum, State.inrush_eq_sum]
  refine List.sum_le_sum fun a _ => ?_
  unfold inrushOf
  split
  · next ha => simp [h a ha]
  · exact Nat.zero_le _

theorem State.inrushInBudget_of_fewer
    (h : ∀ a, (t.st a).state = .waking → (s.st a).state = .waking ∧ (t.pol a).weight = (s.pol a).weight)
    (hb : t.cfg.params = s.cfg.params) (hs : s.inrushInBudget) : t.inrushInBudget := by
  rcases hs with hs | hs
  · exact .inl (by rw [hb]; exact (State.inrush_le h).trans hs)
  · exact .inr fun a b ha hb => hs a b (h a ha).1 (h b hb).1

/-- The inrush with one station more. -/
theorem State.inrush_le_add (a : Nat) (hpol : ∀ b, t.pol b = s.pol b)
    (h : ∀ b, b ≠ a → (t.st b).state = (s.st b).state) : t.inrush ≤ s.inrush + (s.pol a).weight := by
  rw [State.inrush_eq_sum, State.inrush_eq_sum]
  have sum (l : List Nat) (hl : l.Nodup) :
      (l.map fun b => inrushOf (t.st b).state (t.pol b).weight).sum
        ≤ (l.map fun b => inrushOf (s.st b).state (s.pol b).weight).sum + (s.pol a).weight := by
    induction l with
    | nil => simp
    | cons b l ih =>
      obtain ⟨hb, hl⟩ := List.nodup_cons.mp hl
      simp only [List.map_cons, List.sum_cons, hpol]
      by_cases hba : b = a
      · subst hba
        have hrest : (l.map fun c => inrushOf (t.st c).state (s.pol c).weight)
            = l.map fun c => inrushOf (s.st c).state (s.pol c).weight :=
          List.map_congr_left fun c hc => by rw [h c (fun e => hb (e ▸ hc))]
        have hx : inrushOf (t.st b).state (s.pol b).weight ≤ (s.pol b).weight := by
          unfold inrushOf; split <;> omega
        rw [hrest]
        omega
      · have ih := ih hl
        simp only [hpol] at ih
        rw [h b hba]
        omega
  exact sum addresses List.nodup_range'

theorem State.anyWaking_iff (s : State) : s.anyWaking = true ↔ ∃ a, (s.st a).state = .waking := by
  simp only [State.anyWaking, List.any_eq_true, decide_eq_true_eq]
  exact ⟨fun ⟨a, _, h⟩ => ⟨a, h⟩, fun ⟨a, h⟩ => ⟨a, (mem_addresses a).mpr (hasRecord_of_state s a (by simp [h])), h⟩⟩

theorem State.inrushInBudget_admission (a : Nat) (f : Station → Station) (fits : s.fits a = true) :
    ((s.dequeue a).modSt a f).inrushInBudget := by
  have others (b : Nat) (hb : b ≠ a) : ((s.dequeue a).modSt a f).st b = s.st b := by
    rw [State.st_modSt_other _ a b f hb, State.st_dequeue]
  have hcfg : ((s.dequeue a).modSt a f).cfg = s.cfg := by simp [State.dequeue]
  simp only [State.fits, Bool.or_eq_true, decide_eq_true_eq, Bool.not_eq_true'] at fits
  rcases fits with fits | fits
  · refine .inl ?_
    rw [hcfg]
    exact (State.inrush_le_add a (State.pol_congr _ _ hcfg) (fun b hb => by rw [others b hb])).trans fits
  · have none_waking (b : Nat) : (s.st b).state ≠ .waking := fun h => by
      simp [s.anyWaking_iff.mpr ⟨b, h⟩] at fits
    have only (b : Nat) (h : (((s.dequeue a).modSt a f).st b).state = .waking) : b = a := by
      by_contra hb
      exact none_waking b (by rwa [others b hb] at h)
    exact .inr fun b c hb hc => (only b hb).trans (only c hc).symm

theorem Move.inrushInBudget (h : Move w s t) (hs : s.inrushInBudget) : t.inrushInBudget := by
  have via (v : State) (hv : ∀ b, v.st b = s.st b) (hc : v.cfg = s.cfg) (a : Nat) (f : Station → Station)
      (hf : (f (s.st a)).state = .waking → (s.st a).state = .waking) : (v.modSt a f).inrushInBudget := by
    have hcfg : (v.modSt a f).cfg = s.cfg := by simp [hc]
    refine State.inrushInBudget_of_fewer (fun b hb => ⟨?_, by rw [State.pol_congr _ _ hcfg]⟩) (by rw [hcfg]) hs
    rcases v.st_modSt_cases a f b with ⟨rfl, -, e⟩ | ⟨-, e⟩ <;> rw [e, hv] at hb
    · exact hf hb
    · exact hb
  have same (v : State) (hst : ∀ b, (t.st b).state = (v.st b).state) (hcfg : t.cfg = v.cfg)
      (hv : v.inrushInBudget) : t.inrushInBudget :=
    State.inrushInBudget_of_fewer (fun b hb => ⟨hst b ▸ hb, by rw [State.pol_congr _ _ hcfg]⟩) (by rw [hcfg]) hv
  cases h with
  | aside h => exact same s (fun b => by rw [State.st_congr s t h.stations]) h.cfg hs
  | record a f h => exact via s (fun _ => rfl) rfl a f (fun hw => h.state ▸ hw)
  | leave a f _ waking _ _ _ => exact via _ (fun _ => s.st_dequeue _ _) rfl a f (fun hw => absurd hw waking)
  | admission a f fits _ _ _ _ => exact State.inrushInBudget_admission a f fits
  | shift a f _ _ waking _ _ => exact via s (fun _ => rfl) rfl a f (fun hw => absurd hw waking)
  | queue a _ =>
    exact same (s.modSt a fun r => { r with state := .parkQueued }) (fun _ => rfl) rfl
      (via s (fun _ => rfl) rfl a _ (fun hw => by simp at hw))
  | wait a f q _ state _ =>
    exact same (s.modSt a f) (fun b => by rw [State.st_enqueue]) (by simp)
      (via s (fun _ => rfl) rfl a f (fun hw => by simp [state] at hw))
  | up a _ =>
    exact same ((s.dequeue a).setDemand a) (fun b => by rw [State.moveToDemand, State.st_enqueue])
      (by simp [State.moveToDemand]) (via _ (fun _ => s.st_dequeue _ _) rfl a _ (fun hw => hw))
  | policy _ a p was =>
    refine State.inrushInBudget_of_fewer (fun b hb => ?_) (by cases a <;> rfl) hs
    rw [State.st_congr s _ (by simp)] at hb
    refine ⟨hb, ?_⟩
    have hba : b ≠ a := fun e => by
      subst e
      rw [hb] at was
      simp [StState.writable] at was
    cases a with
    | zero => rfl
    | succ n =>
      cases b with
      | zero => rfl
      | succ m =>
        have hm : n ≠ m := fun e => hba (by rw [e])
        by_cases hlt : m < 127 <;> simp [State.pol, State.setPol, hlt, hm]
  | tables _ h policies params =>
    refine State.inrushInBudget_of_fewer (fun b hb => ⟨?_, ?_⟩) params hs
    · rwa [State.st_congr s t h.stations] at hb
    · cases b <;> simp [State.pol, policies]
  | params _ p h => exact .inl h
  | clear _ state _ _ _ _ _ => exact .inr fun a b ha _ => by simp [state a] at ha

/-! ## Runs of moves -/

theorem Moves.withinCapacity (h : Moves w s t) (hs : s.withinCapacity) : t.withinCapacity :=
  h.keeps (fun _ _ hm => hm.withinCapacity) hs

theorem Moves.queuesMatch (h : Moves w s t) (hs : s.queuesMatch) : t.queuesMatch :=
  h.keeps (fun _ _ hm => hm.queuesMatch) hs

theorem Moves.inrushInBudget (h : Moves w s t) (hs : s.inrushInBudget) : t.inrushInBudget :=
  h.keeps (fun _ _ hm => hm.inrushInBudget) hs

theorem Moves.parkMarksMatch (h : Moves w s t) (hq : s.queuesMatch) (hs : s.parkMarksMatch) : t.parkMarksMatch :=
  (h.keeps (P := fun s => s.queuesMatch ∧ s.parkMarksMatch)
    (fun _ _ hm k => ⟨hm.queuesMatch k.1, hm.parkMarksMatch k.1 k.2⟩) ⟨hq, hs⟩).2

end Sys2Proof.Machine
end


section
/-! SUPPORT. The engines as runs of moves: admission, faults, the wake queues, the Park engine and observations. -/

namespace Sys2Proof.Machine

variable {w : Prop} (s : State)

/-! ## One record -/

theorem State.modSt_moves (a : Nat) (f : Station → Station) (h : ∀ r, Station.Stays r (f r)) :
    Moves w s (s.modSt a f) := (Move.record a f (h _)).moves

theorem Station.account_stays (now rated : Nat) (r : Station) : Station.Stays r (r.account now rated) := by
  unfold Station.account
  split
  · exact ⟨rfl, rfl, id⟩
  · next m hm => exact ⟨rfl, by simp [hm], id⟩

theorem State.account_moves (a : Nat) : Moves w s (s.account a) := s.modSt_moves a _ (Station.account_stays _ _)

theorem State.setDemand_moves (a : Nat) : Moves w s (s.setDemand a) := s.modSt_moves a _ (by exact fun _ => ⟨rfl, rfl, id⟩)

theorem State.satisfy_moves (a t : Nat) : Moves w s (s.satisfy a t) := s.modSt_moves a _ (by exact fun _ => ⟨rfl, rfl, id⟩)

theorem State.raise_moves (x : Flag) : Moves w s (s.raise x) := (State.Aside.line rfl).moves

theorem State.setZone_moves (z : Nat) (r : Zone) : Moves w s (s.setZone z r) := (State.Aside.line rfl).moves

theorem State.setStarved_moves (i : Nat) (b : Bool) : Moves w s (s.setStarved i b) := (State.Aside.line rfl).moves

theorem State.setScan_moves (c : Scanner) : Moves w s (s.setScan c) := (State.Aside.line rfl).moves

theorem State.setMaster_moves (m : Master) : Moves w s (s.setMaster m) := (State.Aside.line rfl).moves

/-! ## Admission -/

theorem State.warnAdmitted_moves (a : Nat) : Moves w s (s.warnAdmitted a) := by
  unfold State.warnAdmitted
  dsimp only
  split
  · exact s.satisfy_moves a _
  · split
    · exact .refl w s
    · split
      · exact s.satisfy_moves a _
      · exact s.setZone_moves _ _

@[simp] theorem State.warnAdmitted_parkQ (a : Nat) : (s.warnAdmitted a).parkQ = s.parkQ := by
  unfold State.warnAdmitted State.satisfy
  dsimp only
  split
  · simp
  · split
    · rfl
    · split <;> simp [State.setZone]

@[simp] theorem State.warnAdmitted_demandQ (a : Nat) : (s.warnAdmitted a).demandQ = s.demandQ := by
  unfold State.warnAdmitted State.satisfy
  dsimp only
  split
  · simp
  · split
    · rfl
    · split <;> simp [State.setZone]

@[simp] theorem State.warnAdmitted_schedQ (a : Nat) : (s.warnAdmitted a).schedQ = s.schedQ := by
  unfold State.warnAdmitted State.satisfy
  dsimp only
  split
  · simp
  · split
    · rfl
    · split <;> simp [State.setZone]

theorem State.st_warnAdmitted_other (a b : Nat) (h : b ≠ a) : (s.warnAdmitted a).st b = s.st b := by
  unfold State.warnAdmitted State.satisfy
  dsimp only
  split
  · exact s.st_modSt_other a b _ h
  · split
    · rfl
    · split
      · exact s.st_modSt_other a b _ h
      · simp

/-- What a warning at admission can do to its station's record: nothing, or phase COMMAND, satisfied now (R151). -/
theorem State.st_warnAdmitted_self (a : Nat) :
    (s.warnAdmitted a).st a = s.st a
      ∨ (s.warnAdmitted a).st a
          = { s.st a with phase := .command, attempts := 0, satisfiedAt := some s.now } := by
  have hs : (s.satisfy a s.now).st a = s.st a
      ∨ (s.satisfy a s.now).st a = { s.st a with phase := .command, attempts := 0, satisfiedAt := some s.now } := by
    rcases s.st_modSt_cases a (fun r => { r with phase := .command, attempts := 0, satisfiedAt := some s.now }) a with
      ⟨-, -, e⟩ | ⟨-, e⟩
    · exact .inr e
    · exact .inl e
  unfold State.warnAdmitted
  dsimp only
  split
  · exact hs
  · split
    · exact .inl rfl
    · split
      · exact hs
      · exact .inl (by simp)

@[simp] theorem State.warnAdmitted_state (a b : Nat) : ((s.warnAdmitted a).st b).state = (s.st b).state := by
  by_cases h : b = a
  · subst h
    rcases s.st_warnAdmitted_self b with e | e <;> rw [e]
  · rw [s.st_warnAdmitted_other a b h]

@[simp] theorem State.admitOne_parkQ (a : Nat) : (s.admitOne a).parkQ = s.parkQ.filter (· != a) := by
  simp [State.admitOne, State.dequeue]

@[simp] theorem State.admitOne_demandQ (a : Nat) : (s.admitOne a).demandQ = s.demandQ.filter (· != a) := by
  simp [State.admitOne, State.dequeue]

@[simp] theorem State.admitOne_schedQ (a : Nat) : (s.admitOne a).schedQ = s.schedQ.filter (· != a) := by
  simp [State.admitOne, State.dequeue]

theorem State.st_admitOne_other (a b : Nat) (h : b ≠ a) : (s.admitOne a).st b = s.st b := by
  rw [State.admitOne, State.st_warnAdmitted_other _ a b h, State.st_modSt_other _ a b _ h, State.st_dequeue]

theorem State.admitOne_state (a : Nat) (h : hasRecord a) : ((s.admitOne a).st a).state = .waking := by
  rw [State.admitOne, State.warnAdmitted_state, State.st_modSt_self _ a _ h]

theorem State.admitWalk_moves (l : List Nat)
    (h : ∀ b ∈ l, hasRecord b → b ∈ s.demandQ ++ s.schedQ ∨ (s.st b).state = .waking) : Moves w s (s.admitWalk l) := by
  induction l generalizing s with
  | nil => exact .refl w s
  | cons a l ih =>
    unfold State.admitWalk
    split
    · split
      · next fits =>
        refine (((Move.admission a _ fits (h a (by simp)) rfl rfl rfl).moves).trans
          (State.warnAdmitted_moves _ a)).trans (ih (s.admitOne a) fun b hb hr => ?_)
        by_cases hba : b = a
        · subst hba
          exact .inr (s.admitOne_state b hr)
        · rw [s.st_admitOne_other a b hba]
          exact (h b (by simp [hb]) hr).imp_left fun hm => by simpa [hba] using hm
      · exact .refl w s
    · exact ih s fun b hb => h b (by simp [hb])

theorem State.admissionPass_moves : Moves w s s.admissionPass := by
  unfold State.admissionPass
  split
  · exact .refl w s
  · exact s.admitWalk_moves _ fun b hb _ => .inl hb

/-- An admission pass changes no record but those of stations that stand in a wake queue. -/
theorem State.st_admitWalk_other (l : List Nat) (b : Nat) (h : b ∉ l) : (s.admitWalk l).st b = s.st b := by
  induction l generalizing s with
  | nil => rfl
  | cons a l ih =>
    simp only [List.mem_cons, not_or] at h
    unfold State.admitWalk
    split
    · split
      · rw [ih _ h.2, s.st_admitOne_other a b h.1]
      · rfl
    · exact ih s h.2

theorem State.st_admissionPass_other (b : Nat) (h : b ∉ s.demandQ ++ s.schedQ) : s.admissionPass.st b = s.st b := by
  unfold State.admissionPass
  split
  · rfl
  · exact s.st_admitWalk_other _ b h

/-! ## Faults -/

theorem State.failLimitTest_moves (a : Nat) : Moves w s (s.failLimitTest a) := by
  unfold State.failLimitTest
  dsimp only
  split
  · exact (s.modSt_moves a _ (by exact fun _ => ⟨rfl, rfl, id⟩)).trans (State.raise_moves _ _)
  · exact .refl w s

theorem State.faultOne_moves (a : Nat) (c : FaultCause) : Moves w s (s.faultOne a c) := by
  have h : Moves w s (((s.dequeue a).modSt a (Station.faultWith s.now (s.pol a).rated c)).raise .stationFault) :=
    ((Move.leave a _ (by simp [Station.faultWith, StState.unqueued]) (by simp [Station.faultWith])
      (by simp [Station.faultWith]) (.inl rfl) (Station.faultWith_kept _ _ _ _).hold).moves).trans
      (State.raise_moves _ _)
  unfold State.faultOne
  dsimp only
  split
  · exact h.trans (State.failLimitTest_moves _ a)
  · exact h.trans (State.failLimitTest_moves _ a)
  · exact h

theorem State.spreadFaults_moves (n : Nat) (l : List Nat) : Moves w s (s.spreadFaults n l) := by
  induction n generalizing s l with
  | zero => exact .refl w s
  | succ n ih =>
    cases l with
    | nil => exact .refl w s
    | cons p l => exact (Moves.foldl _ (fun t q => t.faultOne_moves q _) _ s).trans (ih _ _)

theorem State.faultSpread_moves (a : Nat) (c : FaultCause) : Moves w s (s.faultSpread a c) :=
  (s.faultOne_moves a c).trans (State.spreadFaults_moves _ _ _)

theorem State.enterFaulted_moves (a : Nat) (c : FaultCause) : Moves w s (s.enterFaulted a c) := by
  unfold State.enterFaulted
  dsimp only
  split
  · exact (s.faultSpread_moves a c).trans (State.admissionPass_moves _)
  · exact s.faultSpread_moves a c

/-! ## Wake queues -/

@[simp] theorem Station.account_state (now rated : Nat) (r : Station) : (r.account now rated).state = r.state :=
  (Station.account_stays now rated r).state

theorem State.joinQueue_moves (a : Nat) (q : Priority) (h : (s.st a).state = .parked) :
    Moves w s (s.joinQueue a q) := by
  have hk := s.account_kept a
  have hst : ((s.account a).st a).state = .parked := by
    rw [State.account, s.st_modSt_self a _ (hasRecord_of_state s a (by simp [h])), Station.account_state, h]
  exact (s.account_moves a).trans (Move.wait a _ q (.inl ⟨hst, rfl⟩) rfl rfl).moves

theorem State.moveToDemand_moves (a : Nat) (h : (s.st a).state = .wakeQueued) : Moves w s (s.moveToDemand a) :=
  (Move.up a h).moves

theorem State.chainOne_moves (q : Priority) (p : Nat) : Moves w s (s.chainOne q p).1 := by
  unfold State.chainOne
  split
  · next h => exact s.joinQueue_moves p q h
  · next h =>
    split
    · exact s.moveToDemand_moves p h
    · exact .refl w s
  · exact .refl w s

theorem State.chainAll_moves (q : Priority) (l : List Nat) : Moves w s (s.chainAll q l).1 := by
  induction l generalizing s with
  | nil => exact .refl w s
  | cons p l ih => exact (s.chainOne_moves q p).trans (ih _)

theorem State.chainWalk_moves (n : Nat) (l : List Nat) : Moves w s (s.chainWalk n l) := by
  induction n generalizing s l with
  | zero => exact .refl w s
  | succ n ih =>
    cases l with
    | nil => exact .refl w s
    | cons a l =>
      unfold State.chainWalk
      split
      · exact ih s l
      · split
        · exact (s.faultSpread_moves a _).trans (ih _ _)
        · exact (s.chainAll_moves _ _).trans (ih _ _)

theorem State.afterEntry_moves (a : Nat) : Moves w s (s.afterEntry a) := s.chainWalk_moves _ _

theorem State.takeWake_moves (a : Nat) (q : Priority) : Moves w s (s.takeWake a q) := by
  unfold State.takeWake
  split
  · next h => exact ((s.joinQueue_moves a _ h).trans (State.afterEntry_moves _ a)).trans (State.admissionPass_moves _)
  · next h =>
    split
    · exact ((s.moveToDemand_moves a h).trans (State.afterEntry_moves _ a)).trans (State.admissionPass_moves _)
    · exact s.setDemand_moves a
  · exact s.setDemand_moves a
  · exact s.setDemand_moves a
  · exact .refl w s

theorem State.takeWakes_moves (q : Priority) (l : List Nat) : Moves w s (s.takeWakes q l) :=
  Moves.foldl _ (fun t a => t.takeWake_moves a q) l s

/-! ## Entry to FREE -/

/-- What a rule may do to a record beyond its entry to FREE. -/
structure Station.Tints (r q : Station) : Prop where
  state : q.state = r.state
  mark : q.parkMark = r.parkMark
  hold : q.hold = r.hold

theorem State.enterFree_moves (a : Nat) (f : Station → Station) (h : ∀ r, Station.Tints r (f r)) :
    Moves w s (s.enterFree a f) := by
  have k : Moves w s ((s.dequeue a).modSt a fun r => f (r.freed s.now (s.pol a).rated)) := by
    have hf := h ((s.st a).freed s.now (s.pol a).rated)
    have free : (f ((s.st a).freed s.now (s.pol a).rated)).state = .free := hf.state
    exact (Move.leave a _ ⟨ne_of_eq_of_ne free (by decide), ne_of_eq_of_ne free (by decide)⟩ (ne_of_eq_of_ne free (by decide))
      (ne_of_eq_of_ne free (by decide)) (.inl hf.mark) (hf.hold.trans (Station.freed_kept _ _ _).hold)).moves
  unfold State.enterFree
  dsimp only
  split
  · exact k.trans (State.admissionPass_moves _)
  · exact k

theorem State.leavePark_moves (a : Nat) (z : Bool) : Moves w s (s.leavePark a z) := by
  unfold State.leavePark
  split
  · exact s.enterFree_moves a _ fun r => by cases z <;> exact ⟨rfl, rfl, rfl⟩
  · exact .refl w s

theorem State.leaveParkAll_moves (l : List Nat) : Moves w s (s.leaveParkAll l) :=
  Moves.foldl _ (fun t a => t.leavePark_moves a false) l s

/-! ## Soundings, closing zones, wake-due times -/

theorem State.endSounding_moves (z t : Nat) : Moves w s (s.endSounding z t) :=
  (s.setZone_moves z _).trans (Moves.foldl _ (fun u a => u.satisfy_moves a t) _ _)

theorem State.closeThose_moves (l : List Nat) : Moves w s (s.closeThose l) := by
  refine Moves.foldl _ (fun t z => ?_) l s
  split
  · exact .refl w t
  · exact t.leaveParkAll_moves _

theorem State.armWakeDue_moves (a : Nat) : Moves w s (s.armWakeDue a) := by
  unfold State.armWakeDue
  exact s.modSt_moves a _ (by exact fun _ => ⟨rfl, rfl, id⟩)

theorem State.expireWakeDue_moves (a : Nat) : Moves w s (s.expireWakeDue a) := by
  unfold State.expireWakeDue
  split
  · exact .refl w s
  · split
    · exact (s.modSt_moves a _ (by exact fun _ => ⟨rfl, rfl, id⟩)).trans (State.takeWake_moves _ a _)
    · exact .refl w s

theorem State.rearmWakeDue_moves : Moves w s s.rearmWakeDue :=
  (Moves.foldl _ (fun t a => t.armWakeDue_moves a) _ s).trans (Moves.foldl _ (fun t a => t.expireWakeDue_moves a) _ _)

theorem State.setWeek_moves (v : Nat) : Moves w s (s.setWeek v) :=
  have clock : s.Aside { s with clock := ⟨true, v, s.now⟩ } := .line rfl
  (clock.moves.trans (State.closeThose_moves _ _)).trans (State.rearmWakeDue_moves _)

/-! ## The Park engine -/

/-- A station believed to run has a record. -/
theorem State.hasRecord_of_eligible (a : Nat) (h : s.eligible a = true) : hasRecord a := by
  by_contra hn
  simp [State.eligible, State.st_none s a hn, Station.reset] at h

theorem State.parkTest_moves (a : Nat) (h : hasRecord a → (s.st a).state = .free) : Moves w s (s.parkTest a) := by
  unfold State.parkTest
  split
  · next he => exact (Move.queue a (h (s.hasRecord_of_eligible a he))).moves
  · exact .refl w s

theorem State.starvedWake_moves (a : Nat) : Moves w s (s.starvedWake a) := by
  unfold State.starvedWake
  split
  · exact s.takeWake_moves a _
  · exact .refl w s

theorem State.neededWake_moves (a : Nat) : Moves w s (s.neededWake a) := by
  unfold State.neededWake
  dsimp only
  split
  · exact s.takeWake_moves a _
  · split
    · exact .refl w s
    · exact s.takeWake_moves a _

theorem State.enterParked_moves (a : Nat) (f : Station → Station) (h : ∀ r, Station.Tints r (f r))
    (was : (s.st a).state.unqueued) : Moves w s (s.enterParked a f) := by
  have hf := h ((s.st a).parkedAt s.now)
  have park : Moves w s (s.modSt a fun r => f (r.parkedAt s.now)) := by
    have parked : (f ((s.st a).parkedAt s.now)).state = .parked := hf.state
    have mark : (f ((s.st a).parkedAt s.now)).parkMark = some s.now := hf.mark
    exact (Move.shift a _ was ⟨ne_of_eq_of_ne parked (by decide), ne_of_eq_of_ne parked (by decide)⟩ (ne_of_eq_of_ne parked (by decide))
      (fun _ => by simp only [mark, parked, Option.isSome_some]) hf.hold).moves
  exact ((park.trans (State.armWakeDue_moves _ a)).trans (State.starvedWake_moves _ a)).trans
    (State.neededWake_moves _ a)

theorem State.actAtParked_moves (a : Nat) : Moves w s (s.actAtParked a) := by
  unfold State.actAtParked
  dsimp only
  split
  · exact s.takeWake_moves a _
  · split
    · split
      · exact s.enterFree_moves a _ (by exact fun _ => ⟨rfl, rfl, rfl⟩)
      · exact .refl w s
    · split
      · exact s.takeWake_moves a _
      · exact .refl w s

theorem State.completePark_moves (a : Nat) (was : (s.st a).state.unqueued) : Moves w s (s.completePark a) :=
  ((s.enterParked_moves a _ (by exact fun _ => ⟨rfl, rfl, rfl⟩) was).trans (State.actAtParked_moves _ a)).trans
    (State.expireWakeDue_moves _ a)

theorem State.adoptWake_moves (a : Nat) : Moves w s (s.adoptWake a) := by
  unfold State.adoptWake
  split
  · exact s.takeWake_moves a _
  · exact .refl w s

theorem State.exemptWake_moves (a : Nat) : Moves w s (s.exemptWake a) := by
  unfold State.exemptWake
  split
  · exact s.takeWake_moves a _
  · exact .refl w s

theorem State.adoptParked_moves (a : Nat) (was : (s.st a).state.unqueued) : Moves w s (s.adoptParked a) :=
  (((s.enterParked_moves a _ (by exact fun _ => ⟨rfl, rfl, rfl⟩) was).trans (State.adoptWake_moves _ a)).trans
    (State.exemptWake_moves _ a)).trans (State.expireWakeDue_moves _ a)

theorem State.parkAcked_moves (a : Nat) : Moves w s (s.parkAcked a) := by
  unfold State.parkAcked
  exact s.modSt_moves a _ (by exact fun _ => ⟨rfl, rfl, id⟩)

theorem State.parkRefused_moves (a : Nat) : Moves w s (s.parkRefused a) :=
  s.enterFree_moves a _ (by exact fun _ => ⟨rfl, rfl, rfl⟩)

theorem State.coastObserved_moves (a : Nat) (o : Snapshot) (was : (s.st a).state.unqueued) :
    Moves w s (s.coastObserved a o) := by
  unfold State.coastObserved
  split
  · exact s.completePark_moves a was
  · exact s.enterFree_moves a id fun _ => ⟨rfl, rfl, rfl⟩
  · exact .refl w s

/-! ## Observations -/

theorem State.localStart_moves (a : Nat) : Moves w s (s.localStart a) :=
  s.enterFree_moves a _ (by exact fun _ => ⟨rfl, rfl, rfl⟩)

theorem State.settle_moves (a : Nat) : Moves w s (s.settle a) := s.enterFree_moves a _ (by exact fun _ => ⟨rfl, rfl, rfl⟩)

theorem State.creditUpdate_moves (a load : Nat) : Moves w s (s.creditUpdate a load) :=
  s.modSt_moves a _ (by exact fun _ => ⟨rfl, rfl, id⟩)

theorem State.creditFault_moves (a : Nat) : Moves w s (s.creditFault a) := s.modSt_moves a _ (by exact fun _ => ⟨rfl, rfl, id⟩)

/-- A credit computation leaves every station in its state. -/
@[simp] theorem State.creditUpdate_state (a load b : Nat) : ((s.creditUpdate a load).st b).state = (s.st b).state := by
  unfold State.creditUpdate
  dsimp only
  rcases s.st_modSt_cases a (Station.creditUpdate s.now (s.pol a) load) b with ⟨rfl, -, e⟩ | ⟨-, e⟩ <;> rw [e]
  rfl

theorem State.creditAndTest_moves (a load : Nat) (h : hasRecord a → (s.st a).state = .free) :
    Moves w s (s.creditAndTest a load) :=
  (s.creditUpdate_moves a load).trans (State.parkTest_moves _ a (by simpa using h))

/-- The station an entry to FREE is for ends FREE: it stands in no queue that the admission pass walks. -/
theorem State.enterFree_st (a : Nat) (f : Station → Station) (h : hasRecord a) :
    (s.enterFree a f).st a = f ((s.st a).freed s.now (s.pol a).rated) := by
  have k : ((s.dequeue a).modSt a fun r => f (r.freed s.now (s.pol a).rated)).st a
      = f ((s.st a).freed s.now (s.pol a).rated) := by
    rw [State.st_modSt_self _ a _ h, State.st_dequeue]
  unfold State.enterFree
  dsimp only
  split
  · rw [State.st_admissionPass_other, k]
    simp [State.dequeue]
  · exact k

theorem State.adoptFree_moves (a : Nat) (o : Snapshot) : Moves w s (s.adoptFree a o) := by
  have h : Moves w s (s.enterFree a (Station.adopted s.now o)) := s.enterFree_moves a _ (by exact fun _ => ⟨rfl, rfl, rfl⟩)
  unfold State.adoptFree
  dsimp only
  split
  · exact h.trans (State.creditFault_moves _ a)
  · exact h.trans (State.creditAndTest_moves _ a _ fun hr => by rw [s.enterFree_st a _ hr]; rfl)

theorem State.noteStart_moves (a : Nat) (b : Option Snapshot) (o : Snapshot) : Moves w s (s.noteStart a b o) := by
  unfold State.noteStart
  split
  · exact s.modSt_moves a _ (by exact fun _ => ⟨rfl, rfl, id⟩)
  · exact .refl w s

@[simp] theorem State.noteStart_state (a c : Nat) (b : Option Snapshot) (o : Snapshot) :
    ((s.noteStart a b o).st c).state = (s.st c).state := by
  unfold State.noteStart
  split
  · rcases s.st_modSt_cases a (Station.recordStart s.now) c with ⟨rfl, -, e⟩ | ⟨-, e⟩ <;> rw [e]
    rfl
  · rfl

theorem State.dispatchObs_moves (a : Nat) (b : Option Snapshot) (o : Snapshot) : Moves w s (s.dispatchObs a b o) := by
  unfold State.dispatchObs
  dsimp only
  split
  · next h =>
    split
    · exact s.adoptParked_moves a (by simp [h, StState.unqueued])
    · exact s.adoptFree_moves a o
  · next h =>
    split
    · exact s.creditFault_moves a
    · exact (s.noteStart_moves a b o).trans (State.creditAndTest_moves _ a _ fun _ => by simp [h])
  · split
    · exact (s.creditFault_moves a).trans (State.leavePark_moves _ a _)
    · split
      · exact s.leavePark_moves a _
      · split
        · exact (s.creditUpdate_moves a _).trans (State.leavePark_moves _ a _)
        · exact s.creditUpdate_moves a _
  · next h =>
    split
    · exact s.enterFaulted_moves a _
    · split
      · exact s.coastObserved_moves a o (by simp [h, StState.unqueued])
      · exact .refl w s
  · split
    · exact s.enterFaulted_moves a _
    · split
      · exact s.localStart_moves a
      · exact s.account_moves a
  · split
    · exact s.enterFaulted_moves a _
    · split
      · exact s.localStart_moves a
      · exact .refl w s
  · split
    · exact s.enterFaulted_moves a _
    · split
      · split
        · exact s.localStart_moves a
        · exact .refl w s
      · split
        · split
          · exact s.settle_moves a
          · exact .refl w s
        · exact .refl w s
  · exact .refl w s

theorem State.starveMember_moves (m : Nat) : Moves w s (s.starveMember m) := by
  unfold State.starveMember
  split
  · exact s.takeWake_moves m _
  · split
    · exact s.takeWake_moves m _
    · exact .refl w s
  · exact s.leavePark_moves m _
  · exact .refl w s

theorem State.starve_moves (i : Nat) (ms : List Nat) : Moves w s (s.starve i ms) :=
  ((s.setStarved_moves i true).trans (State.raise_moves _ _)).trans
    (Moves.foldl _ (fun t m => t.starveMember_moves m) _ _)

theorem State.judgeStarved_moves (a aux i : Nat) : Moves w s (s.judgeStarved a aux i) := by
  unfold State.judgeStarved
  split
  · split
    · split
      · split
        · exact s.setStarved_moves i false
        · exact .refl w s
      · split
        · exact s.starve_moves i _
        · exact .refl w s
    · exact .refl w s
  all_goals exact .refl w s

theorem State.referenceSeen_moves (a aux : Nat) : Moves w s (s.referenceSeen a aux) :=
  Moves.foldl _ (fun t i => t.judgeStarved_moves a aux i) _ s

theorem State.observe_moves (a : Nat) (x : StatusRec) : Moves w s (s.observe a x) := by
  unfold State.observe
  split
  · exact .refl w s
  · dsimp only
    have h : Moves w s (s.modSt a (Station.observed s.now (snapshotOf x))) :=
      s.modSt_moves a _ (by exact fun _ => ⟨rfl, rfl, id⟩)
    split
    · exact h.trans (State.referenceSeen_moves _ a _)
    · exact (h.trans (State.dispatchObs_moves _ a _ _)).trans (State.referenceSeen_moves _ a _)

end Sys2Proof.Machine
end


section
/-! SUPPORT. Which records the faults and the wake walks leave alone, and the Forwarding unit, the master and the
scanner as runs of moves. -/

namespace Sys2Proof.Machine

variable {w : Prop} (s : State)

/-! ## Records that the faults leave alone -/

theorem State.st_failLimitTest_other (a b : Nat) (h : b ≠ a) : (s.failLimitTest a).st b = s.st b := by
  unfold State.failLimitTest
  dsimp only
  split
  · rw [State.st_raise, s.st_modSt_other a b _ h]
  · rfl

theorem State.st_faultOne_other (a b : Nat) (c : FaultCause) (h : b ≠ a) : (s.faultOne a c).st b = s.st b := by
  have k : (((s.dequeue a).modSt a (Station.faultWith s.now (s.pol a).rated c)).raise .stationFault).st b = s.st b := by
    rw [State.st_raise, State.st_modSt_other _ a b _ h, State.st_dequeue]
  unfold State.faultOne
  dsimp only
  split
  · rw [State.st_failLimitTest_other _ a b h, k]
  · rw [State.st_failLimitTest_other _ a b h, k]
  · exact k

theorem State.st_faultAll_other (l : List Nat) (c : FaultCause) (b : Nat) (h : b ∉ l) :
    (l.foldl (fun t q => t.faultOne q c) s).st b = s.st b := by
  induction l generalizing s with
  | nil => rfl
  | cons a l ih =>
    simp only [List.mem_cons, not_or] at h
    rw [List.foldl_cons, ih _ h.2, s.st_faultOne_other a b c h.1]

theorem State.mem_waitingOn (p q : Nat) : q ∈ s.waitingOn p ↔ q ∈ s.supported p ∧ (s.st q).state = .wakeQueued := by
  simp [State.waitingOn]

/-- A supporter's fault spreads to WAKE_QUEUED stations alone (R137). -/
theorem State.st_spreadFaults_still (n : Nat) (l : List Nat) (b : Nat) (h : (s.st b).state ≠ .wakeQueued) :
    (s.spreadFaults n l).st b = s.st b := by
  induction n generalizing s l with
  | zero => rfl
  | succ n ih =>
    cases l with
    | nil => rfl
    | cons p l =>
      have hb : b ∉ s.waitingOn p := fun hm => h ((s.mem_waitingOn p b).mp hm).2
      have k := s.st_faultAll_other _ .supportFault b hb
      rw [State.spreadFaults, ih _ _ (by rwa [k]), k]

theorem State.st_faultSpread_still (a b : Nat) (c : FaultCause) (h : b ≠ a) (hb : (s.st b).state ≠ .wakeQueued) :
    (s.faultSpread a c).st b = s.st b := by
  have k := s.st_faultOne_other a b c h
  rw [State.faultSpread, State.st_spreadFaults_still _ _ _ b (by rwa [k]), k]

/-! ## Records that the wake walks leave alone -/

theorem State.st_account_other (a b : Nat) (h : b ≠ a) : (s.account a).st b = s.st b := s.st_modSt_other a b _ h

theorem State.st_joinQueue_other (a b : Nat) (q : Priority) (h : b ≠ a) : (s.joinQueue a q).st b = s.st b := by
  rw [State.joinQueue, State.st_enqueue, State.st_modSt_other _ a b _ h, s.st_account_other a b h]

theorem State.st_moveToDemand_other (a b : Nat) (h : b ≠ a) : (s.moveToDemand a).st b = s.st b := by
  rw [State.moveToDemand, State.st_enqueue, State.setDemand, State.st_modSt_other _ a b _ h, State.st_dequeue]

/-- A state that a walk of supporters neither queues, moves nor faults (R134, R137). -/
def StState.still (x : StState) : Prop := x ≠ .parked ∧ x ≠ .wakeQueued

variable {s} {b : Nat}

theorem State.st_chainOne_still (q : Priority) (p : Nat) (h : (s.st b).state.still) :
    (s.chainOne q p).1.st b = s.st b := by
  have ne (x : StState) (hp : (s.st p).state = x) (hb : (s.st b).state ≠ x) : b ≠ p := fun e => hb (e ▸ hp)
  unfold State.chainOne
  split
  · next hp => exact s.st_joinQueue_other p b q (ne _ hp h.1)
  · next hp =>
    split
    · exact s.st_moveToDemand_other p b (ne _ hp h.2)
    · rfl
  · rfl

theorem State.st_chainAll_still (q : Priority) (l : List Nat) (h : (s.st b).state.still) :
    (s.chainAll q l).1.st b = s.st b := by
  induction l generalizing s with
  | nil => rfl
  | cons p l ih =>
    have k := State.st_chainOne_still q p h
    rw [State.chainAll, ih (by rwa [k]), k]

theorem State.st_chainWalk_still (n : Nat) (l : List Nat) (h : (s.st b).state.still) :
    (s.chainWalk n l).st b = s.st b := by
  induction n generalizing s l with
  | zero => rfl
  | succ n ih =>
    cases l with
    | nil => rfl
    | cons a l =>
      unfold State.chainWalk
      split
      · exact ih l h
      · next ha =>
        have hba : b ≠ a := fun e => h.2 (by rw [e]; exact not_not.mp ha)
        split
        · have k := s.st_faultSpread_still a b .supportFault hba h.2
          rw [ih _ (by rwa [k]), k]
        · have k := State.st_chainAll_still (s.queueOf a) (s.liveSupporters a) h
          rw [ih _ (by rwa [k]), k]

theorem State.st_afterEntry_still (a : Nat) (h : (s.st b).state.still) : (s.afterEntry a).st b = s.st b :=
  State.st_chainWalk_still _ _ h

variable (s)

/-! ## Forwarding -/

theorem State.setFwd_moves (f : Fwd)
    (posted : s.fwd.posted.length ≤ Config.postedCap → f.posted.length ≤ Config.postedCap)
    (delayed : s.fwd.delayed.length ≤ Config.delayedCap → f.delayed.length ≤ Config.delayedCap) :
    Moves w s { s with fwd := f } := (State.Aside.forward f posted delayed).moves

theorem State.countFwd_moves (f : FwdCounters → FwdCounters) : Moves w s (s.countFwd f) := s.setFwd_moves _ id id

theorem State.offer_aside (p : Port) (f : Frame) : s.Aside (s.offer p f) := by
  unfold State.offer
  dsimp only
  cases p <;> split <;> exact .line rfl

theorem State.offer_moves (p : Port) (f : Frame) : Moves w s (s.offer p f) := (s.offer_aside p f).moves

theorem State.answer_moves (f : Frame) : Moves w s (s.answer f) := by
  unfold State.answer
  split
  · exact s.offer_moves .c f
  · exact (State.Aside.line rfl).moves

theorem State.nak_moves (src tag cause : Byte) : Moves w s (s.nak src tag cause) := s.answer_moves _

theorem State.accept_moves (a : Nat) (r : SetRec) : Moves w s (s.accept a r) := by
  unfold State.accept
  exact (s.modSt_moves a _ (by exact fun _ => ⟨rfl, rfl, id⟩)).trans (State.leavePark_moves _ a _)

theorem State.buffer_moves {t : State} (e : Entry) (h : s.buffer e = some t) : Moves w s t := by
  unfold State.buffer at h
  split at h
  · next hr =>
    cases h
    exact s.setFwd_moves _ (fun _ => by simpa using hr) id
  · cases h

/-- An entry placed in a hold list takes the place of its youngest or finds room (R31, R34). -/
theorem State.holdPlace_moves {t : State} (a : Nat) (r : SetRec) (e : Entry) (h : s.holdPlace a r e = some t) :
    Moves w s t := by
  have bump : Moves w s { s with fwd := { s.fwd with seq := s.fwd.seq + 1 } } := s.setFwd_moves _ id id
  unfold State.holdPlace at h
  dsimp only at h
  split at h
  · next hc =>
    cases h
    have hne : (s.st a).hold ≠ [] := by
      intro hn
      simp [State.coalesces, hn] at hc
    have hpos := List.length_pos_of_ne_nil hne
    refine (bump.trans (Move.record a _ ⟨rfl, rfl, fun hl => ?_⟩).moves).trans (State.countFwd_moves _ _)
    have : (State.st { s with fwd := { s.fwd with seq := s.fwd.seq + 1 } } a) = s.st a := State.st_congr s _ rfl a
    rw [this] at hl ⊢
    simp only [List.length_append, List.length_dropLast, List.length_singleton]
    omega
  · split at h
    · next hr =>
      cases h
      refine bump.trans (Move.record a _ ⟨rfl, rfl, fun hl => ?_⟩).moves
      have : (State.st { s with fwd := { s.fwd with seq := s.fwd.seq + 1 } } a) = s.st a := State.st_congr s _ rfl a
      rw [this] at hl ⊢
      simp only [List.length_append, List.length_singleton]
      omega
    · cases h

theorem State.placeFree_moves {t : State} (a : Nat) (r : SetRec) (e : Entry) (h : s.placeFree a r e = some t) :
    Moves w s t := by
  unfold State.placeFree at h
  split at h
  · exact s.buffer_moves e h
  · exact s.holdPlace_moves a r e h

theorem State.accepted_moves (src tag : Byte) (a : Nat) (r : SetRec) : Moves w s (s.accepted src tag a r) :=
  (s.accept_moves a r).trans (State.answer_moves _ _)

theorem State.acceptIf_moves (src tag : Byte) (a : Nat) (r : SetRec) (cause : Byte) (o : Option State)
    (h : ∀ t, o = some t → Moves w s t) : Moves w s (s.acceptIf src tag a r cause o) := by
  unfold State.acceptIf
  split
  · exact (h _ rfl).trans (State.accepted_moves _ src tag a r)
  · exact s.nak_moves src tag cause

theorem State.postSet_moves (src dst tag : Byte) (r : SetRec) : Moves w s (s.postSet src dst tag r) := by
  unfold State.postSet
  dsimp only
  split
  · split
    · exact (s.countFwd_moves _).trans (State.accepted_moves _ _ _ _ _)
    · split
      · split
        · next t ht =>
          exact ((s.placeFree_moves _ r _ ht).trans (State.accepted_moves _ _ _ _ _)).trans
            (State.enterFree_moves _ _ id fun _ => ⟨rfl, rfl, rfl⟩)
        · exact s.nak_moves _ _ _
      · exact s.acceptIf_moves _ _ _ _ _ _ fun _ ht => s.holdPlace_moves _ r _ ht
    · split
      · next t ht =>
        have h : Moves w s (t.accepted src tag dst.toNat r) :=
          (s.holdPlace_moves _ r _ ht).trans (State.accepted_moves _ _ _ _ _)
        split
        · exact h.trans (State.takeWake_moves _ _ _)
        · exact h
      · exact s.nak_moves _ _ _
  · exact s.acceptIf_moves _ _ _ _ _ _ fun _ ht => s.placeFree_moves _ r _ ht

theorem State.refusedSet_moves (a : Nat) (r : SetRec) : Moves w s (s.refusedSet a r) := by
  unfold State.refusedSet
  split
  · exact s.leavePark_moves a _
  · split
    · exact s.takeWake_moves a _
    · split
      · exact s.enterFree_moves a _ (by exact fun _ => ⟨rfl, rfl, rfl⟩)
      · exact .refl w s

theorem State.freeDelayed_moves (k : DelayKey) : Moves w s (s.freeDelayed k) :=
  s.setFwd_moves _ id fun h => (List.length_filter_le _ _).trans h

theorem State.collect_moves (src tag : Byte) (k : DelayKey) (r : Result) : Moves w s (s.collect src tag k r) := by
  have h := s.freeDelayed_moves (w := w) k
  cases r with
  | noReply => exact h.trans (State.nak_moves _ _ _ _)
  | frame f =>
    unfold State.collect
    dsimp only
    split
    · exact (h.trans (State.answer_moves _ _)).trans (State.countFwd_moves _ _)
    · exact h.trans (State.answer_moves _ _)

theorem State.fileDelayed_moves (src : Byte) (k : DelayKey) (p : Option SetRec)
    (h : s.fwd.delayed.length < Config.delayedCap) : Moves w s (s.fileDelayed src k p) :=
  s.setFwd_moves _ id fun _ => by simpa using h

theorem State.newDelayed_moves (src : Byte) (k : DelayKey) (p : Option SetRec) :
    Moves w s (s.newDelayed src k p) := by
  unfold State.newDelayed
  dsimp only
  split
  · split
    · exact (s.nak_moves _ _ _).trans (State.refusedSet_moves _ _ _)
    · split
      · next h => exact ((s.fileDelayed_moves src k _ h).trans (State.accept_moves _ _ _)).trans (State.nak_moves _ _ _ _)
      · exact s.nak_moves _ _ _
  · split
    · next h => exact (s.fileDelayed_moves src k _ h).trans (State.nak_moves _ _ _ _)
    · exact s.nak_moves _ _ _

theorem State.delayedRequest_moves (src : Byte) (k : DelayKey) (p : Option SetRec) :
    Moves w s (s.delayedRequest src k p) := by
  unfold State.delayedRequest
  split
  · exact s.newDelayed_moves src k p
  · split
    · exact s.nak_moves _ _ _
    · split
      · exact s.collect_moves _ _ _ _
      · exact s.nak_moves _ _ _
      · exact s.nak_moves _ _ _

theorem State.pollStation_moves (src dst tag : Byte) : Moves w s (s.pollStation src dst tag) := by
  unfold State.pollStation
  dsimp only
  split
  · split
    · exact s.collect_moves _ _ _ _
    · exact s.nak_moves _ _ _
  · exact s.delayedRequest_moves _ _ _

theorem State.setStation_moves (src dst tag : Byte) (r : SetRec) : Moves w s (s.setStation src dst tag r) := by
  unfold State.setStation
  split
  · exact s.nak_moves _ _ _
  · split
    · exact s.nak_moves _ _ _
    · split
      · exact s.delayedRequest_moves _ _ _
      · exact s.postSet_moves _ _ _ _

theorem State.discardDelayed_moves (k : DelayKey) : Moves w s (s.discardDelayed k) := by
  unfold State.discardDelayed
  split
  · split
    · exact (s.freeDelayed_moves k).trans (State.countFwd_moves _ _)
    · exact .refl w s
  · exact .refl w s

theorem State.dropBroadcast_moves : Moves w s s.dropBroadcast :=
  (s.countFwd_moves _).trans (State.raise_moves _ _)

theorem State.forwardBroadcast_moves {t : State} (src tag : Byte) (x : Posting)
    (h : s.forwardBroadcast src tag x = some t) : Moves w s t := by
  unfold State.forwardBroadcast at h
  split at h
  · cases h
  · exact s.buffer_moves _ h

theorem State.acceptAll_moves (r : SetRec) : Moves w s (s.acceptAll r) := by
  refine Moves.foldl _ (fun t a => ?_) addresses s
  split
  · exact .refl w t
  · exact t.accept_moves a r

theorem State.setBroadcast_moves (src tag : Byte) (r : SetRec) : Moves w s (s.setBroadcast src tag r) := by
  unfold State.setBroadcast
  split
  · exact s.dropBroadcast_moves
  · split
    · exact s.dropBroadcast_moves
    · next t ht => exact (s.forwardBroadcast_moves _ _ _ ht).trans (State.acceptAll_moves _ r)

theorem State.judgeTime_moves (v : Nat) : Moves w s (s.judgeTime v) := by
  unfold State.judgeTime
  split
  · exact .refl w s
  · split
    · exact (State.Aside.line rfl).moves
    · exact s.setWeek_moves v

theorem State.timeBroadcast_moves (src tag : Byte) (x : BitVec 32) : Moves w s (s.timeBroadcast src tag x) := by
  have h := s.judgeTime_moves (w := w) x.toNat
  unfold State.timeBroadcast
  dsimp only
  split
  · exact h.trans (State.dropBroadcast_moves _)
  · next t ht => exact h.trans (State.forwardBroadcast_moves _ _ _ _ ht)

theorem State.lose_moves (e : Entry) (c : LostCause) (x : Byte) : Moves w s (s.lose e c x) :=
  (State.Aside.moves ⟨rfl, rfl, rfl, rfl, rfl, rfl, rfl, rfl, rfl, id, id, id⟩ : Moves w s (s.lose e c x))

theorem State.removeEntry_moves (a seq : Nat) : Moves w s (s.removeEntry a seq) := by
  unfold State.removeEntry
  exact (s.setFwd_moves { s.fwd with posted := s.fwd.posted.filter (fun e => e.seq ≠ seq) }
    (fun h => (List.length_filter_le _ _).trans h) id).trans
    (State.modSt_moves _ a _ (by exact fun _ => ⟨rfl, rfl, fun h => (List.length_filter_le _ _).trans h⟩))

theorem State.countAttempt_moves (a seq : Nat) : Moves w s (s.countAttempt a seq) := by
  unfold State.countAttempt
  dsimp only
  refine (s.setFwd_moves { s.fwd with posted := s.fwd.posted.map _ } (fun h => ?_) id).trans
    (State.modSt_moves _ a _ ?_)
  · rwa [List.length_map]
  · exact fun r => ⟨rfl, rfl, fun h => by rwa [List.length_map]⟩

theorem State.entryOutcome_moves (a seq : Nat) (reply : Option Frame) : Moves w s (s.entryOutcome a seq reply) := by
  unfold State.entryOutcome
  split
  · exact .refl w s
  · split
    · split
      · exact (s.removeEntry_moves a seq).trans (State.lose_moves _ _ _ _)
      · exact s.removeEntry_moves a seq
    · split
      · exact s.countAttempt_moves a seq
      · exact (s.removeEntry_moves a seq).trans (State.lose_moves _ _ _ _)

theorem State.delayedOutcome_moves (k : DelayKey) (reply : Option Frame) : Moves w s (s.delayedOutcome k reply) :=
  s.setFwd_moves _ id fun h => by rwa [List.length_map]

/-! ## Scanner -/

theorem State.scanSelect_moves (n : Nat) : Moves w s (State.scanSelect n s) := by
  obtain ⟨c, hc⟩ := State.scanSelect_changes_scan n s
  rw [hc]
  exact s.setScan_moves c

theorem State.startScan_moves (m : ScanMode) : Moves w s (s.startScan m) := by
  obtain ⟨c, hc⟩ := s.startScan_changes_scan m
  rw [hc]
  exact s.setScan_moves c

theorem State.autoScan_moves : Moves w s s.autoScan := by
  obtain ⟨c, hc⟩ := s.autoScan_changes_scan
  rw [hc]
  exact s.setScan_moves c

/-- A scan poll that misses counts the miss and then moves the scanner on as one that is answered does (R178). -/
theorem State.scanOutcome_missed (a : Nat) :
    s.scanOutcome a false
      = (s.modSt a (fun r => { r with scanMiss := satAdd Config.max16 r.scanMiss 1 })).scanOutcome a true := rfl

theorem State.scanOutcome_moves (a : Nat) (replied : Bool) : Moves w s (s.scanOutcome a replied) := by
  have on (u : State) : Moves w u (u.scanOutcome a true) := by
    unfold State.scanOutcome
    simp only [if_true]
    split
    · exact u.setScan_moves _
    · split
      · exact u.setScan_moves _
      · split
        · exact (u.setScan_moves _).trans (State.scanSelect_moves _ _)
        · exact u.setScan_moves _
  cases replied with
  | true => exact on s
  | false =>
    rw [s.scanOutcome_missed]
    exact (s.modSt_moves a _ (by exact fun _ => ⟨rfl, rfl, id⟩)).trans (on _)

theorem State.stopScan_moves : Moves w s s.stopScan := by
  unfold State.stopScan
  split
  · exact .refl w s
  · exact s.setScan_moves _
  · split
    · exact s.setScan_moves _
    · exact s.setScan_moves _

/-! ## Arbitration -/

/-- The head that class G offers is the head of the park queue (R57, R117). -/
theorem State.head_of_pickG {s : State} {a : Nat} (h : s.pickG = some (.head a)) : s.parkQ.head? = some a := by
  have park : s.mayPark = some a → s.parkQ.head? = some a := by
    unfold State.mayPark
    split
    · simp
    · next hq =>
      split
      · intro he
        rw [hq]
        simpa using he
      · simp
  unfold State.pickG at h
  split at h
  · cases h
  · split at h
    · cases h
    · split at h
      · cases h
      · split at h
        · cases h
        · obtain ⟨x, hx, he⟩ := Option.map_eq_some_iff.mp h
          cases he
          exact park hx

/-- What an arbitration grants is an offer of its class (R60). -/
theorem State.arbitration_g {s : State} {o : Offer} (h : s.arbitration = some (.g o)) : s.pickG = some o := by
  have shape : s.arbitration = (s.pickG.map Grant.g) ∨ s.arbitration = (s.pickS.map Grant.s)
      ∨ s.arbitration = ((least Delayed.seq s.classR).map Grant.r).or
          (((least Entry.seq s.classP).map Grant.p).or ((s.pickG.map Grant.g).or (s.pickS.map Grant.s))) := by
    unfold State.arbitration
    dsimp only
    split
    · exact .inl rfl
    · split
      · exact .inr (.inl rfl)
      · exact .inr (.inr rfl)
  rcases shape with k | k | k <;> rw [k] at h
  · simpa using h
  · cases hs : s.pickS <;> simp [hs] at h
  · cases hr : least Delayed.seq s.classR <;> cases hp : least Entry.seq s.classP <;> cases hs : s.pickS <;>
      cases hg : s.pickG <;> simp_all

theorem State.head_mem_parkQ {s : State} {a : Nat} (h : s.arbitration = some (.g (.head a))) : a ∈ s.parkQ :=
  List.mem_of_head? (State.head_of_pickG (State.arbitration_g h))

theorem State.startExchange_moves (x : Exchange) : Moves w s (s.startExchange x) :=
  (s.setMaster_moves _).trans (State.offer_moves _ _ _)

theorem State.startOwn_moves (c : ReqClass) (q : ReqRef) (a : Nat) (b : Body) : Moves w s (s.startOwn c q a b) :=
  (s.setMaster_moves _).trans (State.startExchange_moves _ _)

theorem State.markInFlight_moves (k : DelayKey) : Moves w s (s.markInFlight k) :=
  s.setFwd_moves _ id fun h => by rwa [List.length_map]

theorem State.startPark_moves (a : Nat) (h : a ∈ s.parkQ) : Moves w s (s.startPark a) := by
  unfold State.startPark
  exact (Move.leave a _ ⟨by simp, by simp⟩ (by simp) (by simp) (.inr ⟨h, rfl⟩) rfl).moves

theorem State.arbitrate_moves (n : Nat) (s : State) : Moves w s (State.arbitrate n s) := by
  induction n generalizing s with
  | zero => exact .refl w s
  | succ n ih =>
    unfold State.arbitrate
    split
    · exact .refl w s
    · exact (s.markInFlight_moves _).trans (State.startExchange_moves _ _)
    · exact s.startExchange_moves _
    · exact s.startOwn_moves _ _ _ _
    · next a ha =>
      split
      · exact (s.startPark_moves a (State.head_mem_parkQ ha)).trans (State.startOwn_moves _ _ _ _ _)
      · exact (s.leavePark_moves a _).trans (ih _)
    · exact s.startOwn_moves _ _ _ _

theorem State.modeCheck_moves : Moves w s s.modeCheck := by
  unfold State.modeCheck
  split
  · exact (State.Aside.line rfl).moves
  · exact .refl w s

theorem State.finish_moves : Moves w s s.finish := by
  unfold State.finish
  dsimp only
  split
  · exact s.modeCheck_moves.trans (State.arbitrate_moves _ _)
  · exact s.modeCheck_moves

/-! ## Ends of exchanges -/

theorem State.parkOutcome_moves (a : Nat) (reply : Option Frame) : Moves w s (s.parkOutcome a reply) := by
  unfold State.parkOutcome
  split
  · split
    · split
      · exact s.parkAcked_moves a
      · exact s.parkRefused_moves a
    · split
      · exact s.modSt_moves a _ (by exact fun _ => ⟨rfl, rfl, id⟩)
      · exact s.enterFaulted_moves a _
  · exact .refl w s

theorem State.wakeAcked_moves (a : Nat) : Moves w s (s.wakeAcked a) := by
  unfold State.wakeAcked
  exact s.modSt_moves a _ (by exact fun _ => ⟨rfl, rfl, id⟩)

theorem State.wakeOutcome_moves (a : Nat) (reply : Option Frame) : Moves w s (s.wakeOutcome a reply) := by
  unfold State.wakeOutcome
  split
  · split
    · split
      · exact s.wakeAcked_moves a
      · exact s.enterFaulted_moves a _
    · split
      · exact s.modSt_moves a _ (by exact fun _ => ⟨rfl, rfl, id⟩)
      · exact s.enterFaulted_moves a _
  · exact .refl w s

theorem State.followUpOutcome_moves (a : Nat) (replied : Bool) : Moves w s (s.followUpOutcome a replied) := by
  unfold State.followUpOutcome
  dsimp only
  split
  · split
    · exact s.modSt_moves a _ (by exact fun _ => ⟨rfl, rfl, id⟩)
    · exact s.modSt_moves a _ (by exact fun _ => ⟨rfl, rfl, id⟩)
  · exact .refl w s

theorem State.outcome_moves (x : Exchange) (reply : Option Frame) : Moves w s (s.outcome x reply) := by
  unfold State.outcome
  split
  · exact s.delayedOutcome_moves _ _
  · exact s.entryOutcome_moves _ _ _
  · exact s.parkOutcome_moves _ _
  · exact s.wakeOutcome_moves _ _
  · exact s.followUpOutcome_moves _ _
  · exact s.scanOutcome_moves _ _

theorem State.observeReply_moves (f : Frame) : Moves w s (s.observeReply f) := by
  unfold State.observeReply
  split
  · exact s.observe_moves _ _
  · exact .refl w s

theorem State.takeReply_moves (x : Exchange) (f : Frame) : Moves w s (s.takeReply x f) :=
  (((s.setMaster_moves _).trans (State.observeReply_moves _ f)).trans (State.outcome_moves _ x _)).trans
    (State.finish_moves _)

theorem State.missReply_moves (x : Exchange) : Moves w s (s.missReply x) :=
  (((s.setMaster_moves _).trans (State.setMaster_moves _ _)).trans (State.outcome_moves _ x none)).trans
    (State.finish_moves _)

theorem State.requestSent_moves : Moves w s s.requestSent := by
  unfold State.requestSent
  split
  · split
    · exact (s.removeEntry_moves _ _).trans (State.setMaster_moves _ _)
    · exact s.setMaster_moves _
  · exact .refl w s

theorem State.fieldFrame_moves (f : Frame) : Moves w s (s.fieldFrame f) := by
  unfold State.fieldFrame
  split
  · exact s.setMaster_moves _
  · split
    · split
      · exact s.takeReply_moves _ f
      · exact s.setMaster_moves _
    · exact s.setMaster_moves _

end Sys2Proof.Machine
end


section
/-! SUPPORT. The requests, the frames, the line, the timers and the warm reset as runs of moves: every command but the
two power-on ones is one. -/

namespace Sys2Proof.Machine

variable {w : Prop} (s : State)

/-! ## Requests -/

/-- The requests that write the working tables. -/
def Req.writes : Req → Bool
  | .writeStationPolicy | .writeGroup | .writeWindow | .writeZone | .writeScanList | .writeGateParameters
  | .setAccessCode => true
  | _ => false

/-- A judged request leaves the state as it is or, past the access check, as its act does. -/
theorem State.judge_moves (q : Req) (l r : Bool) (act : Verdict)
    (h : s.accessRefusal q = none → Moves w s act.state) : Moves w s (s.judge q l r act).state := by
  unfold State.judge
  split
  · exact .refl w s
  · split
    · exact .refl w s
    · next ha =>
      split
      · exact .refl w s
      · split
        · exact .refl w s
        · exact h ha

/-- A judged request whose act leaves the state as it is. -/
theorem State.judge_still (q : Req) (l r : Bool) (act : Verdict) (h : act.state = s) :
    Moves w s (s.judge q l r act).state := s.judge_moves q l r act fun _ => by rw [h]; exact .refl w s

theorem State.reqReadStation_moves (bs : List Byte) : Moves w s (s.reqReadStation bs).state := by
  unfold State.reqReadStation
  split <;> exact s.judge_still _ _ _ _ rfl

theorem State.writePolicy_moves (hw : w) (a : Nat) (p : Policy) (h : (s.st a).state.writable = true) :
    Moves w s (s.writePolicy a p) :=
  (((Move.policy hw a p h).moves.trans (State.failLimitTest_moves _ a)).trans (State.admissionPass_moves _)).trans
    (State.finish_moves _)

theorem State.reqWriteStationPolicy_moves (hw : w) (bs : List Byte) :
    Moves w s (s.reqWriteStationPolicy bs).state := by
  unfold State.reqWriteStationPolicy
  split
  · exact s.judge_still _ _ _ _ rfl
  · split
    · exact s.judge_still _ _ _ _ rfl
    · refine s.judge_moves _ _ _ _ fun _ => ?_
      split
      · next h => exact s.writePolicy_moves hw _ _ h
      · exact .refl w s

theorem State.reqHoldAwake_moves (bs : List Byte) : Moves w s (s.reqHoldAwake bs).state := by
  unfold State.reqHoldAwake
  split
  · refine s.judge_moves _ _ _ _ fun _ => ?_
    have h (a : Nat) : Moves w s (s.modSt a (fun r => { r with exempt := true })) :=
      s.modSt_moves a _ (by exact fun _ => ⟨rfl, rfl, id⟩)
    refine Moves.trans ?_ (State.finish_moves _)
    split
    · exact (h _).trans (State.leavePark_moves _ _ _)
    · exact (h _).trans (State.takeWake_moves _ _ _)
  · exact s.judge_still _ _ _ _ rfl

theorem State.reqRelease_moves (bs : List Byte) : Moves w s (s.reqRelease bs).state := by
  unfold State.reqRelease
  split
  · have h (a : Nat) : Moves w s (s.modSt a (fun r => { r with exempt := false })) :=
      s.modSt_moves a _ (by exact fun _ => ⟨rfl, rfl, id⟩)
    exact s.judge_moves _ _ _ _ fun _ => h _
  · exact s.judge_still _ _ _ _ rfl

theorem State.clearFault_moves (a : Nat) (h : (s.st a).state = .faulted) :
    Moves w s (s.modSt a Station.cleared) := by
  refine (Move.shift a _ ?_ ?_ ?_ (fun hm => ?_) rfl).moves
  · simp [h, StState.unqueued]
  · simp [Station.cleared, StState.unqueued]
  · simp [Station.cleared]
  · simpa [Station.cleared, h] using hm

theorem State.reqClearFault_moves (bs : List Byte) : Moves w s (s.reqClearFault bs).state := by
  unfold State.reqClearFault
  split
  · refine s.judge_moves _ _ _ _ fun _ => ?_
    split
    · next h => exact s.clearFault_moves _ h
    · exact .refl w s
  · exact s.judge_still _ _ _ _ rfl

theorem State.accountParked_moves (a : Nat) : Moves w s (s.accountParked a) := by
  unfold State.accountParked
  split
  · exact s.account_moves a
  · exact .refl w s

theorem State.reqReadStatistics_moves (bs : List Byte) : Moves w s (s.reqReadStatistics bs).state := by
  unfold State.reqReadStatistics
  split
  · refine s.judge_moves _ _ _ _ fun _ => ?_
    split
    · exact .refl w s
    · exact s.accountParked_moves _
  · exact s.judge_still _ _ _ _ rfl

theorem State.clearStats_moves (a : Nat) : Moves w s (s.clearStats a) := by
  unfold State.clearStats
  exact (s.accountParked_moves a).trans (State.modSt_moves _ a _ (by exact fun _ => ⟨rfl, rfl, id⟩))

theorem State.reqClearStatistics_moves (bs : List Byte) : Moves w s (s.reqClearStatistics bs).state := by
  unfold State.reqClearStatistics
  split
  · refine s.judge_moves _ _ _ _ fun _ => ?_
    split
    · exact (State.Aside.line rfl).moves
    · exact s.clearStats_moves _
  · exact s.judge_still _ _ _ _ rfl

/-! ### Groups -/

/-- A station whose admission is undone is WAKING, and the walk behind it leaves the other WAKING ones alone. -/
theorem State.undoAdmission_moves (a : Nat) (h : (s.st a).state = .waking) : Moves w s (s.undoAdmission a) := by
  unfold State.undoAdmission
  dsimp only
  exact (Move.wait a _ _ (.inr ⟨h, rfl⟩) rfl rfl).moves.trans (State.afterEntry_moves _ _)

theorem State.st_undoAdmission_still (a b : Nat) (h : b ≠ a) (hb : (s.st b).state.still) :
    (s.undoAdmission a).st b = s.st b := by
  have k (f : Station → Station) (q : Priority) : ((s.modSt a f).enqueue a q).st b = s.st b := by
    rw [State.st_enqueue, s.st_modSt_other a b _ h]
  unfold State.undoAdmission
  dsimp only
  rw [State.st_afterEntry_still _ (by rwa [k]), k]

theorem State.undoAll_moves (l : List Nat) (hl : l.Nodup) (h : ∀ a ∈ l, (s.st a).state = .waking) :
    Moves w s (l.foldl State.undoAdmission s) := by
  induction l generalizing s with
  | nil => exact .refl w s
  | cons a l ih =>
    obtain ⟨ha, hl⟩ := List.nodup_cons.mp hl
    refine (s.undoAdmission_moves a (h a (by simp))).trans (ih _ hl fun b hb => ?_)
    have hw := h b (by simp [hb])
    rw [s.st_undoAdmission_still a b (fun e => ha (e ▸ hb)) (by simp [hw, StState.still]), hw]

theorem addresses_nodup : addresses.Nodup := List.nodup_range'

theorem State.undoneBy_nodup (g : Group) : (s.undoneBy g).Nodup := by
  unfold State.undoneBy
  split
  · split
    · exact addresses_nodup.filter _
    · exact List.nodup_nil
  all_goals exact List.nodup_nil

theorem State.waking_of_mem_undoneBy {a : Nat} {g : Group} (h : a ∈ s.undoneBy g) : (s.st a).state = .waking := by
  unfold State.undoneBy at h
  split at h
  · split at h
    · simp only [List.mem_filter, Bool.and_eq_true, Bool.or_eq_true, State.inPhase, decide_eq_true_eq] at h
      obtain ⟨-, -, h | h⟩ := h <;> exact h.1
    · cases h
  all_goals cases h

theorem State.setGroup_moves (hw : w) (i : Nat) (g : Group) : Moves w s (s.setGroup i g) :=
  (Move.tables hw (s := s) (t := s.setGroup i g) (.line rfl) rfl rfl).moves

theorem State.writeGroup_moves (hw : w) (i : Nat) (g : Group) : Moves w s (s.writeGroup i g) := by
  unfold State.writeGroup
  dsimp only
  refine Moves.trans ?_ ((State.admissionPass_moves _).trans (State.finish_moves _))
  exact ((s.setGroup_moves hw i g).trans (Moves.foldl _ (fun t a => t.afterEntry_moves a) _ _)).trans
    (State.undoAll_moves _ _ (State.undoneBy_nodup _ g) fun a ha => State.waking_of_mem_undoneBy _ ha)

theorem State.reqWriteGroup_moves (hw : w) (bs : List Byte) : Moves w s (s.reqWriteGroup bs).state := by
  unfold State.reqWriteGroup
  split
  · split
    · exact s.judge_still _ _ _ _ rfl
    · refine s.judge_moves _ _ _ _ fun _ => ?_
      unfold State.tryGroup
      dsimp only
      split
      · exact .refl w s
      · split
        · exact .refl w s
        · exact s.writeGroup_moves hw _ _
  · exact s.judge_still _ _ _ _ rfl

/-! ### Windows, zones, clock, mode -/

theorem State.writeWindow_moves (hw : w) (i : Nat) (x : Window) : Moves w s (s.writeWindow i x) := by
  have set : Moves w s (s.setWindow i x) := (Move.tables hw (s := s) (t := s.setWindow i x) (.line rfl) rfl rfl).moves
  exact ((set.trans (State.closeThose_moves _ _)).trans (State.rearmWakeDue_moves _)).trans (State.finish_moves _)

theorem State.reqWriteWindow_moves (hw : w) (bs : List Byte) : Moves w s (s.reqWriteWindow bs).state := by
  unfold State.reqWriteWindow
  split
  · exact s.judge_moves _ _ _ _ fun _ => s.writeWindow_moves hw _ _
  · exact s.judge_still _ _ _ _ rfl

theorem State.reqWriteZone_moves (hw : w) (bs : List Byte) : Moves w s (s.reqWriteZone bs).state := by
  unfold State.reqWriteZone
  split
  · split
    · exact s.judge_still _ _ _ _ rfl
    · exact s.judge_moves _ _ _ _ fun _ => (Move.tables hw (s := s) (t := s.setZoneCfg _ _) (.line rfl) rfl rfl).moves
  · exact s.judge_still _ _ _ _ rfl

theorem State.reqSetClock_moves (bs : List Byte) : Moves w s (s.reqSetClock bs).state := by
  unfold State.reqSetClock
  split
  · exact s.judge_moves _ _ _ _ fun _ => (s.setWeek_moves _).trans (State.finish_moves _)
  · exact s.judge_still _ _ _ _ rfl

theorem State.startDraining_moves : Moves w s s.startDraining := by
  unfold State.startDraining
  dsimp only
  have mode : s.Aside { s with mode := .draining } := .line rfl
  exact (mode.moves.trans (State.leaveParkAll_moves _ _)).trans (State.takeWakes_moves _ _ _)

theorem State.toMode_moves (active : Bool) : Moves w s (s.toMode active) := by
  unfold State.toMode
  split
  · exact (State.Aside.line rfl).moves
  · split
    · exact s.startDraining_moves.trans (State.finish_moves _)
    · exact .refl w s

theorem State.reqSetMode_moves (bs : List Byte) : Moves w s (s.reqSetMode bs).state := by
  unfold State.reqSetMode
  split
  · exact s.judge_moves _ _ _ _ fun _ => s.toMode_moves _
  · exact s.judge_still _ _ _ _ rfl

theorem State.reqWakeZones_moves (bs : List Byte) : Moves w s (s.reqWakeZones bs).state := by
  unfold State.reqWakeZones
  split
  · exact s.judge_moves _ _ _ _ fun _ => (s.takeWakes_moves _ _).trans (State.finish_moves _)
  · exact s.judge_still _ _ _ _ rfl

/-! ### Scanner, parameters, attention -/

theorem State.writeScan_moves (hw : w) (c : ScanCfg) : Moves w s (s.writeScan c).state := by
  unfold State.writeScan
  split
  · exact (Move.tables hw (s := s) (t := s.setScanCfg c) (.line rfl) rfl rfl).moves
  · exact .refl w s

theorem State.reqWriteScanList_moves (hw : w) (bs : List Byte) : Moves w s (s.reqWriteScanList bs).state := by
  unfold State.reqWriteScanList
  split
  · exact s.judge_still _ _ _ _ rfl
  · split
    · unfold State.scanListForm
      split
      · exact s.judge_moves _ _ _ _ fun _ => s.writeScan_moves hw _
      · exact s.judge_still _ _ _ _ rfl
    · unfold State.scanParamForm
      split
      · dsimp only
        split
        · exact s.judge_moves _ _ _ _ fun _ => s.writeScan_moves hw _
        · exact s.judge_still _ _ _ _ rfl
      · exact s.judge_still _ _ _ _ rfl
    · exact s.judge_still _ _ _ _ rfl

theorem State.reqScanStart_moves (bs : List Byte) : Moves w s (s.reqScanStart bs).state := by
  unfold State.reqScanStart
  split
  · refine s.judge_moves _ _ _ _ fun _ => ?_
    split
    · exact (s.startScan_moves _).trans (State.finish_moves _)
    · exact .refl w s
  · exact s.judge_still _ _ _ _ rfl

theorem State.reqScanStop_moves (bs : List Byte) : Moves w s (s.reqScanStop bs).state := by
  unfold State.reqScanStop
  split
  · exact s.judge_moves _ _ _ _ fun _ => s.stopScan_moves
  · exact s.judge_still _ _ _ _ rfl

theorem State.writeParams_moves (hw : w) (p : GateParams) (h : s.inrush ≤ p.budget) :
    Moves w s (s.writeParams p) := by
  have set : Moves w s { s with cfg := { s.cfg with params := p } } := (Move.params hw p h).moves
  unfold State.writeParams
  dsimp only
  split
  · exact (set.trans (State.admissionPass_moves _)).trans (State.finish_moves _)
  · exact set.trans (State.finish_moves _)

theorem State.reqWriteGateParameters_moves (hw : w) (bs : List Byte) :
    Moves w s (s.reqWriteGateParameters bs).state := by
  unfold State.reqWriteGateParameters
  split
  · split
    · exact s.judge_still _ _ _ _ rfl
    · refine s.judge_moves _ _ _ _ fun _ => ?_
      split
      · exact .refl w s
      · next h => exact s.writeParams_moves hw _ (Nat.le_of_not_lt h)
  · exact s.judge_still _ _ _ _ rfl

theorem State.reqAckAttention_moves (bs : List Byte) : Moves w s (s.reqAckAttention bs).state := by
  unfold State.reqAckAttention
  split
  · exact s.judge_moves _ _ _ _ fun _ => (State.Aside.line rfl).moves
  · exact s.judge_still _ _ _ _ rfl

/-! ### Access, SAVE, WARM RESET -/

/-- A change of the access state of a gate that is not FROZEN, or to FROZEN. -/
theorem State.access_aside (x : Access) (n : Nat) (h : s.access ≠ .frozen ∨ x = .frozen) :
    s.Aside { s with access := x, unlocks := n } :=
  ⟨rfl, rfl, rfl, rfl, rfl, rfl, rfl, rfl, rfl, fun hf => h.resolve_left (not_not.mpr hf), id, id⟩

theorem State.reqUnlock_moves (bs : List Byte) : Moves w s (s.reqUnlock bs).state := by
  refine s.judge_moves _ _ _ _ fun _ => ?_
  unfold State.tryUnlock
  split
  · next h =>
    have hn : s.access ≠ .frozen := by simp [h]
    split
    · exact (s.access_aside _ _ (.inl hn)).moves
    · exact (s.access_aside _ _ (.inl hn)).moves
  · exact .refl w s

theorem State.reqLock_moves (bs : List Byte) : Moves w s (s.reqLock bs).state := by
  unfold State.reqLock
  split
  · refine s.judge_moves _ _ _ _ fun _ => ?_
    split
    · next h => exact (s.access_aside .locked s.unlocks (.inl (by simp [h]))).moves
    · exact .refl w s
  · exact s.judge_still _ _ _ _ rfl

theorem State.reqSetAccessCode_moves (hw : w) (bs : List Byte) : Moves w s (s.reqSetAccessCode bs).state := by
  refine s.judge_moves _ _ _ _ fun h => ?_
  have hn : s.access ≠ .frozen := by
    intro hf
    simp [State.accessRefusal, Req.always, hf] at h
  exact (Move.tables hw (s := s) (t := s.setCode bs) (s.access_aside _ _ (.inl hn)) rfl rfl).moves

theorem State.reqFreeze_moves (bs : List Byte) : Moves w s (s.reqFreeze bs).state := by
  unfold State.reqFreeze
  split
  · exact s.judge_moves _ _ _ _ fun _ => (s.access_aside .frozen s.unlocks (.inr rfl)).moves
  · exact s.judge_still _ _ _ _ rfl

theorem State.reqSave_moves (bs : List Byte) : Moves w s (s.reqSave bs).state := by
  unfold State.reqSave
  split
  · exact s.judge_moves _ _ _ _ fun _ => (State.Aside.line rfl).moves
  · exact s.judge_still _ _ _ _ rfl

theorem State.reqWarmReset_moves (bs : List Byte) : Moves w s (s.reqWarmReset bs).state := by
  unfold State.reqWarmReset
  split
  · exact s.judge_moves _ _ _ _ fun _ => (State.Aside.line rfl).moves
  · exact s.judge_still _ _ _ _ rfl

/-- A read of a table answers and changes nothing. -/
theorem State.reads_still (bs : List Byte) :
    Moves w s (s.reqReadGroup bs).state ∧ Moves w s (s.reqReadWindow bs).state
      ∧ Moves w s (s.reqReadZone bs).state ∧ Moves w s (s.reqReadScanList bs).state
      ∧ Moves w s (s.reqReadGateParameters bs).state ∧ Moves w s (s.reqReadLastLost bs).state := by
  refine ⟨?_, ?_, ?_, ?_, ?_, ?_⟩
  · unfold State.reqReadGroup; split <;> exact s.judge_still _ _ _ _ rfl
  · unfold State.reqReadWindow; split <;> exact s.judge_still _ _ _ _ rfl
  · unfold State.reqReadZone; split <;> exact s.judge_still _ _ _ _ rfl
  · unfold State.reqReadScanList; split <;> exact s.judge_still _ _ _ _ rfl
  · unfold State.reqReadGateParameters; split <;> exact s.judge_still _ _ _ _ rfl
  · unfold State.reqReadLastLost; split <;> exact s.judge_still _ _ _ _ rfl

/-- Every request is a run of moves, and one that writes no table needs no leave to write them. -/
theorem State.request_moves (q : Req) (bs : List Byte) (hw : q.writes = true → w) :
    Moves w s (s.request q bs).state := by
  obtain ⟨group, window, zone, scan, params, lost⟩ := s.reads_still (w := w) bs
  cases q with
  | readStation => exact s.reqReadStation_moves bs
  | writeStationPolicy => exact s.reqWriteStationPolicy_moves (hw rfl) bs
  | holdAwake => exact s.reqHoldAwake_moves bs
  | release => exact s.reqRelease_moves bs
  | clearFault => exact s.reqClearFault_moves bs
  | readStatistics => exact s.reqReadStatistics_moves bs
  | clearStatistics => exact s.reqClearStatistics_moves bs
  | readGroup => exact group
  | writeGroup => exact s.reqWriteGroup_moves (hw rfl) bs
  | readWindow => exact window
  | writeWindow => exact s.reqWriteWindow_moves (hw rfl) bs
  | readZone => exact zone
  | writeZone => exact s.reqWriteZone_moves (hw rfl) bs
  | setClock => exact s.reqSetClock_moves bs
  | setMode => exact s.reqSetMode_moves bs
  | wakeZones => exact s.reqWakeZones_moves bs
  | readScanList => exact scan
  | writeScanList => exact s.reqWriteScanList_moves (hw rfl) bs
  | scanStart => exact s.reqScanStart_moves bs
  | scanStop => exact s.reqScanStop_moves bs
  | readGateParameters => exact params
  | writeGateParameters => exact s.reqWriteGateParameters_moves (hw rfl) bs
  | ackAttention => exact s.reqAckAttention_moves bs
  | readLastLost => exact lost
  | unlock => exact s.reqUnlock_moves bs
  | lock => exact s.reqLock_moves bs
  | setAccessCode => exact s.reqSetAccessCode_moves (hw rfl) bs
  | freeze => exact s.reqFreeze_moves bs
  | save => exact s.reqSave_moves bs
  | warmReset => exact s.reqWarmReset_moves bs

/-! ## Frames -/

/-- A frame that carries a request writing the tables. -/
def bodyWrites : Body → Bool
  | .mgmt (code :: _) => (Req.ofCode code).any Req.writes
  | _ => false

theorem State.mgmtFrame_moves (src tag code : Byte) (bs : List Byte)
    (hw : (Req.ofCode code).any Req.writes = true → w) : Moves w s (s.mgmtFrame src tag code bs) := by
  unfold State.mgmtFrame
  split
  · exact s.nak_moves _ _ _
  · dsimp only
    refine Moves.trans ?_ (State.answer_moves _ _)
    split
    · exact .refl w s
    · next q hq => exact s.request_moves q bs fun h => hw (by simpa [hq] using h)

theorem State.gateFrame_moves (f : Frame) (hw : bodyWrites f.body = true → w) : Moves w s (s.gateFrame f) := by
  unfold State.gateFrame
  split
  · exact s.answer_moves _
  · exact s.countFwd_moves _
  · next code bs hb => exact s.mgmtFrame_moves _ _ _ _ fun h => hw (by rw [hb]; exact h)
  · exact s.nak_moves _ _ _
  · exact s.nak_moves _ _ _
  all_goals exact s.countFwd_moves _

theorem State.broadcastFrame_moves (f : Frame) : Moves w s (s.broadcastFrame f) := by
  unfold State.broadcastFrame
  split
  · exact s.timeBroadcast_moves _ _ _
  · exact s.setBroadcast_moves _ _ _
  · exact s.countFwd_moves _

theorem State.stationFrame_moves (f : Frame) : Moves w s (s.stationFrame f) := by
  unfold State.stationFrame
  split
  · exact .refl w s
  · split
    · exact s.pollStation_moves _ _ _
    · exact s.setStation_moves _ _ _ _
    · split
      · exact s.nak_moves _ _ _
      · exact s.countFwd_moves _
    · exact s.countFwd_moves _

theorem State.deliver_moves (p : Port) (f : Frame) (hw : p = .c → bodyWrites f.body = true → w) :
    Moves w s (s.deliver p f) := by
  cases p with
  | c =>
    unfold State.deliver State.controllerFrame
    dsimp only
    split
    · exact s.gateFrame_moves f (hw rfl)
    · split
      · exact (s.broadcastFrame_moves f).trans (State.finish_moves _)
      · exact (s.stationFrame_moves f).trans (State.finish_moves _)
  | f => exact s.fieldFrame_moves f

/-! ## The line -/

theorem State.setPort_moves (p : Port) (q : PortState) : Moves w s (s.setPort p q) := by
  cases p <;> exact (State.Aside.line rfl).moves

theorem State.hunt_moves (p : Port) : Moves w s (s.hunt p) := s.setPort_moves p _

theorem State.discardBy_moves (p : Port) (count : LineCounters → LineCounters) : Moves w s (s.discardBy p count) :=
  (s.setPort_moves p _).trans (State.raise_moves _ _)

theorem State.discard_moves (p : Port) (c : EndCause) : Moves w s (s.discard p c) := s.discardBy_moves p _

theorem State.arrive_moves (p : Port) (f : Frame) (hw : p = .c → bodyWrites f.body = true → w) :
    Moves w s (s.arrive p f) := by
  unfold State.arrive
  split
  · split
    · exact (s.hunt_moves p).trans (State.deliver_moves _ p f hw)
    · exact s.discard_moves p _
  · exact .refl w s

theorem State.endFrame_moves (p : Port) (x : FrameInProgress) (hw : p = .c → w) : Moves w s (s.endFrame p x) := by
  unfold State.endFrame
  split
  · exact s.discard_moves p _
  · split
    · exact (s.hunt_moves p).trans (State.deliver_moves _ p _ fun h _ => hw h)
    · exact s.discard_moves p _

theorem State.appendChar_moves (p : Port) (x : FrameInProgress) (c : CharRead) (hw : p = .c → w) :
    Moves w s (s.appendChar p x c) := by
  have h := s.setPort_moves (w := w) p { s.port p with rx := .assembling (x.append c s.lineTime) }
  unfold State.appendChar
  dsimp only
  split
  · exact h
  · split
    · exact h.trans (State.discard_moves _ p _)
    · split
      · exact h.trans (State.endFrame_moves _ p _ hw)
      · exact h

theorem State.takeChar_moves (p : Port) (c : CharRead) (hw : p = .c → w) : Moves w s (s.takeChar p c) := by
  unfold State.takeChar
  split
  · split
    · exact s.setPort_moves p _
    · exact .refl w s
  · split
    · exact (s.discardBy_moves p _).trans (State.setPort_moves _ p _)
    · exact s.appendChar_moves p _ c hw

theorem State.character_moves (p : Port) (x : Samples) (hw : p = .c → w) : Moves w s (s.character p x) := by
  unfold State.character
  split
  · exact .refl w s
  · split
    · exact (s.discardBy_moves p _).trans (State.takeChar_moves _ p _ hw)
    · exact s.takeChar_moves p _ hw

theorem State.frameEnd_moves (p : Port) (e : FrameEnd) : Moves w s (s.frameEnd p e) := by
  unfold State.frameEnd
  split
  · exact s.discard_moves p _
  · split
    · exact .refl w s
    · split
      · exact (s.discardBy_moves p _).trans (State.setPort_moves _ p _)
      · exact .refl w s

theorem State.beginSend_moves (p : Port) : Moves w s (s.beginSend p) := by
  unfold State.beginSend
  split
  · exact s.setPort_moves p _
  · exact .refl w s

theorem State.nextAnswer_moves : Moves w s s.nextAnswer := by
  unfold State.nextAnswer
  split
  · exact .refl w s
  · next f rest _ =>
    have h : s.Aside { s with answers := rest } := .line rfl
    exact h.moves.trans (State.offer_moves _ _ _)

theorem State.sent_moves (p : Port) (f : Frame) : Moves w s (s.sent p f) := by
  have h := s.setPort_moves (w := w) p { s.port p with tx := .idle, rx := .hunting }
  unfold State.sent
  dsimp only
  cases p with
  | c => exact (h.trans (State.Aside.line rfl).moves).trans (State.nextAnswer_moves _)
  | f => exact h.trans (State.requestSent_moves _)

/-! ## Timers -/

theorem State.storeDone_moves (ok : Bool) : Moves w s (s.storeDone ok) := by
  unfold State.storeDone
  split
  · exact .refl w s
  · split <;> exact (State.Aside.line rfl).moves

/-! ## The warm reset -/

/-- What the accounting and the losses of a warm reset leave. -/
theorem State.warmLosses_moves : Moves w s (addresses.foldl State.accountParked s).loseHolds :=
  (Moves.foldl _ (fun t a => t.accountParked_moves a) _ s).trans
    (Moves.foldl _ (fun t _ => Moves.foldl _ (fun u e => u.lose_moves e _ _) _ t) _ _)

/-- Every block at its warm values, the losses of the reset counted (R192). -/
def State.warmed (s : State) : State :=
  { s with
    cport := s.cport.stopped
    fport := s.fport.stopped
    answers := []
    fwd := { s.fwd with delayed := [] }
    master := s.master.warm
    stations := s.stations.map Station.warm
    parkQ := []
    demandQ := []
    schedQ := []
    starved := .replicate 32 false
    zones := .replicate 8 ⟨none, 0⟩
    scan := s.scan.warm
    access := s.access.warm
    saving := none
    drain := .off }

theorem State.warmValues_eq : s.warmValues = ((addresses.foldl State.accountParked s).loseHolds).warmed := rfl

/-- A record after a warm reset is the warm form of the record before (R90). -/
theorem State.st_warmed (a : Nat) : s.warmed.st a = Station.warm (s.st a) := by
  cases a with
  | zero => rfl
  | succ n =>
    by_cases hn : n < 127
    · simp [State.st, State.warmed, hn]
    · simp [State.st, State.warmed, hn]
      rfl

theorem State.warmed_moves : Moves w s s.warmed := by
  have aside : s.Aside { s.warmed with stations := s.stations, parkQ := s.parkQ, demandQ := s.demandQ, schedQ := s.schedQ } :=
    ⟨rfl, rfl, rfl, rfl, rfl, rfl, rfl, rfl, rfl, fun h => by simp [State.warmed, h, Access.warm], id,
      fun _ => Nat.zero_le _⟩
  refine (Move.clear aside (fun _ => ?_) (fun _ => ?_) (fun _ => ?_) rfl rfl rfl).moves
  all_goals
    rw [State.st_warmed]
    rfl

theorem State.warmValues_moves : Moves w s s.warmValues := by
  rw [State.warmValues_eq]
  exact s.warmLosses_moves.trans (State.warmed_moves _)

theorem State.warmReset_moves : Moves w s s.warmReset := by
  unfold State.warmReset
  split
  · exact (s.warmValues_moves.trans (State.autoScan_moves _)).trans (State.finish_moves _)
  · exact .refl w s

/-! ## Commands -/

/-- The next state of a command that is a run of moves. -/
def Out.Moves (w : Prop) (s : State) (o : Out) : Prop := ∃ t, o = .next t ∧ Machine.Moves w s t

theorem Out.moves_next {t : State} (h : Machine.Moves w s t) : Out.Moves w s (.next t) := ⟨t, rfl, h⟩

theorem State.whenOnline_moves (f : State → State) (h : Moves w s (f s)) :
    Out.Moves w s (.next (s.whenOnline f)) := by
  refine Out.moves_next s ?_
  unfold State.whenOnline
  split
  · exact h
  · exact .refl w s

/-- A management command is a run of moves; one that writes no table needs no leave to write them. -/
theorem State.manage_moves (src tag code : Byte) (bs : List Byte)
    (hw : (Req.ofCode code).any Req.writes = true → w) : Out.Moves w s (.next (s.manage src tag code bs)) :=
  Out.moves_next s (s.arrive_moves .c _ fun _ h => hw h)

/-- Every command but the two power-on ones is a run of moves, and a well-formed one that writes no table needs no
leave to write them. -/
theorem exec_moves (c : Instr) (hr : ∀ a r i, c ≠ .powerOnReset a r i) (hu : c ≠ .startUp)
    (hw : w ∨ c.wellFormed = true ∧ tableWriter c = false) : Out.Moves w s (exec c s) := by
  have frame (p : Port) (f : Frame) (h : p = .c → bodyWrites f.body = true → w) :
      Out.Moves w s (.next (s.arrive p f)) := Out.moves_next s (s.arrive_moves p f h)
  have field (f : Frame) : Out.Moves w s (.next (s.arrive .f f)) := frame .f f nofun
  have manage (src tag : Byte) (q : Req) (bs : List Byte) (h : q.writes = true → w) :
      Out.Moves w s (.next (s.manage src tag q.code bs)) :=
    s.manage_moves src tag _ bs fun hq => h (by cases q <;> exact hq)
  have ending {p : State → Bool} {f : State → State} (h : ∀ t, Moves w t (f t)) :
      Out.Moves w s (.next (s.whenOnline fun t => if p t then f t else t)) := by
    refine s.whenOnline_moves _ ?_
    split
    · exact h s
    · exact .refl w s
  have leave (h : tableWriter c = true) : w := hw.resolve_right fun k => by simp [h] at k
  cases c with
  | powerOnReset a r i => exact absurd rfl (hr a r i)
  | startUp => exact absurd rfl hu
  | frameDiscard p e =>
    refine Out.moves_next s ?_
    split
    · exact s.frameEnd_moves p e
    · exact .refl w s
  | interCharacterGap p =>
    refine Out.moves_next s ?_
    split
    · exact s.discardBy_moves p _
    · exact .refl w s
  | transmitStart p => exact s.whenOnline_moves _ (s.beginSend_moves p)
  | sendCompletion p =>
    refine s.whenOnline_moves _ ?_
    split
    · exact s.sent_moves p _
    · exact .refl w s
  | controllerPoll src dst tag => exact frame .c _ nofun
  | setIntake src dst tag r => exact frame .c _ nofun
  | pollOfGate src tag => exact frame .c _ nofun
  | gateSetOrTime src tag x => exact frame .c _ (by cases x <;> exact nofun)
  | unexpectedFrame f =>
    refine frame .c f fun _ h => leave ?_
    unfold bodyWrites at h
    split at h
    · next hb => simp [tableWriter, isMgmt, hb]
    · cases h
  | timeBroadcast src tag week => exact frame .c _ nofun
  | broadcastSet src tag r => exact frame .c _ nofun
  | reply f => exact field f
  | strayFrame f => exact field f
  | unsolicitedFrame f => exact field f
  | fPortMgmt f => exact field f
  | replyDeadline =>
    refine s.whenOnline_moves _ ?_
    split
    · exact s.missReply_moves _
    · exact .refl w s
  | gapEnd => exact ending fun t => (t.setMaster_moves _).trans (State.finish_moves _)
  | followUpDue a => exact ending fun t => t.finish_moves
  | lockExpiry a =>
    refine ending fun t => ?_
    unfold State.closeLock
    exact (t.modSt_moves a _ (by exact fun _ => ⟨rfl, rfl, id⟩)).trans (State.finish_moves _)
  | delayedDiscard k => exact s.whenOnline_moves _ (s.discardDelayed_moves k)
  | stopTimeout a => exact ending fun t => (t.enterFaulted_moves a _).trans (State.finish_moves _)
  | startTimeout a => exact ending fun t => (t.enterFaulted_moves a _).trans (State.finish_moves _)
  | soundingEnd z =>
    refine s.whenOnline_moves _ ?_
    split
    · exact (s.endSounding_moves z _).trans (State.finish_moves _)
    · exact .refl w s
  | protectionTime a => exact ending fun t => t.admissionPass_moves.trans (State.finish_moves _)
  | wakeDueExpiry a => exact ending fun t => (t.expireWakeDue_moves a).trans (State.finish_moves _)
  | minuteBoundary => exact ending fun t => (t.closeThose_moves _).trans (State.finish_moves _)
  | scanWaitEnd =>
    refine s.whenOnline_moves _ ?_
    split
    · exact (s.scanSelect_moves _).trans (State.finish_moves _)
    · exact .refl w s
  | storeCompletion ok => exact s.whenOnline_moves _ (s.storeDone_moves ok)
  | warmResetApplied => exact s.whenOnline_moves _ s.warmReset_moves
  | readStation src tag bs => exact manage src tag .readStation bs nofun
  | writeStationPolicy src tag bs => exact manage src tag .writeStationPolicy bs fun _ => leave rfl
  | holdAwake src tag bs => exact manage src tag .holdAwake bs nofun
  | release src tag bs => exact manage src tag .release bs nofun
  | clearFault src tag bs => exact manage src tag .clearFault bs nofun
  | readStatistics src tag bs => exact manage src tag .readStatistics bs nofun
  | clearStatistics src tag bs => exact manage src tag .clearStatistics bs nofun
  | readGroup src tag bs => exact manage src tag .readGroup bs nofun
  | writeGroup src tag bs => exact manage src tag .writeGroup bs fun _ => leave rfl
  | readWindow src tag bs => exact manage src tag .readWindow bs nofun
  | writeWindow src tag bs => exact manage src tag .writeWindow bs fun _ => leave rfl
  | readZone src tag bs => exact manage src tag .readZone bs nofun
  | writeZone src tag bs => exact manage src tag .writeZone bs fun _ => leave rfl
  | setClock src tag bs => exact manage src tag .setClock bs nofun
  | setMode src tag bs => exact manage src tag .setMode bs nofun
  | wakeZones src tag bs => exact manage src tag .wakeZones bs nofun
  | readScanList src tag bs => exact manage src tag .readScanList bs nofun
  | writeScanList src tag bs => exact manage src tag .writeScanList bs fun _ => leave rfl
  | scanStart src tag bs => exact manage src tag .scanStart bs nofun
  | scanStop src tag bs => exact manage src tag .scanStop bs nofun
  | readGateParameters src tag bs => exact manage src tag .readGateParameters bs nofun
  | writeGateParameters src tag bs => exact manage src tag .writeGateParameters bs fun _ => leave rfl
  | ackAttention src tag bs => exact manage src tag .ackAttention bs nofun
  | readLastLost src tag bs => exact manage src tag .readLastLost bs nofun
  | unlock src tag bs => exact manage src tag .unlock bs nofun
  | lock src tag bs => exact manage src tag .lock bs nofun
  | setAccessCode src tag bs => exact manage src tag .setAccessCode bs fun _ => leave rfl
  | freeze src tag bs => exact manage src tag .freeze bs nofun
  | save src tag bs => exact manage src tag .save bs nofun
  | warmReset src tag bs => exact manage src tag .warmReset bs nofun
  | completedCharacter p x =>
    refine Out.moves_next s ?_
    split
    · exact s.character_moves p x fun h => leave (by rw [h]; rfl)
    · exact .refl w s
  | unknownRequestCode src tag code bs =>
    refine s.manage_moves src tag code bs fun h => hw.elim id fun k => ?_
    obtain ⟨-, hn⟩ := Bool.and_eq_true_iff.mp k.1
    rw [Option.isNone_iff_eq_none.mp hn] at h
    cases h

end Sys2Proof.Machine
end


section
/-! SUPPORT. The statements on the machine as a whole: what every step keeps. -/

namespace Sys2Proof.Machine

/-- Settles O1. -/
theorem stepRunsFrontCommand : Obligations.StepRunsFrontCommand := fun _ _ _ => rfl

/-- Settles O11: the strap address and the counters at zero are the model's definitions. -/
theorem powerOnResetSamplesStraps : Obligations.PowerOnResetSamplesStraps := fun _ _ _ _ => rfl

/-! ## Invariants at reset and at start-up -/

/-- All that the invariants read of a gate at rest: no record but reset ones, empty queues and buffers (R70, R98,
R148). -/
structure State.AtRest (s : State) : Prop where
  st : ∀ a, s.st a = .reset
  park : s.parkQ = []
  demand : s.demandQ = []
  sched : s.schedQ = []
  fwd : s.fwd = .reset

theorem State.atRest_reset : State.reset.AtRest := by
  refine ⟨fun a => ?_, rfl, rfl, rfl, rfl⟩
  cases a with
  | zero => rfl
  | succ n => by_cases hn : n < 127 <;> simp [State.st, State.reset, hn]

theorem State.atRest_powerOnValues (s : State) : s.powerOnValues.AtRest :=
  ⟨s.powerOnValues_st, rfl, rfl, rfl, rfl⟩

variable {s t : State}

theorem State.AtRest.withinCapacity (h : s.AtRest) : s.withinCapacity :=
  ⟨by rw [h.fwd]; exact Nat.zero_le _, by rw [h.fwd]; exact Nat.zero_le _, fun a => by rw [h.st]; exact Nat.zero_le _⟩

theorem State.AtRest.queuesMatch (h : s.AtRest) : s.queuesMatch := by
  refine ⟨by simp [h.park, h.demand, h.sched], fun a => ?_⟩
  simp [h.park, h.demand, h.sched, h.st, Station.reset]

theorem State.AtRest.inrushInBudget (h : s.AtRest) : s.inrushInBudget :=
  .inr fun a _ ha _ => by simp [h.st, Station.reset] at ha

theorem State.AtRest.parkMarksMatch (h : s.AtRest) : s.parkMarksMatch := fun a => by simp [h.st, Station.reset]

/-- Settles O3: every record is a reset one and every queue and buffer is empty. -/
theorem invariantsHoldAtReset : Obligations.InvariantsHoldAtReset :=
  have rest := State.atRest_reset
  ⟨rfl, rest.withinCapacity, rest.queuesMatch, rest.inrushInBudget, rest.parkMarksMatch⟩

/-! ## Steps -/

theorem exec_powerOnReset (a : BitVec 7) (r : BitVec 2) (i : Bool) (s : State) :
    exec (.powerOnReset a r i) s = .next (s.powerOnReset a r i) := rfl

theorem exec_startUp_of_online (s : State) (h : s.online = true) : exec .startUp s = .next s := by
  simp only [exec, execStartUp, h, if_true]

/-- What the invariants read of a state: the records, the queues, the tables and the Forwarding unit. -/
structure State.SameCore (s t : State) : Prop where
  stations : t.stations = s.stations
  parkQ : t.parkQ = s.parkQ
  demandQ : t.demandQ = s.demandQ
  schedQ : t.schedQ = s.schedQ
  cfg : t.cfg = s.cfg
  fwd : t.fwd = s.fwd

theorem State.tick_sameCore (s : State) : s.SameCore s.tick := by
  unfold State.tick State.advance
  split
  · dsimp only
    split <;> exact ⟨rfl, rfl, rfl, rfl, rfl, rfl⟩
  · exact ⟨rfl, rfl, rfl, rfl, rfl, rfl⟩

/-- START_UP is the power-on values and then a run of moves. -/
theorem State.startUp_moves (s : State) : Moves False s.powerOnValues s.startUp :=
  (State.autoScan_moves _).trans (State.finish_moves _)

/-- A property that the moves and a gate at rest have, and that reads the core of the state alone, is kept by every
step. -/
theorem step_keeps {P : State → Prop} (core : ∀ s t, State.SameCore s t → P s → P t)
    (rest : ∀ s : State, s.AtRest → P s) (moves : ∀ s t, Moves True s t → P s → P t) (hs : P s)
    (h : step s = .next t) : P t := by
  unfold step at h
  split at h
  · cases h
    exact core _ _ s.tick_sameCore hs
  · next c l _ =>
    have hl : P { s with pending := l } := core s _ ⟨rfl, rfl, rfl, rfl, rfl, rfl⟩ hs
    have run (hr : ∀ a r i, c ≠ .powerOnReset a r i) (hu : c ≠ .startUp) : P t := by
      obtain ⟨u, hu, hm⟩ := exec_moves { s with pending := l } c hr hu (w := True) (.inl trivial)
      rw [hu] at h
      cases h
      exact moves _ _ hm hl
    cases c with
    | powerOnReset a r i =>
      cases h
      exact core { s with pending := l } _ ⟨rfl, rfl, rfl, rfl, rfl, rfl⟩ hl
    | startUp =>
      by_cases ho : s.online = true
      · rw [exec_startUp_of_online { s with pending := l } ho] at h
        cases h
        exact hl
      · rw [exec_startUp_of_offline _ (by simpa using ho)] at h
        cases h
        exact moves _ _ ((State.startUp_moves _).mono fun k => k.elim) (rest _ (State.atRest_powerOnValues _))
    | _ => exact run nofun nofun

theorem State.SameCore.st (h : s.SameCore t) (a : Nat) : t.st a = s.st a := State.st_congr s t h.stations a

/-- Settles O6. -/
theorem stepKeepsCapacities : Obligations.StepKeepsCapacities := fun _ _ hs h =>
  step_keeps (fun s t k hs => by
      obtain ⟨posted, delayed, hold⟩ := hs
      exact ⟨by rwa [k.fwd], by rwa [k.fwd], fun a => by rw [k.st]; exact hold a⟩)
    (fun _ rest => rest.withinCapacity) (fun _ _ m => m.withinCapacity) hs h

/-- Settles O7. -/
theorem stepKeepsQueuesMatched : Obligations.StepKeepsQueuesMatched := fun _ _ hs h =>
  step_keeps (fun _ _ k hs => State.queuesMatch_congr hs k.stations k.parkQ k.demandQ k.schedQ)
    (fun _ rest => rest.queuesMatch) (fun _ _ m => m.queuesMatch) hs h

/-- Settles O8. -/
theorem stepKeepsInrushInBudget : Obligations.StepKeepsInrushInBudget := fun _ _ hs h =>
  step_keeps (fun _ _ k hs =>
      State.inrushInBudget_of_fewer (fun a ha => ⟨by rwa [k.st] at ha, by rw [State.pol_congr _ _ k.cfg]⟩)
        (by rw [k.cfg]) hs)
    (fun _ rest => rest.inrushInBudget) (fun _ _ m => m.inrushInBudget) hs h

/-- Settles O9: with the queue invariant, which the same step keeps (O7). -/
theorem stepKeepsParkMarks : Obligations.StepKeepsParkMarks := fun _ _ hq hs h =>
  (step_keeps (P := fun s => s.queuesMatch ∧ s.parkMarksMatch)
    (fun _ _ k hs => ⟨State.queuesMatch_congr hs.1 k.stations k.parkQ k.demandQ k.schedQ,
      fun a => by rw [k.st]; exact hs.2 a⟩)
    (fun _ rest => ⟨rest.queuesMatch, rest.parkMarksMatch⟩)
    (fun _ _ m hs => ⟨m.queuesMatch hs.1, m.parkMarksMatch hs.1 hs.2⟩) ⟨hq, hs⟩ h).2

/-! ## Time, straps, access and tables -/

theorem unitsPerMs_pos : 0 < Config.unitsPerMs := by decide

/-- What START_UP keeps: the straps and the waiting commands. -/
theorem exec_startUp_steady (h : exec .startUp s = .next t) :
    t.pending = s.pending ∧ t.straps = s.straps ∧ (s.frac < Config.unitsPerMs → t.frac < Config.unitsPerMs) := by
  by_cases ho : s.online = true
  · rw [exec_startUp_of_online s ho] at h
    cases h
    exact ⟨rfl, rfl, id⟩
  · rw [exec_startUp_of_offline s (by simpa using ho)] at h
    cases h
    have k := s.startUp_moves.steady
    exact ⟨k.pending, k.straps, fun _ => by rw [k.frac]; exact unitsPerMs_pos⟩

/-- The clauses of O4 for one command. -/
theorem exec_steady (c : Instr) (h : exec c s = .next t) :
    t.pending = s.pending ∧ ((∀ a r i, c ≠ .powerOnReset a r i) → t.straps = s.straps)
      ∧ (c ≠ .startUp → t.mono = s.mono ∧ t.frac = s.frac) := by
  by_cases hu : c = .startUp
  · subst hu
    obtain ⟨hp, hst, -⟩ := exec_startUp_steady h
    exact ⟨hp, fun _ => hst, fun k => absurd rfl k⟩
  · by_cases hr : ∃ a r i, c = .powerOnReset a r i
    · obtain ⟨a, r, i, rfl⟩ := hr
      rw [exec_powerOnReset] at h
      cases h
      exact ⟨rfl, fun k => absurd rfl (k a r i), fun _ => ⟨rfl, rfl⟩⟩
    · have hr : ∀ a r i, c ≠ .powerOnReset a r i := fun a r i e => hr ⟨a, r, i, e⟩
      obtain ⟨u, e, hm⟩ := exec_moves s c hr hu (w := True) (.inl trivial)
      rw [e] at h
      cases h
      exact ⟨hm.steady.pending, fun _ => hm.steady.straps, fun _ => ⟨hm.steady.mono, hm.steady.frac⟩⟩

theorem strapAddress_range (x : BitVec 7) : 1 ≤ strapAddress x ∧ strapAddress x ≤ 127 := by
  have := x.isLt
  unfold strapAddress
  split <;> omega

theorem State.legalBase_iff : s.legalBase = true
    ↔ 1 ≤ s.straps.addr ∧ s.straps.addr ≤ 127 ∧ s.straps.rate ≤ 3 ∧ s.frac < Config.unitsPerMs := by
  simp [State.legalBase, and_assoc]

/-- The straps of a command and its sub-millisecond part are in range where they were. -/
theorem exec_legalBase (c : Instr) (hs : s.legalBase = true) (h : exec c s = .next t) : t.legalBase = true := by
  obtain ⟨-, straps, time⟩ := exec_steady c h
  obtain ⟨lo, hi, rate, frac⟩ := State.legalBase_iff.mp hs
  have frac' : t.frac < Config.unitsPerMs := by
    by_cases hu : c = .startUp
    · subst hu
      exact (exec_startUp_steady h).2.2 frac
    · rw [(time hu).2]
      exact frac
  by_cases hr : ∃ a r i, c = .powerOnReset a r i
  · obtain ⟨a, r, i, rfl⟩ := hr
    rw [exec_powerOnReset] at h
    cases h
    have := r.isLt
    obtain ⟨lo, hi⟩ := strapAddress_range a
    exact State.legalBase_iff.mpr ⟨lo, hi, by change r.toNat ≤ 3; omega, frac'⟩
  · have e := straps fun a r i e => hr ⟨a, r, i, e⟩
    exact State.legalBase_iff.mpr ⟨by rw [e]; exact lo, by rw [e]; exact hi, by rw [e]; exact rate, frac'⟩

theorem State.advance_frac (s : State) : s.advance.frac < Config.unitsPerMs := by
  unfold State.advance
  split
  · assumption
  · exact unitsPerMs_pos

theorem State.advance_straps (s : State) : s.advance.straps = s.straps := by
  unfold State.advance
  split <;> rfl

theorem State.tick_legalBase (hs : s.legalBase = true) : s.tick.legalBase = true := by
  obtain ⟨lo, hi, rate, -⟩ := State.legalBase_iff.mp hs
  unfold State.tick
  split
  · have e := s.advance_straps
    exact State.legalBase_iff.mpr
      ⟨by dsimp only; rwa [e], by dsimp only; rwa [e], by dsimp only; rwa [e], s.advance_frac⟩
  · exact hs

/-- Settles O4. -/
theorem stepKeepsTimeAndStraps : Obligations.StepKeepsTimeAndStraps := by
  refine ⟨fun c s t h => exec_steady c h, fun s t hs h => ?_⟩
  unfold step at h
  split at h
  · cases h
    exact State.tick_legalBase hs
  · next c l _ => exact exec_legalBase (s := { s with pending := l }) c hs h

/-- Settles O5: no move ends FROZEN; a power-on reset keeps the access state and START_UP does nothing on the line. -/
theorem frozenStaysFrozen : Obligations.FrozenStaysFrozen := by
  intro s t ho hs h
  unfold step at h
  split at h
  · cases h
    unfold State.tick State.advance
    rw [if_pos ho]
    dsimp only
    split <;> exact hs
  · next c l _ =>
    by_cases hu : c = .startUp
    · subst hu
      rw [exec_startUp_of_online { s with pending := l } ho] at h
      cases h
      exact hs
    · by_cases hr : ∃ a r i, c = .powerOnReset a r i
      · obtain ⟨a, r, i, rfl⟩ := hr
        rw [exec_powerOnReset] at h
        cases h
        exact hs
      · obtain ⟨u, e, hm⟩ := exec_moves { s with pending := l } c (fun a r i e => hr ⟨a, r, i, e⟩) hu (w := True)
          (.inl trivial)
        rw [e] at h
        cases h
        exact hm.steady.frozen hs

/-- Settles O10: a command that writes no table is a run of moves that may not write one. -/
theorem onlyWritesMoveTables : Obligations.OnlyWritesMoveTables := by
  intro c s t hw hc h
  have hu : c ≠ .startUp := by
    rintro rfl
    cases hc
  by_cases hr : ∃ a r i, c = .powerOnReset a r i
  · obtain ⟨a, r, i, rfl⟩ := hr
    rw [exec_powerOnReset] at h
    cases h
    rfl
  · obtain ⟨u, e, hm⟩ := exec_moves s c (fun a r i e => hr ⟨a, r, i, e⟩) hu (w := False) (.inr ⟨hw, hc⟩)
    rw [e] at h
    cases h
    exact hm.cfg id

end Sys2Proof.Machine
end


section
/-! SUPPORT. The idle tick: which commands are due, and what an idle step changes. -/

namespace Sys2Proof.Machine

variable {s : State} {c : Instr}

/-! ## The commands that are due (log 2) -/

theorem mem_due_iff {b : Bool} {i : Instr} : c ∈ due b i ↔ c = i ∧ b = true := mem_due.trans and_comm

/-- A deferred frame may go (R12): the test of TRANSMIT_START in `State.duePort`. -/
def State.mayBegin (s : State) (p : Port) : Bool :=
  match (s.port p).tx, (s.port p).rx with
  | .deferring _, .hunting => true
  | _, _ => false

theorem State.duePort_eq (s : State) (p : Port) :
    s.duePort p = due (s.mayBegin p) (.transmitStart p) ++ due (s.sendOver p).isSome (.sendCompletion p)
      ++ due (s.silentFor p 4) (.interCharacterGap p) := rfl

theorem State.mayBegin_iff (p : Port) :
    s.mayBegin p = true ↔ (∃ f, (s.port p).tx = .deferring f) ∧ (s.port p).rx = .hunting := by
  unfold State.mayBegin
  cases (s.port p).tx <;> cases (s.port p).rx <;> simp

theorem State.mem_duePort (p : Port) :
    c ∈ s.duePort p
      ↔ (c = .transmitStart p ∧ s.isDue (.transmitStart p)) ∨ (c = .sendCompletion p ∧ s.isDue (.sendCompletion p))
        ∨ (c = .interCharacterGap p ∧ s.isDue (.interCharacterGap p)) := by
  simp only [State.duePort_eq, List.mem_append, mem_due_iff, State.mayBegin_iff, State.sendOver_isSome,
    State.silentFor_iff, State.isDue, or_assoc]

theorem stationAddress_iff (a : Nat) : stationAddress a = true ↔ hasRecord a := by
  simp [stationAddress, hasRecord]

/-- The start that holds a station back under its starts limit leaves the window at this instant (R145). -/
theorem State.startsTime_eq_some (a t : Nat) :
    s.startsTime a (t - 1) = some t
      ↔ (s.pol a).startsLimit ≠ 0
        ∧ (s.pol a).startsLimit ≤ ((s.st a).starts.filter fun x => t - 1 ≤ x + 3600000).length
        ∧ ∃ x, ((s.st a).starts.filter fun x => t - 1 ≤ x + 3600000)[
              ((s.st a).starts.filter fun x => t - 1 ≤ x + 3600000).length - (s.pol a).startsLimit]? = some x
            ∧ t = x + 3600001 := by
  have counted : (s.st a).recentStarts (t - 1) = (s.st a).starts.filter fun x => t - 1 ≤ x + 3600000 := rfl
  unfold State.startsTime
  rw [counted]
  dsimp only
  by_cases hl : (s.pol a).startsLimit = 0
      ∨ ((s.st a).starts.filter fun x => t - 1 ≤ x + 3600000).length < (s.pol a).startsLimit
  · rw [if_pos hl]
    simp only [reduceCtorEq, false_iff, not_and]
    omega
  · rw [if_neg hl]
    simp only [not_or, Nat.not_lt] at hl
    simp only [Option.map_eq_some_iff, ne_eq, hl, not_false_eq_true, true_and, Config.startsWindow, Nat.add_assoc,
      Nat.reduceAdd, eq_comm (a := t)]

theorem State.minOffTime_eq_some (a t : Nat) :
    s.minOffTime a = some t ↔ ∃ n, (s.st a).parkedSince = some n ∧ t = n + (s.pol a).minOff * 1000 := by
  simp [State.minOffTime, eq_comm]

theorem State.followUpTime_eq_some (a : Nat) :
    s.followUpTime a = some s.now
      ↔ (s.st a).nextFollowUp = some s.mono
        ∧ (((s.st a).state = .parking ∧ (s.st a).phase = .coast)
          ∨ ((s.st a).state = .waking ∧ (s.st a).phase = .settle)) := by
  simp only [State.followUpTime, State.inPhase, Bool.or_eq_true, Bool.and_eq_true, decide_eq_true_eq, State.now]
  split <;> simp_all [Option.filter_eq_some_iff]

theorem State.mem_dueStation (a : Nat) (h : hasRecord a) :
    c ∈ s.dueStation a
      ↔ (c = .lockExpiry a ∧ s.isDue (.lockExpiry a)) ∨ (c = .stopTimeout a ∧ s.isDue (.stopTimeout a))
        ∨ (c = .startTimeout a ∧ s.isDue (.startTimeout a)) ∨ (c = .followUpDue a ∧ s.isDue (.followUpDue a))
        ∨ (c = .wakeDueExpiry a ∧ s.isDue (.wakeDueExpiry a))
        ∨ (c = .protectionTime a ∧ s.isDue (.protectionTime a)) := by
  have named := (stationAddress_iff a).mpr h
  have starts := s.startsTime_eq_some a s.mono
  simp only [State.dueStation, List.mem_append, mem_due_iff, State.reached_iff, Bool.and_eq_true, decide_eq_true_eq,
    State.inPhase, State.followUpTime_eq_some, State.protectionNow, Bool.or_eq_true, State.minOffTime_eq_some,
    State.isDue, named, true_and]
  simp only [State.now, starts, or_assoc, and_assoc]

/-- The commands that are due at any station. -/
theorem State.mem_dueStations :
    c ∈ addresses.flatMap s.dueStation
      ↔ ∃ a, (c = .lockExpiry a ∨ c = .stopTimeout a ∨ c = .startTimeout a ∨ c = .followUpDue a
          ∨ c = .wakeDueExpiry a ∨ c = .protectionTime a) ∧ s.isDue c := by
  simp only [List.mem_flatMap, mem_addresses]
  refine exists_congr fun a => ?_
  constructor
  · rintro ⟨ha, hc⟩
    rw [State.mem_dueStation a ha] at hc
    rcases hc with ⟨rfl, h⟩ | ⟨rfl, h⟩ | ⟨rfl, h⟩ | ⟨rfl, h⟩ | ⟨rfl, h⟩ | ⟨rfl, h⟩ <;> simp [h]
  · rintro ⟨hc, h⟩
    have ha : hasRecord a := (stationAddress_iff a).mp (by
      rcases hc with rfl | rfl | rfl | rfl | rfl | rfl <;> exact h.1)
    rw [State.mem_dueStation a ha]
    rcases hc with rfl | rfl | rfl | rfl | rfl | rfl <;> simp [h, ha]

/-- A command is queued exactly when it is due. -/
theorem State.mem_dueCommands : c ∈ s.dueCommands ↔ s.isDue c := by
  have drained : s.warmDue = true ↔ s.isDue .warmResetApplied := by
    simp only [State.warmDue, State.drained, Master.underWay, State.isDue, Bool.and_eq_true, beq_iff_eq,
      List.isEmpty_iff]
    cases s.master.st <;> simp
  simp only [State.dueCommands, List.mem_append, State.mem_dueStations]
  simp only [State.mem_duePort, mem_due_iff, drained, State.deadlineOver_isSome, State.gapOver_iff, List.mem_map, List.mem_filter, State.doneOver_iff,
    List.mem_flatMap, List.mem_range, State.soundingOver_isSome, State.reached_iff, Bool.and_eq_true,
    decide_eq_true_eq, State.atMinute]
  cases c with
  | transmitStart p => cases p <;> simp
  | sendCompletion p => cases p <;> simp
  | interCharacterGap p => cases p <;> simp
  | delayedDiscard k => simp [State.isDue, and_comm, and_left_comm]
  | _ => simp [State.isDue]

/-! ## An idle step -/

theorem State.advance_lineTime (h : s.frac < Config.unitsPerMs) : s.advance.lineTime = s.lineTime + 1 := by
  unfold State.advance
  split
  · simp only [State.lineTime]
    omega
  · have : s.frac + 1 = Config.unitsPerMs := by omega
    simp only [State.lineTime]
    rw [Nat.add_one_mul]
    omega

theorem State.dueCommands_of_pending (s : State) (l : List Instr) :
    { s with pending := l }.dueCommands = s.dueCommands := rfl

theorem step_of_idle (h : s.pending = []) : step s = .next s.tick := by
  unfold step
  rw [h]

/-- Settles O2: the idle tick moves the time and the queue, and the commands it queues are the due ones. -/
theorem idleStepAdvancesTime : Obligations.IdleStepAdvancesTime := by
  refine ⟨fun s hp hb => ⟨fun hon => ?online, fun hoff => ?held⟩, fun s c => State.mem_dueCommands⟩
  case online =>
    obtain ⟨-, -, -, frac⟩ := State.legalBase_iff.mp hb
    have time := State.advance_lineTime frac
    refine ⟨s.tick, step_of_idle hp, ?_⟩
    have rest : { s.advance with mono := s.mono, frac := s.frac, pending := [] } = s ∧ s.advance.pending = [] := by
      unfold State.advance
      split <;> exact ⟨by rw [← hp], hp⟩
    unfold State.tick
    rw [if_pos hon]
    refine ⟨time, ?_, rest.1⟩
    change s.advance.pending ++ s.advance.dueCommands = _
    rw [rest.2, List.nil_append]
    exact (State.dueCommands_of_pending _ _).symm
  case held =>
    rw [step_of_idle hp, State.tick, if_neg (by simp [hoff])]

end Sys2Proof.Machine
end


section
/-! SUPPORT. The two ports: what a completed character, a discard and the end of a send come to. -/

namespace Sys2Proof.Machine

variable {s : State} {p : Port} {x : Samples} {c : CharRead}

/-! ## The line commands at a port that listens -/

theorem exec_completedCharacter (h : s.listening p = true) :
    exec (.completedCharacter p x) s = .next (s.character p x) := by
  change Host.Outcome.next (if s.listening p then s.character p x else s) = _
  rw [if_pos h]

theorem exec_frameDiscard (e : FrameEnd) (h : s.listening p = true) :
    exec (.frameDiscard p e) s = .next (s.frameEnd p e) := by
  change Host.Outcome.next (if s.listening p then s.frameEnd p e else s) = _
  rw [if_pos h]

theorem State.whenOnline_of_online (f : State → State) (h : s.online = true) : s.whenOnline f = f s := if_pos h

theorem State.character_of_read (hx : readChar x = some c) (h : s.silentFor p 4 = false) :
    s.character p x = s.takeChar p c := by
  simp [State.character, hx, h]

theorem State.character_of_overdue (hx : readChar x = some c) (h : s.silentFor p 4 = true) :
    s.character p x = (s.discardTimeout p).takeChar p c := by
  simp [State.character, hx, h]

theorem State.takeChar_of_hunting (h : (s.port p).rx = .hunting) :
    s.takeChar p c = if c.marker then s.openFrame p c else s := by
  simp [State.takeChar, h]

theorem State.takeChar_of_assembling {y : FrameInProgress} (h : (s.port p).rx = .assembling y) :
    s.takeChar p c = if c.marker then (s.discardCutOff p).openFrame p c else s.appendChar p y c := by
  simp [State.takeChar, h]

/-- The frame in progress goes on: its length is not reached, or not yet read (R5, R7). -/
theorem State.appendChar_of_short {y : FrameInProgress}
    (h : ∀ n, (y.append c s.lineTime).chars[4]? = some n →
      n.toNat ≤ 32 ∧ (y.append c s.lineTime).chars.length ≠ n.toNat + 7) :
    s.appendChar p y c = s.setPort p { s.port p with rx := .assembling (y.append c s.lineTime) } := by
  unfold State.appendChar
  dsimp only
  split
  · rfl
  · next n hn =>
    obtain ⟨hle, hne⟩ := h n hn
    rw [if_neg (by omega), if_neg hne]

theorem State.appendChar_of_long {y : FrameInProgress} {n : Byte}
    (hn : (y.append c s.lineTime).chars[4]? = some n) (h : 32 < n.toNat) :
    s.appendChar p y c
      = (s.setPort p { s.port p with rx := .assembling (y.append c s.lineTime) }).discard p .length := by
  simp only [State.appendChar, hn, if_pos h]

theorem State.appendChar_of_full {y : FrameInProgress} {n : Byte}
    (hn : (y.append c s.lineTime).chars[4]? = some n) (h : n.toNat ≤ 32)
    (hl : (y.append c s.lineTime).chars.length = n.toNat + 7) :
    s.appendChar p y c
      = (s.setPort p { s.port p with rx := .assembling (y.append c s.lineTime) }).endFrame p
          (y.append c s.lineTime) := by
  simp only [State.appendChar, hn, if_neg (Nat.not_lt.mpr h), if_pos hl]

theorem State.endFrame_of_error {y : FrameInProgress} {e : CharError} (h : y.firstErr = some e) :
    s.endFrame p y = s.discard p (.charError e) := by
  simp [State.endFrame, h]

theorem State.endFrame_of_bad {y : FrameInProgress} {w : EndCause} (h : y.firstErr = none)
    (ht : frameTest y.chars = .bad w) : s.endFrame p y = s.discard p w := by
  simp [State.endFrame, h, ht]

theorem State.endFrame_of_valid {y : FrameInProgress} {f : Frame} (h : y.firstErr = none)
    (ht : frameTest y.chars = .valid f) : s.endFrame p y = (s.hunt p).deliver p f := by
  simp [State.endFrame, h, ht]

/-- What a discard leaves of the port: the counter of the first character error, or else the cause's (R10). -/
theorem State.discardBy_eq (count : LineCounters → LineCounters) :
    s.discardBy p count
      = (s.setPort p
          { s.port p with
            rx := .hunting
            cnt := match (s.port p).rx.firstErr with
              | some e => (s.port p).cnt.counted (.charError e)
              | none => count (s.port p).cnt }).raise .lineErrors := rfl

theorem State.openFrame_eq (c : CharRead) :
    s.openFrame p c = s.setPort p { s.port p with rx := .assembling ⟨[c.data], c.err, s.lineTime⟩ } := rfl

theorem State.raise_setPort (q : PortState) (x : Flag) : (s.raise x).setPort p q = (s.setPort p q).raise x := by
  cases p <;> rfl

theorem State.setPort_setPort (q r : PortState) : (s.setPort p q).setPort p r = s.setPort p r := by cases p <;> rfl

theorem State.raise_port (x : Flag) (q : Port) : (s.raise x).port q = s.port q := by cases q <;> rfl

theorem State.setPort_lineTime (q : PortState) : (s.setPort p q).lineTime = s.lineTime := by
  cases p <;> rfl

/-- Settles O17: what each lemma above says of the character at hand. -/
theorem completedCharacterAssembles : Obligations.CompletedCharacterAssembles := by
  intro p x s hear
  simp only [exec_completedCharacter hear]
  refine ⟨fun hx => ?falseStart, fun c y hx hy hlate => ?overdue, fun c hx htime => ?inTime⟩
  case falseStart => simp [State.character, hx]
  case overdue =>
    have late : s.silentFor p 4 = true := (s.silentFor_iff p 4).mpr ⟨y, hy, hlate⟩
    have out : s.discardTimeout p = (s.setPort p
        { s.port p with
          rx := .hunting
          cnt := match y.firstErr with
            | some e => (s.port p).cnt.counted (.charError e)
            | none => { (s.port p).cnt with timeout := min ((s.port p).cnt.timeout + 1) 65535 } }).raise
        .lineErrors := by
      unfold State.discardTimeout
      rw [State.discardBy_eq, hy]
      rfl
    have hunts : ((s.discardTimeout p).port p).rx = .hunting := by rw [out, State.raise_port, State.setPort_port]
    have time : (s.discardTimeout p).lineTime = s.lineTime := by rw [out]; exact State.setPort_lineTime _
    rw [State.character_of_overdue hx late, State.takeChar_of_hunting hunts, State.openFrame_eq, time, out] <;> rfl
  case inTime =>
    rw [State.character_of_read hx htime]
    refine ⟨fun hh hm => ?_, fun hh hm => ?_, fun y hy => ⟨fun hm => ?cutOff, fun hm hlen => ?_, fun hm n hn => ?_⟩⟩
    · rw [State.takeChar_of_hunting hh, hm]
      rfl
    · rw [State.takeChar_of_hunting hh, hm]
      rfl
    case cutOff =>
      have time : (s.discardCutOff p).lineTime = s.lineTime := State.setPort_lineTime _
      rw [State.takeChar_of_assembling hy, hm, if_pos rfl, State.openFrame_eq, time]
    · rw [State.takeChar_of_assembling hy, hm, if_neg (by simp)]
      refine congrArg _ (State.appendChar_of_short fun n hn => ?_)
      have := List.getElem?_eq_some_iff.mp hn
      obtain ⟨h4, -⟩ := this
      exact absurd h4 (Nat.not_lt.mpr (Nat.lt_succ_iff.mp hlen))
    · rw [State.takeChar_of_assembling hy, hm, if_neg (by simp)]
      refine ⟨fun hlong => ?_, fun hle hne => ?_, fun hle heq => ⟨fun e he => ?_, fun hok => ⟨fun w hw => ?_, fun f hf => ?_⟩⟩⟩
      · exact congrArg _ (State.appendChar_of_long hn hlong)
      · refine congrArg _ (State.appendChar_of_short fun m hm => ?_)
        obtain rfl : n = m := Option.some.inj (hn.symm.trans hm)
        exact ⟨hle, hne⟩
      · rw [State.appendChar_of_full hn hle heq]
        exact congrArg _ (State.endFrame_of_error he)
      · rw [State.appendChar_of_full hn hle heq]
        exact congrArg _ (State.endFrame_of_bad hok hw)
      · rw [State.appendChar_of_full hn hle heq]
        exact congrArg _ (State.endFrame_of_valid hok hf)

/-- Settles O18. -/
theorem discardCountsFrameOnce : Obligations.DiscardCountsFrameOnce := by
  intro p s hear
  refine ⟨fun c => ?ended, fun x c hx hm => ?cutOff, fun y hy => ⟨fun hlate => ?silent, fun hsoon => ?soon⟩⟩
  case ended =>
    rw [exec_frameDiscard _ hear]
    rfl
  case cutOff =>
    have opened : s.frameEnd p (.cutOff x) = (s.discardCutOff p).openFrame p c := by simp [State.frameEnd, hx, hm]
    have time : (s.discardCutOff p).lineTime = s.lineTime := State.setPort_lineTime _
    rw [exec_frameDiscard _ hear, opened, State.openFrame_eq, time]
    unfold State.discardCutOff
    rw [State.discardBy_eq, State.raise_port, State.setPort_port, State.raise_setPort, State.setPort_setPort]
    rfl
  case silent =>
    have late : s.silentFor p 3 = true := (s.silentFor_iff p 3).mpr ⟨y, hy, hlate⟩
    change Host.Outcome.next (if s.listening p ∧ s.silentFor p 3 then s.discardTimeout p else s) = _
    rw [if_pos ⟨hear, late⟩]
    rfl
  case soon =>
    have early : ¬ s.silentFor p 3 = true := by
      rw [s.silentFor_iff p 3]
      rintro ⟨z, hz, hlate⟩
      obtain rfl : y = z := by simpa [hy] using hz
      omega
    change Host.Outcome.next (if s.listening p ∧ s.silentFor p 3 then s.discardTimeout p else s) = _
    rw [if_neg fun h => early h.2]

/-! ## Sending -/

theorem Drain.sent_eq (d : Drain) (f : Frame) :
    d.sent f = if d = .running false ∧ f.body = .mreply [0x71, 1] then .running true else d := by
  cases d with
  | off => rfl
  | running b =>
    cases b
    · change Drain.running (decide (f.body = .mreply [0x71, 1])) = _
      by_cases h : f.body = .mreply [0x71, 1]
      · rw [decide_eq_true h, if_pos ⟨rfl, h⟩]
      · rw [decide_eq_false h, if_neg fun k => h k.2]
    · rfl

theorem exec_sendCompletion_early {f : Frame} {e : Nat} (hon : s.online = true)
    (ht : (s.port p).tx = .sending f e) (h : s.lineTime < e) : exec (.sendCompletion p) s = .next s := by
  change Host.Outcome.next (s.whenOnline _) = _
  rw [State.whenOnline_of_online _ hon]
  simp [State.sendOver, ht, Nat.not_le.mpr h]

theorem exec_sendCompletion_over {f : Frame} {e : Nat} (hon : s.online = true)
    (ht : (s.port p).tx = .sending f e) (h : e ≤ s.lineTime) :
    exec (.sendCompletion p) s = .next (s.sent p f) := by
  change Host.Outcome.next (s.whenOnline _) = _
  rw [State.whenOnline_of_online _ hon]
  simp [State.sendOver, ht, h]

/-- Settles O19. -/
theorem controllerPortSends : Obligations.ControllerPortSends := by
  intro s hon
  refine ⟨fun p f ht hr => ?start, fun f e ht => ⟨fun hearly => ?early, fun hover => ⟨fun hw => ?last, fun g rest hw => ?next⟩⟩⟩
  case start =>
    change Host.Outcome.next (s.whenOnline _) = _
    rw [State.whenOnline_of_online _ hon]
    simp only [State.beginSend, ht, hr]
    rfl
  case early => exact exec_sendCompletion_early hon ht hearly
  case last =>
    rw [exec_sendCompletion_over (p := .c) hon ht hover]
    simp only [State.sent, Drain.sent_eq, State.nextAnswer, State.setPort_answers, hw]
    rfl
  case next =>
    rw [exec_sendCompletion_over (p := .c) hon ht hover]
    simp only [State.sent, Drain.sent_eq, State.nextAnswer, State.setPort_answers, hw]
    rfl

/-- Settles O20. -/
theorem fieldPortSends : Obligations.FieldPortSends := by
  intro s f e x hon ht hover hm
  have run : exec (.sendCompletion .f) s = .next (s.sent .f f) := exec_sendCompletion_over (p := .f) hon ht hover
  refine ⟨fun hd => ?reply, fun n hn hd => ?broadcast⟩
  case reply =>
    have sent : s.sent .f f = ({ s with fport := { s.fport with tx := .idle, rx := .hunting } } : State).setMaster
        { s.master with st := .awaitReply x (s.lineTime + s.cfg.params.replyTimeout * Config.unitsPerMs) } := by
      change State.requestSent _ = _
      unfold State.requestSent
      split
      · next y hy =>
        obtain rfl : x = y := by simpa [State.setPort, hm] using hy
        split
        · next h0 => exact absurd h0 hd
        · rfl
      · next hno => exact absurd hm (hno x)
    rw [run, sent]
    rfl
  case broadcast =>
    have sent : s.sent .f f = (({ s with fport := { s.fport with tx := .idle, rx := .hunting } } : State).removeEntry 0
        n).enterGap x := by
      change State.requestSent _ = _
      unfold State.requestSent
      split
      · next y hy =>
        obtain rfl : x = y := by simpa [State.setPort, hm] using hy
        split
        · next _ m hm' h0 =>
          obtain rfl : n = m := by simpa [hn] using hm'
          rfl
        · next hno => exact absurd hd (hno n hn)
      · next hno => exact absurd hm (hno x)
    rw [run, sent]
    rfl

end Sys2Proof.Machine
end


section
/-! SUPPORT. Characters and frames read back, and the characters of a frame deliver it. -/

namespace Sys2Proof

/-! ## Characters (R1 to R3) -/

/-- Two agreeing samples of three fix a bit time (R2). -/
theorem sampled_of_majority {x : Samples} {i : Nat} {b : Bool}
    (h : 2 ≤ (List.range 3).countP (fun k => x.getLsbD (3 * i + k) == b)) : sampled x i = b := by
  simp only [List.range_succ, List.range_zero, List.nil_append, List.cons_append, List.countP_cons, List.countP_nil,
    Nat.add_zero, beq_iff_eq] at h
  unfold sampled
  cases h0 : x.getLsbD (3 * i) <;> cases h1 : x.getLsbD (3 * i + 1) <;> cases h2 : x.getLsbD (3 * i + 2) <;>
    cases b <;> simp_all

/-- The data and the ones of a character whose bit times are those of `bits`. -/
def bitsData (bits : Nat → Bool) : Byte :=
  BitVec.ofNat 8 ((List.range 8).foldl (fun n i => n + (if bits (i + 1) then 2 ^ i else 0)) 0)

def bitsOnes (bits : Nat → Bool) : Nat :=
  (List.range 10).foldl (fun n i => n + (if bits (i + 1) then 1 else 0)) 0

theorem sampledData_congr {x : Samples} {bits : Nat → Bool} (h : ∀ i, i < 12 → sampled x i = bits i) :
    sampledData x = bitsData bits := by
  simp [sampledData, bitsData, List.range_succ, h]

theorem sampledOnes_congr {x : Samples} {bits : Nat → Bool} (h : ∀ i, i < 12 → sampled x i = bits i) :
    sampledOnes x = bitsOnes bits := by
  simp [sampledOnes, bitsOnes, List.range_succ, h]

/-- The twelve bit times of a character the gate sends, as they are judged (R1, R3). -/
theorem charBits_judged : ∀ (d : Byte) (m : Bool),
    (charBits d m).getD 0 false = false ∧ bitsData (fun i => (charBits d m).getD i false) = d
      ∧ (charBits d m).getD 9 false = m ∧ (charBits d m).getD 11 false = true
      ∧ bitsOnes (fun i => (charBits d m).getD i false) % 2 = 0 := by
  decide +kernel

theorem readChar_of_bits {x : Samples} {d : Byte} {m : Bool}
    (h : ∀ i, i < 12 → sampled x i = (charBits d m).getD i false) : readChar x = some ⟨d, m, none⟩ := by
  obtain ⟨start, data, marker, stop, parity⟩ := charBits_judged d m
  unfold readChar
  rw [h 0 (by decide), start, if_neg (by decide), h 9 (by decide), marker, h 11 (by decide), stop,
    if_neg (by decide), sampledData_congr h, data, sampledOnes_congr h, parity, if_neg (by decide)]

/-- The samples of a bit time read cleanly are three times the bit. -/
theorem cleanSamples_charBits : ∀ (d : Byte) (m : Bool),
    (List.range 12).all (fun i => sampled (cleanSamples (charBits d m)) i == (charBits d m).getD i false) = true := by
  decide +kernel

theorem readChar_clean (d : Byte) (m : Bool) : readChar (cleanSamples (charBits d m)) = some ⟨d, m, none⟩ :=
  readChar_of_bits fun i hi =>
    beq_iff_eq.mp (List.all_eq_true.mp (cleanSamples_charBits d m) i (List.mem_range.mpr hi))

/-! ## Frames (R7, R8) -/

theorem length_payload_of_fits {b : Body} (h : Body.ofPayload b.kind b.payload = some b) :
    b.payload.length ≤ 32 := by
  cases b with
  | poll => simp [Body.payload]
  | status r => simp [Body.payload, StatusRec.bytes, be16]
  | gateStatus bs => exact absurd h (Body.status_of_fits _ bs rfl)
  | set r => simp [Body.payload, SetRec.bytes, be16]
  | ack c => simp [Body.payload]
  | nak c => simp [Body.payload]
  | time w => simp [Body.payload, length_be32]
  | mgmt bs =>
    by_contra hl
    have hl : ¬ bs.length ≤ 32 := hl
    simp [Body.kind, Body.payload, Body.ofPayload, hl] at h
  | mreply bs =>
    by_contra hl
    have hl : ¬ bs.length ≤ 32 := hl
    simp [Body.kind, Body.payload, Body.ofPayload, hl] at h

theorem Frame.shapeOk_iff (f : Frame) :
    f.shapeOk = true ↔ f.dst.toNat ≤ 127 ∧ 1 ≤ f.src.toNat ∧ f.src.toNat ≤ 127
      ∧ Body.ofPayload f.body.kind f.body.payload = some f.body := by
  simp [Frame.shapeOk, and_assoc]

variable {f : Frame}

theorem Frame.length_bytes (f : Frame) : f.bytes.length = f.chars := by
  simp [Frame.bytes, Frame.head, Frame.chars, length_be16]

/-- The fifth character of a well-formed frame is its length (R5). -/
theorem Frame.bytes_length (h : f.shapeOk = true) :
    ∃ n, f.bytes[4]? = some n ∧ n.toNat = f.body.payload.length := by
  have hl := length_payload_of_fits ((Frame.shapeOk_iff f).mp h).2.2.2
  refine ⟨byte f.body.payload.length, rfl, ?_⟩
  rw [byte_toNat]
  omega

theorem frameTest_cons (dst src kind tag len : Byte) (rest : List Byte) :
    frameTest (dst :: src :: kind :: tag :: len :: rest)
      = if (crc16 ((dst :: src :: kind :: tag :: len :: rest).take (len.toNat + 5))).toNat
            ≠ beVal ((dst :: src :: kind :: tag :: len :: rest).drop (len.toNat + 5)) then .bad .crc
        else shapeTest dst src kind tag (rest.take len.toNat) := rfl

theorem frameTest_bytes (h : f.shapeOk = true) : frameTest f.bytes = .valid f := by
  obtain ⟨hd, hs1, hs2, hb⟩ := (Frame.shapeOk_iff f).mp h
  have hl := length_payload_of_fits hb
  have len : (byte f.body.payload.length).toNat = f.body.payload.length := by
    rw [byte_toNat]
    omega
  have head : f.head.length = f.body.payload.length + 5 := by simp [Frame.head]
  have taken : f.bytes.take (f.body.payload.length + 5) = f.head := by
    rw [← head]
    exact List.take_left
  have rest : f.bytes.drop (f.body.payload.length + 5) = be16 (crc16 f.head).toNat := by
    rw [← head]
    exact List.drop_left
  have shape : shapeTest f.dst f.src f.body.kind f.tag f.body.payload = .valid f := by
    unfold shapeTest
    rw [if_neg (by omega), hb]
  have cut : f.bytes = f.dst :: f.src :: f.body.kind :: f.tag :: byte f.body.payload.length
      :: (f.body.payload ++ be16 (crc16 f.head).toNat) := rfl
  rw [cut, frameTest_cons, ← cut, len, taken, rest, beVal_be16 _ (crc16 f.head).isLt, if_neg (by simp), List.take_left, shape]

/-- Settles O15. -/
theorem charactersAndFramesReadBack : Obligations.CharactersAndFramesReadBack := by
  refine ⟨fun d m x h => readChar_of_bits fun i hi => sampled_of_majority (h i hi), fun f h => ?_⟩
  have hl := length_payload_of_fits ((Frame.shapeOk_iff f).mp h).2.2.2
  exact ⟨frameTest_bytes h, Frame.length_bytes f, by simp [Frame.chars], by unfold Frame.chars; omega⟩

namespace Machine

variable {s : State} {p : Port}

/-! ## The characters of a frame, one after another -/

/-- The receiver with the characters of a frame so far, the last of which ended now. -/
def State.received (s : State) (p : Port) (bs : List Byte) : State :=
  s.setPort p { s.port p with rx := .assembling ⟨bs, none, s.lineTime⟩ }

theorem State.received_rx (s : State) (p : Port) (bs : List Byte) :
    ((s.received p bs).port p).rx = .assembling ⟨bs, none, s.lineTime⟩ := by
  rw [State.received, State.setPort_port]

theorem State.received_lineTime (s : State) (p : Port) (bs : List Byte) :
    (s.received p bs).lineTime = s.lineTime := State.setPort_lineTime _

theorem State.received_listening (bs : List Byte) (h : s.listening p = true) :
    (s.received p bs).listening p = true := by
  cases p <;> exact h

theorem State.setPort_received (bs cs : List Byte) :
    (s.received p bs).setPort p { (s.received p bs).port p with rx := .assembling ⟨cs, none, s.lineTime⟩ }
      = s.received p cs := by
  cases p <;> rfl

/-- A character that follows at once is never overdue (R6). -/
theorem State.received_silentFor (s : State) (p : Port) (bs : List Byte) :
    (s.received p bs).silentFor p 4 = false := by
  rw [← Bool.not_eq_true, State.silentFor_iff]
  rintro ⟨y, hy, hlate⟩
  rw [State.received_rx] at hy
  cases hy
  rw [State.received_lineTime] at hlate
  have hlate : s.lineTime + 4 * _ < s.lineTime := hlate
  omega

/-- One more plain character of the frame. -/
theorem exec_plain (d : Byte) (bs : List Byte) (h : s.listening p = true) :
    exec (.completedCharacter p (cleanSamples (charBits d false))) (s.received p bs)
      = .next ((s.received p bs).appendChar p ⟨bs, none, s.lineTime⟩ ⟨d, false, none⟩) := by
  rw [exec_completedCharacter (State.received_listening bs h),
    State.character_of_read (readChar_clean d false) (s.received_silentFor p bs),
    State.takeChar_of_assembling (s.received_rx p bs)]
  rfl

theorem State.append_received (d : Byte) (bs : List Byte) :
    (⟨bs, none, s.lineTime⟩ : FrameInProgress).append ⟨d, false, none⟩ (s.received p bs).lineTime
      = ⟨bs ++ [d], none, s.lineTime⟩ := by
  rw [State.received_lineTime]
  rfl

/-- The receiver of a port that is HUNTING already stays as it is. -/
theorem State.hunt_received (bs : List Byte) (h : (s.port p).rx = .hunting) : (s.received p bs).hunt p = s := by
  cases p
  · have e : ({ s.cport with rx := .hunting } : PortState) = s.cport := by rw [← show s.cport.rx = .hunting from h]
    change { s with cport := { s.cport with rx := .hunting } } = s
    rw [e]
  · have e : ({ s.fport with rx := .hunting } : PortState) = s.fport := by rw [← show s.fport.rx = .hunting from h]
    change { s with fport := { s.fport with rx := .hunting } } = s
    rw [e]

/-- The characters still to come of a frame of which `pre` has been received end in its delivery (R4, R7, R9). -/
theorem execAll_rest {f : Frame} (hl : s.listening p = true) (hh : (s.port p).rx = .hunting)
    (hf : f.shapeOk = true) (d : Byte) (bs pre : List Byte) (h : pre ++ d :: bs = f.bytes) :
    execAll ((d :: bs).map fun b => .completedCharacter p (cleanSamples (charBits b false))) (s.received p pre)
      = .next (s.deliver p f) := by
  obtain ⟨n, hn, hlen⟩ := Frame.bytes_length hf
  have total : f.bytes.length = n.toNat + 7 := by rw [Frame.length_bytes, hlen, Frame.chars]
  have small : n.toNat ≤ 32 := hlen ▸ length_payload_of_fits ((Frame.shapeOk_iff f).mp hf).2.2.2
  induction bs generalizing d pre with
  | nil =>
    simp only [List.map_cons, List.map_nil, execAll, exec_plain d pre hl]
    rw [State.appendChar_of_full (n := n)]
    · rw [State.append_received, h, State.endFrame_of_valid (f := f) rfl (frameTest_bytes hf)]
      rw [State.setPort_received, State.hunt_received _ hh]
    · rw [State.append_received, h]
      exact hn
    · exact small
    · rw [State.append_received, h]
      exact total
  | cons e bs ih =>
    have more : (pre ++ [d]) ++ e :: bs = f.bytes := by rw [← h]; simp
    have short : (s.received p pre).appendChar p ⟨pre, none, s.lineTime⟩ ⟨d, false, none⟩
        = s.received p (pre ++ [d]) := by
      rw [State.appendChar_of_short]
      · rw [State.append_received, State.setPort_received]
      · intro m hm
        rw [State.append_received] at hm ⊢
        have same : f.bytes[4]? = some m := by
          rw [← more, List.getElem?_append_left (List.getElem?_eq_some_iff.mp hm).1]
          exact hm
        obtain rfl : n = m := Option.some.inj (hn.symm.trans same)
        have := congrArg List.length more
        simp only [List.length_append, List.length_cons] at this
        refine ⟨small, ?_⟩
        simp only [List.length_append, List.length_cons, List.length_nil]
        omega
    rw [List.map_cons]
    simp only [execAll, exec_plain d pre hl, short]
    exact ih e (pre ++ [d]) more

/-- Settles O16: the marker character opens the frame, and the plain ones carry it to its end. -/
theorem charactersDeliverTheirFrame : Obligations.CharactersDeliverTheirFrame := by
  intro p f s hl hh hf
  have opened : exec (.completedCharacter p (cleanSamples (charBits f.dst true))) s
      = .next (s.received p [f.dst]) := by
    have early : s.silentFor p 4 = false := by
      rw [← Bool.not_eq_true, State.silentFor_iff]
      rintro ⟨y, hy, -⟩
      rw [hh] at hy
      cases hy
    rw [exec_completedCharacter hl, State.character_of_read (readChar_clean f.dst true) early,
      State.takeChar_of_hunting hh]
    rfl
  change execAll (.completedCharacter p (cleanSamples (charBits f.dst true)) :: _) s = _
  simp only [execAll, opened]
  exact execAll_rest hl hh hf f.src _ [f.dst] rfl

end Machine

end Sys2Proof
end


section
/-! SUPPORT. What an answer leaves alone, and what a management request comes to. -/

namespace Sys2Proof.Machine

/-! ## Answers move the C-port and the waiting answers alone (R12, R22) -/

section
variable (s : State) (f : Frame)

theorem State.offer_controller_eq : s.offer .c f = { s with cport := (s.offer .c f).cport } := by
  unfold State.offer
  dsimp only
  split <;> rfl

theorem State.answer_eq :
    s.answer f = { s with cport := (s.answer f).cport, answers := (s.answer f).answers } := by
  unfold State.answer
  split
  · rw [s.offer_controller_eq f]
  · rfl

@[simp] theorem State.answer_online : (s.answer f).online = s.online := by rw [State.answer_eq]
@[simp] theorem State.answer_straps : (s.answer f).straps = s.straps := by rw [State.answer_eq]
@[simp] theorem State.answer_mono : (s.answer f).mono = s.mono := by rw [State.answer_eq]
@[simp] theorem State.answer_frac : (s.answer f).frac = s.frac := by rw [State.answer_eq]
@[simp] theorem State.answer_fport : (s.answer f).fport = s.fport := by rw [State.answer_eq]
@[simp] theorem State.answer_fwd : (s.answer f).fwd = s.fwd := by rw [State.answer_eq]
@[simp] theorem State.answer_master : (s.answer f).master = s.master := by rw [State.answer_eq]
@[simp] theorem State.answer_stations : (s.answer f).stations = s.stations := by rw [State.answer_eq]
@[simp] theorem State.answer_parkQ : (s.answer f).parkQ = s.parkQ := by rw [State.answer_eq]
@[simp] theorem State.answer_demandQ : (s.answer f).demandQ = s.demandQ := by rw [State.answer_eq]
@[simp] theorem State.answer_schedQ : (s.answer f).schedQ = s.schedQ := by rw [State.answer_eq]
@[simp] theorem State.answer_starved : (s.answer f).starved = s.starved := by rw [State.answer_eq]
@[simp] theorem State.answer_zones : (s.answer f).zones = s.zones := by rw [State.answer_eq]
@[simp] theorem State.answer_clock : (s.answer f).clock = s.clock := by rw [State.answer_eq]
@[simp] theorem State.answer_mode : (s.answer f).mode = s.mode := by rw [State.answer_eq]
@[simp] theorem State.answer_timeRange : (s.answer f).timeRange = s.timeRange := by rw [State.answer_eq]
@[simp] theorem State.answer_scan : (s.answer f).scan = s.scan := by rw [State.answer_eq]
@[simp] theorem State.answer_cfg : (s.answer f).cfg = s.cfg := by rw [State.answer_eq]
@[simp] theorem State.answer_access : (s.answer f).access = s.access := by rw [State.answer_eq]
@[simp] theorem State.answer_unlocks : (s.answer f).unlocks = s.unlocks := by rw [State.answer_eq]
@[simp] theorem State.answer_flags : (s.answer f).flags = s.flags := by rw [State.answer_eq]
@[simp] theorem State.answer_image : (s.answer f).image = s.image := by rw [State.answer_eq]
@[simp] theorem State.answer_imageValid : (s.answer f).imageValid = s.imageValid := by rw [State.answer_eq]
@[simp] theorem State.answer_saving : (s.answer f).saving = s.saving := by rw [State.answer_eq]
@[simp] theorem State.answer_drain : (s.answer f).drain = s.drain := by rw [State.answer_eq]
@[simp] theorem State.answer_pending : (s.answer f).pending = s.pending := by rw [State.answer_eq]

@[simp] theorem State.st_answer (a : Nat) : (s.answer f).st a = s.st a := State.st_congr _ _ (by simp) a
@[simp] theorem State.pol_answer (a : Nat) : (s.answer f).pol a = s.pol a := State.pol_congr _ _ (by simp) a

@[simp] theorem State.pol_hunt (p : Port) (a : Nat) : (s.hunt p).pol a = s.pol a := State.pol_congr _ _ (by simp) a
@[simp] theorem State.hunt_lineTime (p : Port) : (s.hunt p).lineTime = s.lineTime := by cases p <;> rfl
@[simp] theorem State.hunt_draining (p : Port) : (s.hunt p).draining = s.draining := by cases p <;> rfl

variable {s} {f}

theorem State.offer_congr {t : State} (hc : t.cport = s.cport) (hm : t.lineTime = s.lineTime)
    (hs : t.straps = s.straps) : (t.offer .c f).cport = (s.offer .c f).cport := by
  have time : t.sendEnd f = s.sendEnd f := by simp only [State.sendEnd, hm, State.charTime, hs]
  unfold State.offer
  change State.cport (match t.cport.rx with
    | .hunting => t.setPort .c { t.cport with tx := .sending f (t.sendEnd f) }
    | .assembling _ => t.setPort .c { t.cport with tx := .deferring f })
    = State.cport (match s.cport.rx with
    | .hunting => s.setPort .c { s.cport with tx := .sending f (s.sendEnd f) }
    | .assembling _ => s.setPort .c { s.cport with tx := .deferring f })
  rw [hc, time]
  split <;> rfl

/-- The answer depends on the C-port, the waiting answers, the time and the straps alone. -/
theorem State.answeredWith_of {t : State} (hc : t.cport = s.cport) (ha : t.answers = s.answers)
    (hm : t.lineTime = s.lineTime) (hs : t.straps = s.straps) : s.answeredWith (t.answer f) f := by
  have offered := State.offer_congr (f := f) hc hm hs
  unfold State.answeredWith State.answer
  rw [hc, ha]
  split
  · refine ⟨offered, ?_⟩
    rw [State.offer_controller_eq, s.offer_controller_eq]
    exact ha
  · exact ⟨rfl, rfl⟩

end

/-! ## Requests (R181, R182) -/

variable {s : State} {src tag : Byte}

/-- The request's verdict, answered (R19, R181). -/
theorem State.manage_verdict (q : Req) (fields : List Byte) (h : s.managed src = true) (k : fields.length ≤ 31) :
    s.manage src tag q.code fields
      = ((s.hunt .c).request q fields).state.mreply src tag q.code ((s.hunt .c).request q fields).res
          ((s.hunt .c).request q fields).data :=
  State.manage_request q fields h k

/-- A request of every access state is judged by its length and its range alone (R182). -/
theorem State.judge_always {q : Req} (act : Verdict) (range : Bool) (h : q.always = true) :
    s.judge q true range act = if range = true then act else s.refuse .range := by
  cases range <;> simp [State.judge, State.accessRefusal, State.shutOut, h]

theorem State.admits_not_saving (h : s.admits = true) : s.saving = none := by
  simp only [State.admits, Bool.and_eq_true, Option.isNone_iff_eq_none] at h
  exact h.2

/-- A guarded request of a gate that admits it is judged by its length and its range alone (R182). -/
theorem State.judge_admitted (q : Req) (act : Verdict) (range : Bool) (h : s.admits = true) :
    s.judge q true range act = if range = true then act else s.refuse .range := by
  have refusal := State.accessRefusal_admits q h
  cases range <;> simp [State.judge, refusal, State.shutOut, State.admits_not_saving h]

@[simp] theorem State.hunt_admits (p : Port) : (s.hunt p).admits = s.admits := by cases p <;> rfl

/-- The answer to a request that changes nothing. -/
theorem State.mreply_refuse (res : Res) (code : Byte) :
    (s.refuse res).state.mreply src tag code (s.refuse res).res (s.refuse res).data = s.mreply src tag code res [] :=
  rfl

end Sys2Proof.Machine
end


section
/-! SUPPORT. The reads, the statistics, the settings and the access requests: statements that say the next state. -/

namespace Sys2Proof.Machine

variable {s : State} {src tag : Byte}

/-- A request answered as one verdict says. -/
theorem exec_of_verdict {i : Instr} (q : Req) {fields : List Byte} {v : Verdict} (h : s.managed src = true)
    (k : fields.length ≤ 31) (hi : exec i s = .next (s.manage src tag q.code fields))
    (hv : (s.hunt .c).request q fields = v) : exec i s = .next (v.state.mreply src tag q.code v.res v.data) := by
  rw [hi, State.manage_verdict q fields h k, hv]

/-- A request whose fields are of the right length, in an access state that admits it: RANGE outside its range. -/
theorem exec_of_judged {i : Instr} (q : Req) {fields : List Byte} {act : Verdict} {range : Bool}
    (h : s.managed src = true) (k : fields.length ≤ 31) (ha : q.always = true ∨ s.admits = true)
    (hi : exec i s = .next (s.manage src tag q.code fields))
    (hv : (s.hunt .c).request q fields = (s.hunt .c).judge q true range act) :
    exec i s
      = .next
          (if range = true then act.state.mreply src tag q.code act.res act.data
           else (s.hunt .c).mreply src tag q.code .range []) := by
  have judged : (s.hunt .c).judge q true range act = if range = true then act else (s.hunt .c).refuse .range := by
    rcases ha with ha | ha
    · exact State.judge_always act range ha
    · exact State.judge_admitted q act range (by simpa using ha)
  rw [exec_of_verdict q h k hi (hv.trans judged)]
  cases range <;> rfl

theorem State.hunt_named (p : Port) (a : Nat) : (s.hunt p).named a = s.named a := by cases p <;> rfl

/-! ## Reads -/

/-- Settles O49. -/
theorem readsAnswerData : Obligations.ReadsAnswerData := by
  intro src tag s h
  refine ⟨fun a part => ?station, fun i => ⟨?group, ?window, ?zone⟩, fun part first => ?scan, ?params, ?lost⟩
  case station =>
    have read := exec_of_judged (i := .readStation src tag [a, part]) .readStation h (by simp) (.inl rfl) rfl rfl
    refine ⟨fun ha hp => ?_, fun ha hp => ?_, fun hno => ?_⟩
    · rw [read, if_pos (by simpa [hp, State.hunt_named] using ha), if_pos hp]
      rfl
    · rw [read, if_pos (by simpa [hp, State.hunt_named] using ha), if_neg (by simp [hp])]
      exact congrArg _ (congrArg _ (by rw [← State.pol_hunt s .c]; rfl))
    · rw [read, if_neg]
      · rfl
      · have hno : ¬ ((s.named a.toNat && decide (part.toNat ≤ 1)) = true) := by
          rw [Bool.and_eq_true, decide_eq_true_eq]
          rcases hno with hno | hno
          · simp [hno]
          · omega
        exact hno
  case group =>
    rw [exec_of_judged (i := .readGroup src tag [i]) .readGroup h (by simp) (.inl rfl) rfl rfl]
    simp only [decide_eq_true_eq]
    rfl
  case window =>
    rw [exec_of_judged (i := .readWindow src tag [i]) .readWindow h (by simp) (.inl rfl) rfl rfl]
    simp only [decide_eq_true_eq]
    rfl
  case zone =>
    rw [exec_of_judged (i := .readZone src tag [i]) .readZone h (by simp) (.inl rfl) rfl rfl]
    have bytes : (s.hunt .c).zoneBytes i.toNat = [byte (s.zoneCfg i.toNat).warnTime, (s.zoneCfg i.toNat).pattern.code,
          flagByte (s.zone i.toNat).sounding.isSome]
        ++ be32 (match (s.zone i.toNat).sounding with
          | some y => y.ends - s.mono
          | none => 0)
        ++ be32 ((s.zone i.toNat).warnedUntil - s.mono) := by
      change [byte (s.zoneCfg i.toNat).warnTime, (s.zoneCfg i.toNat).pattern.code,
            flagByte (s.zone i.toNat).sounding.isSome]
          ++ be32 (((s.zone i.toNat).sounding.map (fun x => x.ends - s.now)).getD 0)
          ++ be32 ((s.zone i.toNat).warnedUntil - s.now) = _
      cases (s.zone i.toNat).sounding <;> rfl
    simp only [decide_eq_true_eq]
    refine congrArg Host.Outcome.next (ite_congr rfl (fun _ => ?_) fun _ => rfl)
    exact congrArg ((s.hunt .c).mreply src tag 0x32 .ok) bytes
  case scan =>
    rw [exec_of_judged (i := .readScanList src tag [part, first]) .readScanList h (by simp) (.inl rfl) rfl rfl]
    simp only [Bool.and_eq_true, decide_eq_true_eq]
    rfl
  case params =>
    rw [exec_of_judged (i := .readGateParameters src tag []) (range := true)
      (act := (s.hunt .c).reply (s.hunt .c).paramBytes) .readGateParameters h (by simp) (.inl rfl) rfl rfl]
    rfl
  case lost =>
    rw [exec_of_judged (i := .readLastLost src tag []) (range := true)
      (act := (s.hunt .c).reply (s.hunt .c).lostBytes) .readLastLost h (by simp) (.inl rfl) rfl rfl]
    rfl

end Sys2Proof.Machine
end


section
/-! SUPPORT. Table formats read back; statistics, settings, access and store requests. -/

namespace Sys2Proof

theorem byte_toNat_of_lt {n : Nat} (h : n < 256) : (byte n).toNat = n := by
  rw [byte_toNat, Nat.mod_eq_of_lt h]

/-- Two bytes of a field that fits them, as they stand in a run of bytes. -/
theorem beVal_pair {n : Nat} (h : n < 65536) : beVal [byte (n / 256), byte n] = n := beVal_be16 n h

namespace Machine

theorem StationClass.ofCode_code (c : StationClass) : StationClass.ofCode c.code = some c := by cases c <;> rfl

/-! ## Policies and groups (R68, R126, R183) -/

theorem Policy.ofBytes_bytes {p : Policy} (h : p.inRange = true) : Policy.ofBytes p.bytes = some p := by
  simp only [Policy.inRange, Bool.and_eq_true, decide_eq_true_eq, and_assoc] at h
  obtain ⟨zone, tIdle, busyLow, busyHigh, -, wBase, wSlope, drain, -, cPark, minRun, minOff, starts, -, stop, -, start,
    horizon, lead, weight, rated, limit⟩ := h
  have h1 := beVal_pair (n := p.tIdle) (by omega)
  have h2 := beVal_pair (n := p.tBusy) (by omega)
  have h3 := beVal_pair (n := p.cPark) (by omega)
  have h4 := beVal_pair (n := p.minRun) (by omega)
  have h5 := beVal_pair (n := p.minOff) (by omega)
  have h6 := beVal_pair (n := p.rated) (by omega)
  have k1 := byte_toNat_of_lt (n := p.zone) (by omega)
  have k2 := byte_toNat_of_lt (n := p.wBase) (by omega)
  have k3 := byte_toNat_of_lt (n := p.wSlope) (by omega)
  have k4 := byte_toNat_of_lt (n := p.drain) (by omega)
  have k5 := byte_toNat_of_lt (n := p.startsLimit) (by omega)
  have k6 := byte_toNat_of_lt (n := p.stopTimeout) (by omega)
  have k7 := byte_toNat_of_lt (n := p.startTimeout) (by omega)
  have k8 := byte_toNat_of_lt (n := p.parkHorizon) (by omega)
  have k9 := byte_toNat_of_lt (n := p.wakeLead) (by omega)
  have k10 := byte_toNat_of_lt (n := p.weight) (by omega)
  have k11 := byte_toNat_of_lt (n := p.failLimit) (by omega)
  simp only [Policy.bytes, be16, List.cons_append, List.nil_append, Policy.ofBytes, StationClass.ofCode_code,
    flagOf_flagByte, h1, h2, h3, h4, h5, h6, k1, k2, k3, k4, k5, k6, k7, k8, k9, k10, k11]

theorem length_eightSlots (as : List Nat) : (eightSlots as).length = 8 := by
  simp [eightSlots]

/-- The slots of at most eight addresses name them again (R183). -/
theorem namedSlots_eightSlots {as : List Nat} (hl : as.length ≤ 8) (ha : ∀ a ∈ as, a < 256) :
    namedSlots (byte as.length) (eightSlots as) = as := by
  have count : (byte as.length).toNat = as.length := byte_toNat_of_lt (by omega)
  unfold namedSlots eightSlots
  rw [count, if_pos hl, ← List.map_take, List.take_take, Nat.min_eq_left hl, List.take_left, List.map_map]
  conv_rhs => rw [← List.map_id as]
  exact List.map_congr_left fun a h => byte_toNat_of_lt (ha a h)

theorem State.goodList_iff (s : State) (as : List Nat) :
    s.goodList as = true ↔ 1 ≤ as.length ∧ as.length ≤ 8 ∧ (∀ a ∈ as, s.named a = true) ∧ distinct as = true := by
  simp [State.goodList, and_assoc]

theorem State.le_of_named {s : State} {a : Nat} (h : s.named a = true) : 1 ≤ a ∧ a ≤ 127 := by
  simp only [State.named, Bool.and_eq_true, decide_eq_true_eq] at h
  exact h.1

/-- A list in range reads back from its slots. -/
theorem State.namedSlots_of_good {s : State} {as : List Nat} (h : s.goodList as = true) :
    namedSlots (byte as.length) (eightSlots as) = as := by
  obtain ⟨-, hl, hn, -⟩ := (s.goodList_iff as).mp h
  refine namedSlots_eightSlots hl fun a ha => ?_
  have := (State.le_of_named (hn a ha)).2
  omega

theorem Group.ofFields_quorum (count k ref : Byte) (slots rest : List Byte) (h : slots.length = 8) :
    Group.ofFields 1 ([count] ++ slots ++ [k, ref] ++ rest)
      = some (.quorum (namedSlots count slots) k.toNat ref.toNat (beVal (rest.take 2))
          (beVal ((rest.drop 2).take 2))) := by
  have e : [count] ++ slots ++ [k, ref] ++ rest = count :: (slots ++ (k :: ref :: rest)) := by simp
  rw [e]
  unfold Group.ofFields
  simp [h, List.drop_append, List.getElem?_append_right, List.drop_eq_nil_of_le]

theorem Group.ofFields_support (m n : Byte) (ps qs : List Byte) (hp : ps.length = 8) (hq : qs.length = 8) :
    Group.ofFields 2 ([m] ++ ps ++ [n] ++ qs) = some (.support (namedSlots m ps) (namedSlots n qs)) := by
  have e : [m] ++ ps ++ [n] ++ qs = m :: (ps ++ (n :: qs)) := by simp
  rw [e]
  unfold Group.ofFields
  simp [hp, hq, List.drop_append, List.drop_eq_nil_of_le, List.take_of_length_le]

/-- Settles O50. -/
theorem tablesReadBackAsWritten : Obligations.TablesReadBackAsWritten := by
  refine ⟨fun p h => ⟨rfl, Policy.ofBytes_bytes h⟩, fun s g h hq => ?_⟩
  cases g with
  | empty => exact ⟨rfl, rfl⟩
  | quorum ms k ref lo hi =>
    obtain ⟨href, hlo, hhi⟩ := hq ms k ref lo hi rfl
    simp only [State.groupInRange, Bool.and_eq_true, decide_eq_true_eq] at h
    obtain ⟨⟨⟨good, hk⟩, -⟩, -⟩ := h
    obtain ⟨-, hl, -, -⟩ := (s.goodList_iff ms).mp good
    refine ⟨?_, ?_⟩
    · simp [groupLength, Group.kind, Group.fields, length_eightSlots, length_be16]
    · have e : (Group.quorum ms k ref lo hi).fields
          = [byte ms.length] ++ eightSlots ms ++ [byte k, byte ref] ++ (be16 lo ++ be16 hi) := by
        simp [Group.fields]
      have read := beVal_be16 lo (by omega)
      have read' := beVal_be16 hi (by omega)
      rw [e]
      change Group.ofFields 1 _ = _
      rw [Group.ofFields_quorum _ _ _ _ _ (length_eightSlots ms), State.namedSlots_of_good good,
        byte_toNat_of_lt (by omega), byte_toNat_of_lt (by omega)]
      exact congrArg some (congrArg₂ (Group.quorum ms k ref) read read')
  | support ps qs =>
    simp only [State.groupInRange, Bool.and_eq_true] at h
    obtain ⟨⟨goodP, goodQ⟩, -⟩ := h
    refine ⟨?_, ?_⟩
    · simp [groupLength, Group.kind, Group.fields, length_eightSlots]
    · change Group.ofFields 2 _ = _
      rw [show (Group.support ps qs).fields = [byte ps.length] ++ eightSlots ps ++ [byte qs.length] ++ eightSlots qs
        from rfl, Group.ofFields_support _ _ _ _ (length_eightSlots ps) (length_eightSlots qs),
        State.namedSlots_of_good goodP, State.namedSlots_of_good goodQ]

end Machine

end Sys2Proof
end


section
/-! SUPPORT. Statistics, settings, the access state, the store write and refused requests. -/

namespace Sys2Proof.Machine

open Station (BeliefKept)

variable {s : State} {src tag : Byte}

/-! ## Statistics (R99 to R105) -/

theorem satAdd_satAdd (max n a b : Nat) : satAdd max (satAdd max n a) b = satAdd max n (a + b) := by
  unfold satAdd
  omega

theorem Station.account_of_mark {r : Station} {m : Nat} (now rated : Nat) (h : r.parkMark = some m) :
    r.account now rated
      = { r with
          parkMark := some (m + 1000 * ((now - m) / 1000))
          stats :=
            { r.stats with
              parkedSeconds := satAdd Config.max32 r.stats.parkedSeconds ((now - m) / 1000)
              energy := satAdd Config.max48 r.stats.energy (rated * ((now - m) / 1000)) } } := by
  unfold Station.account
  rw [h]

theorem Station.account_of_no_mark {r : Station} (now rated : Nat) (h : r.parkMark = none) :
    r.account now rated = r := by
  unfold Station.account
  rw [h]

/-- An accounting taken on the way to a later one changes nothing in the sum (R100). -/
theorem Station.account_account {r : Station} {m t1 t2 : Nat} (rated : Nat) (h : r.parkMark = some m) (h1 : m ≤ t1)
    (h2 : t1 ≤ t2) : (r.account t1 rated).account t2 rated = r.account t2 rated := by
  have whole : (t1 - m) / 1000 + (t2 - (m + 1000 * ((t1 - m) / 1000))) / 1000 = (t2 - m) / 1000 := by omega
  have mark : m + 1000 * ((t1 - m) / 1000) + 1000 * ((t2 - (m + 1000 * ((t1 - m) / 1000))) / 1000)
      = m + 1000 * ((t2 - m) / 1000) := by omega
  rw [Station.account_of_mark t1 rated h, Station.account_of_mark t2 rated h,
    Station.account_of_mark (m := m + 1000 * ((t1 - m) / 1000)) t2 rated rfl]
  simp only [satAdd_satAdd, ← Nat.mul_add, whole, mark]

theorem statAddress_eq (a : Byte) : statAddress a = stationAddress a.toNat := rfl

/-- Settles O51. -/
theorem statisticsAreAccounted : Obligations.StatisticsAreAccounted := by
  refine ⟨fun src tag a s h => ?_, fun r now rated => ⟨fun m hm => ?_, fun hm => ?_⟩,
    fun r m t1 t2 rated hm h1 h2 => Station.account_account rated hm h1 h2⟩
  · have read := exec_of_judged (i := .readStatistics src tag [a]) .readStatistics h (by simp) (.inl rfl) rfl rfl
    have clear (hadm : s.admits = true) := exec_of_judged (i := .clearStatistics src tag [a]) .clearStatistics h
      (by simp) (.inr hadm) rfl rfl
    simp only [statAddress_eq, State.hunt_straps] at read clear
    refine ⟨fun ha => ?_, fun ha => ⟨fun own => ?_, fun other => ?_, fun hadm => ⟨fun own => ?_, fun other => ?_⟩⟩⟩
    · rw [read, if_neg (by simp [ha])]
      rfl
    · rw [read, if_pos ha, if_pos own]
      rfl
    · rw [read, if_pos ha, if_neg other]
      rfl
    · rw [clear hadm, if_pos ha, if_pos own]
      rfl
    · rw [clear hadm, if_pos ha, if_neg other]
      rfl
  · dsimp only
    rw [Station.account_of_mark now rated hm]
    exact ⟨rfl, rfl, rfl, rfl⟩
  · exact Station.account_of_no_mark now rated hm

/-! ## Settings (R148, R153, R186, R189) -/

theorem flagOf_eq_none {b : Byte} (h : 1 < b.toNat) : flagOf b = none := by
  unfold flagOf
  split
  · omega
  · omega
  · rfl

theorem flagOf_eq_some {b : Byte} (h : b.toNat ≤ 1) : flagOf b = some (decide (b = 1)) := by
  have hb : b = 0 ∨ b = 1 := by
    rcases Nat.le_one_iff_eq_zero_or_eq_one.mp h with k | k
    · exact .inl (BitVec.eq_of_toNat_eq k)
    · exact .inr (BitVec.eq_of_toNat_eq k)
  rcases hb with rfl | rfl <;> rfl

/-- What a write of the gate parameters leaves: the written tables, and what an admission pass and a grant keep. -/
theorem State.writeParams_granted (p : GateParams) :
    State.Granted { s with cfg := { s.cfg with params := p } } (s.writeParams p) := by
  unfold State.writeParams
  dsimp only
  split
  · exact (State.admissionPass_kept _).granted.trans (State.finish_granted _)
  · exact State.finish_granted _

theorem State.hunt_inrush (p : Port) : (s.hunt p).inrush = s.inrush := by cases p <;> rfl

theorem State.reqWriteZone_of_pattern {q : Pattern} {z w p : Byte} (h : Pattern.ofCode p = some q) :
    s.request .writeZone [z, w, p]
      = s.judge .writeZone true (z.toNat ≤ 7 && w.toNat ≤ 60) (s.setZoneCfg z.toNat ⟨w.toNat, q⟩).ok := by
  simp only [State.request, State.reqWriteZone, h]

theorem State.reqWriteGateParameters_of_flag {b l r k : Byte} (h : k.toNat ≤ 1) :
    s.request .writeGateParameters [b, l, r, k]
      = s.judge .writeGateParameters true (⟨b.toNat, l.toNat, r.toNat, decide (k = 1)⟩ : GateParams).inRange
          (if b.toNat < s.inrush then s.refuse .busy
           else (s.writeParams ⟨b.toNat, l.toNat, r.toNat, decide (k = 1)⟩).ok) := by
  simp only [State.request, State.reqWriteGateParameters, flagOf_eq_some h]

/-- The MREPLY of a request that keeps the C-port, the time and the straps. -/
theorem State.mreply_answeredWith {t : State} {code : Byte} {res : Res} {data : List Byte} (hc : t.cport = s.cport)
    (ha : t.answers = s.answers) (hm : t.lineTime = s.lineTime) (hs : t.straps = s.straps) :
    s.answeredWith (t.mreply src tag code res data)
      ⟨src, byte s.straps.addr, tag, .mreply ([code, res.code] ++ data)⟩ := by
  unfold State.mreply
  rw [hs]
  exact State.answeredWith_of hc ha hm hs

theorem State.Granted.lineTime {t : State} (h : s.Granted t) : t.lineTime = s.lineTime := by
  simp only [State.lineTime, h.mono, h.frac]

/-- Settles O57. -/
theorem settingsRequests : Obligations.SettingsRequests := by
  intro src tag s h
  refine ⟨fun hadm => ⟨fun z w p => ⟨fun hbad => ?zoneBad, fun q hq hz hw => ?zone⟩, fun b l r k => ?params⟩,
    fun m1 m0 => ?ack⟩
  case zoneBad =>
    cases hp : Pattern.ofCode p with
    | none =>
      rw [exec_of_judged (i := .writeZone src tag [z, w, p]) (range := false) (act := (s.hunt .c).ok) .writeZone h
        (by simp) (.inr hadm) rfl (by simp only [State.request, State.reqWriteZone, hp])]
      rfl
    | some q =>
      have out : ¬ (z.toNat ≤ 7 ∧ w.toNat ≤ 60) := by
        rcases hbad with hbad | hbad | hbad
        · simp [hp] at hbad
        · omega
        · omega
      rw [exec_of_judged (i := .writeZone src tag [z, w, p]) .writeZone h (by simp) (.inr hadm) rfl
        (State.reqWriteZone_of_pattern hp), if_neg (by simpa using out)]
      rfl
  case zone =>
    rw [exec_of_judged (i := .writeZone src tag [z, w, p]) .writeZone h (by simp) (.inr hadm) rfl
      (State.reqWriteZone_of_pattern hq), if_pos (by simp [hz, hw])]
    rfl
  case params =>
    have judged (hk : k.toNat ≤ 1) := exec_of_judged (i := .writeGateParameters src tag [b, l, r, k])
      .writeGateParameters h (by simp) (.inr hadm) rfl
      (State.reqWriteGateParameters_of_flag hk)
    simp only [State.hunt_inrush] at judged
    have range : (⟨b.toNat, l.toNat, r.toNat, decide (k = 1)⟩ : GateParams).inRange = true
        ↔ 1 ≤ b.toNat ∧ b.toNat ≤ 63 ∧ 1 ≤ l.toNat ∧ l.toNat ≤ 16 ∧ 5 ≤ r.toNat ∧ r.toNat ≤ 100 := by
      simp [GateParams.inRange, and_assoc]
    refine ⟨fun hout => ?_, fun hin hb => ?_, fun hin hb => ?_⟩
    · by_cases hk : k.toNat ≤ 1
      · rw [judged hk, if_neg (by rw [range]; omega)]
        rfl
      · rw [exec_of_judged (i := .writeGateParameters src tag [b, l, r, k]) (range := false) (act := (s.hunt .c).ok)
          .writeGateParameters h (by simp) (.inr hadm) rfl
          (by simp only [State.request, State.reqWriteGateParameters, flagOf_eq_none (Nat.lt_of_not_le hk)])]
        rfl
    · rw [judged hin.2.2.2.2.2.2, if_pos (range.mpr (by omega)), if_pos hb]
      rfl
    · have granted := State.writeParams_granted (s := s.hunt .c) ⟨b.toNat, l.toNat, r.toNat, decide (k = 1)⟩
      refine ⟨_, (judged hin.2.2.2.2.2.2).trans
        (by rw [if_pos (range.mpr (by omega)), if_neg (Nat.not_lt.mpr hb)]), ?_, fun a => ?_, ?_⟩
      · exact (State.answer_cfg _ _).trans granted.cfg
      · have kept := granted.st a
        rw [State.mreply, State.st_answer]
        exact ⟨kept.shadow, kept.hold, kept.credit⟩
      · exact State.mreply_answeredWith (s := s.hunt .c) granted.cport granted.answers granted.lineTime granted.straps
  case ack =>
    rw [exec_of_judged (i := .ackAttention src tag [m1, m0]) (range := true)
      (act := { s.hunt .c with flags := s.flags.acked (beVal [m1, m0]) }.ok) .ackAttention h (by simp) (.inl rfl) rfl
      rfl]
    rfl

end Sys2Proof.Machine
end


section
/-! SUPPORT. Refused guarded requests, and the access state, the store write and the warm-reset drain. -/

namespace Sys2Proof.Machine

variable {s : State} {src tag : Byte} {fields : List Byte} {q : Req} {i : Instr}

/-! ## Guarded requests (R181 to R183) -/

theorem exec_guarded (h : (q, i) ∈ guardedCommands src tag fields) :
    exec i s = .next (s.manage src tag q.code fields) ∧ q.always = false ∧ q ≠ .unlock := by
  simp only [guardedCommands, List.mem_cons, Prod.mk.injEq, List.not_mem_nil, or_false] at h
  rcases h with ⟨rfl, rfl⟩ | ⟨rfl, rfl⟩ | ⟨rfl, rfl⟩ | ⟨rfl, rfl⟩ | ⟨rfl, rfl⟩ | ⟨rfl, rfl⟩ | ⟨rfl, rfl⟩ | ⟨rfl, rfl⟩
    | ⟨rfl, rfl⟩ | ⟨rfl, rfl⟩ | ⟨rfl, rfl⟩ | ⟨rfl, rfl⟩ | ⟨rfl, rfl⟩ | ⟨rfl, rfl⟩ | ⟨rfl, rfl⟩ | ⟨rfl, rfl⟩ | ⟨rfl, rfl⟩
    | ⟨rfl, rfl⟩ <;> exact ⟨rfl, rfl, by decide⟩

/-- What is known of a guarded request's range when its length is right: a request without fields is in range, but
for SCAN START, and an index or a first position above 31 is not (R138, R175). -/
def rangeKnown (q : Req) (fields : List Byte) (range : Bool) : Prop :=
  (fields = [] → q ≠ .scanStart → guardedLength q fields = true → range = true)
  ∧ (q = .writeGroup → ∀ j bs, fields = j :: bs → 31 < j.toNat → range = false)
  ∧ (q = .writeScanList → ∀ len first bs, fields = 0 :: len :: first :: bs → 31 < first.toNat → range = false)

/-- A request that carries its length, its range and its effect to the checks. -/
def State.judgedBy (s : State) (q : Req) (fields : List Byte) : Prop :=
  ∃ range act, s.request q fields = s.judge q (guardedLength q fields) range act
    ∧ (guardedLength q fields = true → rangeKnown q fields range)

theorem rangeKnown_of_fields {range : Bool} (h : fields ≠ []) (hg : q ≠ .writeGroup) (hs : q ≠ .writeScanList) :
    rangeKnown q fields range := ⟨fun k => absurd k h, fun k => absurd k hg, fun k => absurd k hs⟩

theorem rangeKnown_of_in_range (hg : q ≠ .writeGroup) (hs : q ≠ .writeScanList) : rangeKnown q fields true :=
  ⟨fun _ _ _ => rfl, fun k => absurd k hg, fun k => absurd k hs⟩

/-- A length outside the request's: the range does not matter. -/
theorem State.judgedBy_of_length (hv : s.request q fields = s.judge q false true s.ok)
    (hl : guardedLength q fields = false) : s.judgedBy q fields :=
  ⟨true, s.ok, by rw [hv, hl], fun k => absurd k (by simp [hl])⟩

theorem Policy.length_of_ofBytes {bs : List Byte} {p : Policy} (h : Policy.ofBytes bs = some p) : bs.length = 27 := by
  unfold Policy.ofBytes at h
  split at h
  · rfl
  · cases h

theorem State.writeStationPolicy_judgedBy : s.judgedBy .writeStationPolicy fields := by
  cases fields with
  | nil => exact State.judgedBy_of_length rfl rfl
  | cons a body =>
    have len : guardedLength .writeStationPolicy (a :: body) = decide (body.length = 27) := by
      simp [guardedLength]
    cases hp : Policy.ofBytes body with
    | none =>
      exact ⟨false, s.ok, by simp only [State.request, State.reqWriteStationPolicy, hp, len],
        fun _ => rangeKnown_of_fields (by simp) (by decide) (by decide)⟩
    | some p =>
      have full : decide (body.length = 27) = true := by simpa using Policy.length_of_ofBytes hp
      exact ⟨_, _, by simp only [State.request, State.reqWriteStationPolicy, hp, len, full]; rfl,
        fun _ => rangeKnown_of_fields (by simp) (by decide) (by decide)⟩

theorem State.writeGroup_judgedBy : s.judgedBy .writeGroup fields := by
  match fields with
  | [] => exact State.judgedBy_of_length rfl rfl
  | [_] => exact State.judgedBy_of_length rfl rfl
  | j :: kind :: bs =>
    have len : guardedLength .writeGroup (j :: kind :: bs) = groupLength kind bs.length := rfl
    cases hg : Group.ofFields kind bs with
    | none =>
      exact ⟨false, s.ok, by simp only [State.request, State.reqWriteGroup, hg, len],
        fun _ => ⟨fun k => (by simp at k), fun _ _ _ _ _ => rfl, fun k => absurd k (by decide)⟩⟩
    | some g =>
      refine ⟨j.toNat ≤ 31 && s.groupInRange g, _, by simp only [State.request, State.reqWriteGroup, hg, len]; rfl,
        fun _ => ⟨fun k => (by simp at k), fun _ m bs e hm => ?_, fun k => absurd k (by decide)⟩⟩
      obtain ⟨rfl, -⟩ := List.cons.inj e
      simp [Nat.not_le.mpr hm]

/-- The list form (R183): its length is its count's. -/
theorem State.scanListForm_judgedBy {form : Byte} {rest : List Byte} (hf : form.toNat = 0) :
    s.judgedBy .writeScanList (form :: rest) := by
  have req : s.request .writeScanList (form :: rest) = s.scanListForm rest := by
    simp [State.request, State.reqWriteScanList, hf]
  have len : guardedLength .writeScanList (form :: rest)
      = (decide (3 ≤ rest.length) && decide (rest.length = 3 + (rest.getD 2 0).toNat)) := by
    simp [guardedLength, hf]
  match rest with
  | [] => exact State.judgedBy_of_length req len
  | [_] => exact State.judgedBy_of_length req len
  | [_, _] => exact State.judgedBy_of_length req len
  | n :: first :: count :: run =>
    have len : guardedLength .writeScanList (form :: n :: first :: count :: run)
        = decide (run.length = count.toNat) := by
      rw [len]
      simp [Nat.add_comm 3]
    refine ⟨_, _, by rw [req, len]; rfl, fun _ => ⟨fun k => (by simp at k), fun k => absurd k (by decide),
      fun _ n' first' bs e hfirst => ?_⟩⟩
    obtain ⟨-, -, rfl, -⟩ : form = 0 ∧ n = n' ∧ first = first' ∧ count :: run = bs := by simpa using e
    simp [Nat.not_le.mpr hfirst]

/-- The parameter form (R183): eight bytes. -/
theorem State.scanParamForm_judgedBy {form : Byte} {rest : List Byte} (hf : form.toNat = 1) :
    s.judgedBy .writeScanList (form :: rest) := by
  have req : s.request .writeScanList (form :: rest) = s.scanParamForm rest := by
    simp [State.request, State.reqWriteScanList, hf]
  have len : guardedLength .writeScanList (form :: rest) = decide (rest.length = 8) := by
    simp [guardedLength, hf]
  have known (range : Bool) : rangeKnown .writeScanList (form :: rest) range := by
    refine ⟨fun k => (by simp at k), fun k => absurd k (by decide), fun _ n first bs e => ?_⟩
    obtain ⟨rfl, -⟩ := List.cons.inj e
    cases hf
  by_cases hl : rest.length = 8
  · obtain ⟨m, st, sp1, sp0, pe1, pe0, fresh, auto, rfl⟩ : ∃ a b c d e f g h, rest = [a, b, c, d, e, f, g, h] := by
      match rest, hl with
      | [a, b, c, d, e, f, g, h], _ => exact ⟨a, b, c, d, e, f, g, h, rfl⟩
    unfold State.judgedBy
    rw [req, len]
    cases hm : ScanMode.ofCode m with
    | none => exact ⟨false, s.ok, by simp only [State.scanParamForm, hm]; rfl, fun _ => known _⟩
    | some mode =>
      cases ha : flagOf auto with
      | none => exact ⟨false, s.ok, by simp only [State.scanParamForm, hm, ha]; rfl, fun _ => known _⟩
      | some b => exact ⟨_, _, by simp only [State.scanParamForm, hm, ha]; rfl, fun _ => known _⟩
  · refine State.judgedBy_of_length ?_ (len.trans (decide_eq_false hl))
    rw [req]
    unfold State.scanParamForm
    split
    · exact absurd rfl hl
    · rfl

/-- A form outside the two (log 16). -/
theorem State.scanOtherForm_judgedBy {form : Byte} {rest : List Byte} (h0 : form.toNat ≠ 0) (h1 : form.toNat ≠ 1) :
    s.judgedBy .writeScanList (form :: rest) := by
  refine ⟨false, s.ok, ?_, fun _ => ⟨fun k => (by simp at k), fun k => absurd k (by decide), fun _ _ _ _ _ _ => rfl⟩⟩
  simp only [State.request, State.reqWriteScanList, guardedLength]

theorem State.writeScanList_judgedBy : s.judgedBy .writeScanList fields := by
  cases fields with
  | nil => exact State.judgedBy_of_length rfl rfl
  | cons form rest =>
    by_cases h0 : form.toNat = 0
    · exact State.scanListForm_judgedBy h0
    · by_cases h1 : form.toNat = 1
      · exact State.scanParamForm_judgedBy h1
      · exact State.scanOtherForm_judgedBy h0 h1

/-- A request of one field (R183). -/
theorem State.oneField_judgedBy (range : Byte → Bool) (act : Byte → Verdict)
    (hreq : ∀ a, s.request q [a] = s.judge q true (range a) (act a))
    (hnil : s.request q [] = s.judge q false true s.ok)
    (hmore : ∀ a b l, s.request q (a :: b :: l) = s.judge q false true s.ok)
    (hlen : ∀ l, guardedLength q l = decide (l.length = 1)) (hg : q ≠ .writeGroup) (hs : q ≠ .writeScanList) :
    s.judgedBy q fields := by
  match fields with
  | [] => exact State.judgedBy_of_length hnil (hlen _)
  | [a] => exact ⟨range a, act a, by rw [hreq, hlen]; rfl, fun _ => rangeKnown_of_fields (by simp) hg hs⟩
  | a :: b :: l => exact State.judgedBy_of_length (hmore a b l) (by rw [hlen]; simp)

/-- A request without fields (R183). -/
theorem State.noField_judgedBy (range : Bool) (act : Verdict) (hreq : s.request q [] = s.judge q true range act)
    (hmore : ∀ a l, s.request q (a :: l) = s.judge q false true s.ok)
    (hlen : ∀ l, guardedLength q l = decide (l.length = 0)) (hg : q ≠ .writeGroup) (hs : q ≠ .writeScanList)
    (hr : q ≠ .scanStart → range = true) : s.judgedBy q fields := by
  cases fields with
  | nil =>
    exact ⟨range, act, by rw [hreq, hlen]; rfl,
      fun _ => ⟨fun _ k _ => hr k, fun k => absurd k hg, fun k => absurd k hs⟩⟩
  | cons a l => exact State.judgedBy_of_length (hmore a l) (by rw [hlen]; rfl)

theorem State.writeWindow_judgedBy : s.judgedBy .writeWindow fields := by
  by_cases hl : fields.length = 7
  · match fields, hl with
    | [i, zm, dm, o1, o0, c1, c0], _ =>
      exact ⟨_, _, rfl, fun _ => rangeKnown_of_fields (by simp) (by decide) (by decide)⟩
  · refine State.judgedBy_of_length ?_ (decide_eq_false hl)
    simp only [State.request]
    unfold State.reqWriteWindow
    split
    · exact absurd rfl hl
    · rfl

theorem State.writeZone_judgedBy : s.judgedBy .writeZone fields := by
  by_cases hl : fields.length = 3
  · match fields, hl with
    | [z, w, p], _ =>
      cases hp : Pattern.ofCode p with
      | none =>
        exact ⟨false, s.ok, by simp only [State.request, State.reqWriteZone, hp]; rfl,
          fun _ => rangeKnown_of_fields (by simp) (by decide) (by decide)⟩
      | some x =>
        exact ⟨_, _, State.reqWriteZone_of_pattern hp,
          fun _ => rangeKnown_of_fields (by simp) (by decide) (by decide)⟩
  · refine State.judgedBy_of_length ?_ (decide_eq_false hl)
    simp only [State.request]
    unfold State.reqWriteZone
    split
    · exact absurd rfl hl
    · rfl

theorem State.setClock_judgedBy : s.judgedBy .setClock fields := by
  by_cases hl : fields.length = 4
  · match fields, hl with
    | [b3, b2, b1, b0], _ =>
      exact ⟨_, _, rfl, fun _ => rangeKnown_of_fields (by simp) (by decide) (by decide)⟩
  · refine State.judgedBy_of_length ?_ (decide_eq_false hl)
    simp only [State.request]
    unfold State.reqSetClock
    split
    · exact absurd rfl hl
    · rfl

theorem State.writeGateParameters_judgedBy : s.judgedBy .writeGateParameters fields := by
  by_cases hl : fields.length = 4
  · match fields, hl with
    | [b, l, r, k], _ =>
      cases hk : flagOf k with
      | none =>
        exact ⟨false, s.ok, by simp only [State.request, State.reqWriteGateParameters, hk]; rfl,
          fun _ => rangeKnown_of_fields (by simp) (by decide) (by decide)⟩
      | some take =>
        exact ⟨_, _, by simp only [State.request, State.reqWriteGateParameters, hk]; rfl,
          fun _ => rangeKnown_of_fields (by simp) (by decide) (by decide)⟩
  · refine State.judgedBy_of_length ?_ (decide_eq_false hl)
    simp only [State.request]
    unfold State.reqWriteGateParameters
    split
    · exact absurd rfl hl
    · rfl

/-- Every guarded request is judged by its length (R183) and its range. -/
theorem State.guarded_judgedBy (h : (q, i) ∈ guardedCommands src tag fields) (s : State) : s.judgedBy q fields := by
  simp only [guardedCommands, List.mem_cons, Prod.mk.injEq, List.not_mem_nil, or_false] at h
  rcases h with ⟨rfl, -⟩ | ⟨rfl, -⟩ | ⟨rfl, -⟩ | ⟨rfl, -⟩ | ⟨rfl, -⟩ | ⟨rfl, -⟩ | ⟨rfl, -⟩ | ⟨rfl, -⟩ | ⟨rfl, -⟩
    | ⟨rfl, -⟩ | ⟨rfl, -⟩ | ⟨rfl, -⟩ | ⟨rfl, -⟩ | ⟨rfl, -⟩ | ⟨rfl, -⟩ | ⟨rfl, -⟩ | ⟨rfl, -⟩ | ⟨rfl, -⟩
  · exact State.writeStationPolicy_judgedBy
  · exact State.oneField_judgedBy _ _ (fun _ => rfl) rfl (fun _ _ _ => rfl) (fun _ => rfl) (by decide) (by decide)
  · exact State.oneField_judgedBy _ _ (fun _ => rfl) rfl (fun _ _ _ => rfl) (fun _ => rfl) (by decide) (by decide)
  · exact State.oneField_judgedBy _ _ (fun _ => rfl) rfl (fun _ _ _ => rfl) (fun _ => rfl) (by decide) (by decide)
  · exact State.oneField_judgedBy _ _ (fun _ => rfl) rfl (fun _ _ _ => rfl) (fun _ => rfl) (by decide) (by decide)
  · exact State.writeGroup_judgedBy
  · exact State.writeWindow_judgedBy
  · exact State.writeZone_judgedBy
  · exact State.setClock_judgedBy
  · exact State.oneField_judgedBy _ _ (fun _ => rfl) rfl (fun _ _ _ => rfl) (fun _ => rfl) (by decide) (by decide)
  · exact State.oneField_judgedBy (fun _ => true) _ (fun _ => rfl) rfl (fun _ _ _ => rfl) (fun _ => rfl) (by decide)
      (by decide)
  · exact State.writeScanList_judgedBy
  · exact State.noField_judgedBy _ _ rfl (fun _ _ => rfl) (fun _ => rfl) (by decide) (by decide)
      (fun k => absurd rfl k)
  · exact State.writeGateParameters_judgedBy
  · exact State.noField_judgedBy true _ rfl (fun _ _ => rfl) (fun _ => rfl) (by decide) (by decide) (fun _ => rfl)
  · exact ⟨true, _, rfl, fun k => ⟨fun e => (by subst e; cases k), fun k => absurd k (by decide),
      fun k => absurd k (by decide)⟩⟩
  · exact State.noField_judgedBy true _ rfl (fun _ _ => rfl) (fun _ => rfl) (by decide) (by decide) (fun _ => rfl)
  · exact State.noField_judgedBy true _ rfl (fun _ _ => rfl) (fun _ => rfl) (by decide) (by decide) (fun _ => rfl)

theorem State.judge_of_length (q : Req) (range : Bool) (act : Verdict) :
    s.judge q false range act = s.refuse .badLength := rfl

/-- A guarded request past its length check, in the access states that shut it out (R182, R187). -/
theorem State.accessRefusal_guarded (hq : q.always = false) (hu : q ≠ .unlock) :
    (s.access = .frozen → s.accessRefusal q = some .frozen)
      ∧ (s.access = .locked → s.accessRefusal q = some .access)
      ∧ (s.access = .isOpen ∨ s.access = .unlocked → s.accessRefusal q = none) := by
  refine ⟨fun h => ?_, fun h => ?_, fun h => ?_⟩
  · simp [State.accessRefusal, hq, h]
  · simp [State.accessRefusal, hq, h, hu]
  · rcases h with h | h <;> simp [State.accessRefusal, hq, h]

theorem State.judge_refused {res : Res} (range : Bool) (act : Verdict) (h : s.accessRefusal q = some res) :
    s.judge q true range act = s.refuse res := by
  simp [State.judge, h]

/-- During a SAVE a guarded request is refused with BUSY when it is in range or judged BUSY first, and with RANGE
otherwise (R181, R182). -/
theorem State.judge_saving (range : Bool) (act : Verdict) (hq : q.always = false) (ha : s.accessRefusal q = none)
    (hs : s.saving.isSome = true) :
    s.judge q true range act = s.refuse (if range = true ∨ q.saveFirst = true then .busy else .range) := by
  have shut : s.shutOut q = true := by simp [State.shutOut, hq, hs]
  cases range
  · rw [State.judge_range_in_save q act ha shut]
    simp
  · rw [State.judge_busy q act true ha shut (.inr rfl)]
    simp

/-- Settles O60. -/
theorem guardedRequestsRefused : Obligations.GuardedRequestsRefused := by
  refine ⟨fun src tag fields s q i h hl hi => ?guarded, fun src tag code s h hl => ?unlock⟩
  case guarded =>
    obtain ⟨run, hq, hu⟩ := exec_guarded (s := s) hi
    obtain ⟨range, act, req, known⟩ := State.guarded_judgedBy hi (s.hunt .c)
    obtain ⟨frozen, locked, passed⟩ := State.accessRefusal_guarded (s := s.hunt .c) hq hu
    have refused {res : Res} (hv : (s.hunt .c).request q fields = (s.hunt .c).refuse res) :
        exec i s = .next ((s.hunt .c).mreply src tag q.code res []) := exec_of_verdict q h hl run hv
    refine ⟨fun hlen => ?_, fun hlen => ⟨fun ha => ?_, fun ha => ?_, fun ha hs => ?_⟩⟩
    · exact refused (by rw [req, hlen, State.judge_of_length])
    · exact refused (by rw [req, hlen, State.judge_refused range act (frozen ha)])
    · exact refused (by rw [req, hlen, State.judge_refused range act (locked ha)])
    · obtain ⟨bare, group, scan⟩ := known hlen
      have verdict : (s.hunt .c).request q fields
          = (s.hunt .c).refuse (if range = true ∨ q.saveFirst = true then .busy else .range) := by
        rw [req, hlen, State.judge_saving range act hq (passed ha) hs]
      refine ⟨?_, fun hf => ?_, fun hg => ⟨fun first => ?_, fun j bs e hj => ?_⟩,
        fun hg => ⟨fun first => ?_, fun len pos bs e hj => ?_⟩⟩
      · by_cases hb : range = true ∨ q.saveFirst = true
        · exact .inr (refused (by rw [verdict, if_pos hb]))
        · exact .inl (refused (by rw [verdict, if_neg hb]))
      · exact refused (by rw [verdict, if_pos (.inl (bare hf.1 hf.2 hlen))])
      · subst hg
        exact refused (by rw [verdict, if_pos (.inr first)])
      · have out := group hg j bs e hj
        subst hg
        exact refused (by rw [verdict, out]; simp [Req.saveFirst])
      · subst hg
        exact refused (by rw [verdict, if_pos (.inr first)])
      · have out := scan hg len pos bs e hj
        subst hg
        exact refused (by rw [verdict, out]; simp [Req.saveFirst])
  case unlock =>
    have refused {res : Res} (hv : (s.hunt .c).request .unlock code = (s.hunt .c).refuse res) :
        exec (.unlock src tag code) s = .next ((s.hunt .c).mreply src tag 0x60 res []) :=
      exec_of_verdict .unlock h hl rfl hv
    refine ⟨fun hc => refused ?_, fun hc => ⟨fun ha => refused ?_, fun ha hs => refused ?_⟩⟩
    · simp [State.request, State.reqUnlock, hc, State.judge_of_length]
    · have refusal : (s.hunt .c).accessRefusal .unlock = some .frozen := by
        simp [State.accessRefusal, Req.always, ha]
      simp [State.request, State.reqUnlock, hc, State.judge_refused _ _ refusal]
    · have refusal : (s.hunt .c).accessRefusal .unlock = none := by
        cases hx : s.access <;> simp_all [State.accessRefusal, Req.always]
      simp only [State.request, State.reqUnlock, hc, decide_true]
      rw [State.judge_saving true _ rfl refusal hs]
      simp

end Sys2Proof.Machine
end


section
/-! SUPPORT. The access state, the store write and the warm-reset drain; results uncollected, locks and follow-ups. -/

namespace Sys2Proof.Machine

variable {s : State} {src tag : Byte}

/-! ## UNLOCK, LOCK, SET ACCESS CODE, FREEZE, SAVE, WARM RESET (R187, R190, R192) -/

/-- UNLOCK past the checks of length, access and SAVE. -/
theorem State.request_unlock {code : List Byte} (hl : code.length = 16) (hs : s.saving = none)
    (ha : s.access ≠ .frozen) : s.request .unlock code = s.tryUnlock code := by
  have refusal : s.accessRefusal .unlock = none := by
    cases hx : s.access <;> simp_all [State.accessRefusal, Req.always]
  simp only [State.request, State.reqUnlock, hl, decide_true]
  exact State.judge_pass _ _ refusal (.inr (by simp [hs]))

theorem State.tryUnlock_of_not_locked {code : List Byte} (h : s.access ≠ .locked) : s.tryUnlock code = s.ok := if_neg h

theorem State.tryUnlock_of_locked {code : List Byte} (h : s.access = .locked) :
    s.tryUnlock code
      = if code = s.cfg.code then { s with access := .unlocked, unlocks := 4 }.ok
        else
          { s with
            unlocks := s.unlocks - 1
            access := if s.unlocks - 1 = 0 then .frozen else .locked }.refuse .badCode := if_pos h

theorem exec_storeCompletion (ok : Bool) (h : s.online = true) :
    exec (.storeCompletion ok) s = .next (s.storeDone ok) := congrArg _ (State.whenOnline_of_online _ h)

/-- Settles O59. -/
theorem accessSaveAndWarmReset : Obligations.AccessSaveAndWarmReset := by
  refine ⟨fun src tag s h => ⟨fun code hl hs => ?unlock, ?freeze, fun hadm => ?guarded⟩, fun ok s hon => ?store⟩
  case unlock =>
    have run {v : Verdict} (hv : (s.hunt .c).request .unlock code = v) :
        exec (.unlock src tag code) s = .next (v.state.mreply src tag 0x60 v.res v.data) :=
      exec_of_verdict .unlock h (by omega) rfl hv
    have past (ha : s.access ≠ .frozen) : (s.hunt .c).request .unlock code = (s.hunt .c).tryUnlock code :=
      State.request_unlock hl (by simpa using hs) (by simpa using ha)
    refine ⟨fun ha => ?_, fun ha => ?_, fun ha hc => ?_, fun ha hc => ?_⟩
    · have open_ : s.access ≠ .frozen ∧ s.access ≠ .locked := by rcases ha with ha | ha <;> simp [ha]
      rw [run ((past open_.1).trans (State.tryUnlock_of_not_locked (by simpa using open_.2)))]
      rfl
    · have refusal : (s.hunt .c).accessRefusal .unlock = some .frozen := by
        simp [State.accessRefusal, Req.always, ha]
      have refused : (s.hunt .c).request .unlock code = (s.hunt .c).refuse .frozen := by
        simp [State.request, State.reqUnlock, hl, State.judge_refused _ _ refusal]
      rw [run refused]
      rfl
    · rw [run ((past (by simp [ha])).trans (State.tryUnlock_of_locked (by simpa using ha))), if_pos (by simpa using hc)]
      rfl
    · rw [run ((past (by simp [ha])).trans (State.tryUnlock_of_locked (by simpa using ha))), if_neg (by simpa using hc)]
      rfl
  case freeze =>
    rw [exec_of_judged (i := .freeze src tag []) (range := true) (act := { s.hunt .c with access := .frozen }.ok)
      .freeze h (by simp) (.inl rfl) rfl rfl]
    rfl
  case guarded =>
    refine ⟨?lock, fun code hl => ?code, ?save, ?warm⟩
    case lock =>
      rw [exec_of_judged (i := .lock src tag []) (range := true)
        (act := (if (s.hunt .c).access = .unlocked then { s.hunt .c with access := .locked } else s.hunt .c).ok)
        .lock h (by simp) (.inr hadm) rfl rfl, if_pos rfl, State.hunt_access]
      by_cases ha : s.access = .unlocked
      · rw [if_pos ha, if_pos ha]
        rfl
      · rw [if_neg ha, if_neg ha]
        rfl
    case code =>
      have judged : (s.hunt .c).request .setAccessCode code
          = (s.hunt .c).judge .setAccessCode true true ((s.hunt .c).setCode code).ok := by
        simp [State.request, State.reqSetAccessCode, hl]
      rw [exec_of_judged (i := .setAccessCode src tag code) .setAccessCode h (by omega) (.inr hadm) rfl judged]
      rfl
    case save =>
      rw [exec_of_judged (i := .save src tag []) (range := true)
        (act := ⟨{ s.hunt .c with saving := some (s.hunt .c).imageNow, imageValid := false }, .accepted, []⟩)
        .save h (by simp) (.inr hadm) rfl rfl]
      rfl
    case warm =>
      rw [exec_of_judged (i := .warmReset src tag []) (range := true)
        (act := ⟨{ s.hunt .c with drain := .running false }, .accepted, []⟩) .warmReset h (by simp) (.inr hadm) rfl rfl]
      rfl
  case store =>
    rw [exec_storeCompletion ok hon]
    refine ⟨fun hs => ?_, fun x hs => ?_⟩
    · simp [State.storeDone, hs]
    · cases ok <;> simp only [State.storeDone, hs] <;> rfl

/-! ## Results uncollected (R41) -/

theorem exec_delayedDiscard (k : DelayKey) (h : s.online = true) :
    exec (.delayedDiscard k) s = .next (s.discardDelayed k) := congrArg _ (State.whenOnline_of_online _ h)

theorem State.discardDelayed_of_done {k : DelayKey} {d : Delayed} {r : Result} {t : Nat}
    (hd : s.findDelayed k = some d) (hst : d.st = .done r t) :
    s.discardDelayed k
      = if t + 2000 ≤ s.mono then
          (s.freeDelayed k).countFwd fun c => { c with delayedDiscard := satAdd Config.max16 c.delayedDiscard 1 }
        else s := by
  obtain ⟨key, src, payload, st, alloc, seq⟩ := d
  cases hst
  unfold State.discardDelayed
  rw [hd]
  rfl

/-- Settles O28. -/
theorem uncollectedResultIsDiscarded : Obligations.UncollectedResultIsDiscarded := by
  intro k s d res t hon hd hst
  rw [exec_delayedDiscard k hon, State.discardDelayed_of_done hd hst]
  refine ⟨fun ht => ?_, fun ht => ?_⟩
  · rw [if_pos ht]
    rfl
  · rw [if_neg (Nat.not_le.mpr ht)]

/-! ## Locks and follow-ups (R27, R58) -/

theorem exec_lockExpiry (a : Nat) (h : s.online = true) :
    exec (.lockExpiry a) s = .next (if s.reached (s.st a).lock then s.closeLock a else s) :=
  congrArg _ (State.whenOnline_of_online _ h)

theorem exec_followUpDue (a : Nat) (h : s.online = true) :
    exec (.followUpDue a) s = .next (if (s.followUpTime a).isSome then s.finish else s) :=
  congrArg _ (State.whenOnline_of_online _ h)

theorem State.Granted.settingsKept {t : State} (h : s.Granted t) : s.settingsKept t :=
  ⟨h.cfg, h.access, h.unlocks, h.image, h.imageValid, h.saving, h.straps, h.mono, h.frac, h.online, h.pending⟩

theorem State.Kept.settingsKept {R : Station → Station → Prop} {t : State} (h : s.Kept R t) : s.settingsKept t :=
  ⟨h.cfg, h.access, h.unlocks, h.image, h.imageValid, h.saving, h.straps, h.mono, h.frac, h.online, h.pending⟩

theorem State.settingsKept.trans {t u : State} (h : s.settingsKept t) (k : t.settingsKept u) : s.settingsKept u := by
  obtain ⟨h1, h2, h3, h4, h5, h6, h7, h8, h9, h10, h11⟩ := h
  obtain ⟨k1, k2, k3, k4, k5, k6, k7, k8, k9, k10, k11⟩ := k
  exact ⟨k1.trans h1, k2.trans h2, k3.trans h3, k4.trans h4, k5.trans h5, k6.trans h6, k7.trans h7, k8.trans h8,
    k9.trans h9, k10.trans h10, k11.trans h11⟩

theorem hasRecord_of_lock {a e : Nat} (h : (s.st a).lock = some e) : hasRecord a := by
  by_contra hn
  rw [State.st_none s a hn] at h
  cases h

/-- No mode check at a station in the gate's hands (R174). -/
theorem State.anyHeld_of_held {a : Nat} (h : s.held a = true) : s.anyHeld = true := by
  have rec_ : hasRecord a := hasRecord_of_state s a fun k => by
    simp [State.held, k, StState.gateHeld] at h
  exact List.any_eq_true.mpr ⟨a, (mem_addresses a).mpr rec_, h⟩

theorem State.modeCheck_of_held {a : Nat} (h : s.held a = true) : s.modeCheck = s := by
  unfold State.modeCheck
  rw [if_neg]
  rw [State.anyHeld_of_held h]
  simp

theorem State.finish_of_busy (h : s.master.st ≠ .idle) : s.finish = s.modeCheck := by
  have master : s.modeCheck.master = s.master := by
    unfold State.modeCheck
    split <;> rfl
  unfold State.finish
  dsimp only
  rw [if_neg]
  simp [State.mayGrant, master, h]

theorem State.held_of_followUp {a : Nat} (h : (s.inPhase a .parking .coast || s.inPhase a .waking .settle) = true) :
    s.held a = true := by
  simp only [State.inPhase, Bool.or_eq_true, Bool.and_eq_true, decide_eq_true_eq] at h
  rcases h with ⟨h, -⟩ | ⟨h, -⟩ <;> simp [State.held, h, StState.gateHeld]

/-- The end of a step whose arbitration grants a request of class G that is none of the park queue's. -/
theorem State.finish_of_request {a b : Nat} {q : GateReq} (hon : s.online = true) (hm : s.master.st = .idle)
    (hheld : s.held b = true) (h : s.arbitration = some (.g (.request a q))) :
    s.finish = s.startOwn .g (.gate a q) a q.body := by
  unfold State.finish
  dsimp only
  rw [State.modeCheck_of_held hheld, if_pos (by simp [State.mayGrant, hon, hm])]
  unfold State.arbitrate
  rw [h]

/-- The master and the rest of the state after a frame of the gate's own is offered to the F-port (R55, R60). -/
theorem State.offer_field_eq (f : Frame) : s.offer .f f = { s with fport := (s.offer .f f).fport } := by
  unfold State.offer
  dsimp only
  split <;> rfl

theorem State.startExchange_eq (x : Exchange) :
    s.startExchange x
      = { s with
          master := { s.master.passed x.cls with st := .sending x }
          fport := (s.startExchange x).fport } := by
  unfold State.startExchange
  rw [State.offer_field_eq]
  rfl

theorem State.startOwn_eq (c : ReqClass) (q : ReqRef) (a : Nat) (b : Body) :
    s.startOwn c q a b
      = { s with
          master :=
            { ({ s.master with gateTag := s.master.gateTag + 1 } : Master).passed c with
              st := .sending ⟨c, q, ⟨byte a, byte s.straps.addr, s.master.gateTag, b⟩⟩ }
          fport := (s.startOwn c q a b).fport } := by
  unfold State.startOwn
  dsimp only
  rw [State.startExchange_eq]
  rfl

theorem State.followUpTime_isSome {a n : Nat}
    (hph : (s.inPhase a .parking .coast || s.inPhase a .waking .settle) = true)
    (hn : (s.st a).nextFollowUp = some n) : (s.followUpTime a).isSome = true ↔ n ≤ s.mono := by
  rw [State.followUpTime, if_pos hph, hn]
  change (Option.filter (fun t => decide (t ≤ s.mono)) (some n)).isSome = true ↔ _
  by_cases h : n ≤ s.mono <;> simp [Option.filter, h]

/-- Settles O43. -/
theorem lockAndFollowUpTimes : Obligations.LockAndFollowUpTimes := by
  intro a s hon
  refine ⟨fun e he => ⟨fun hsoon => ?early, fun hover => ?closed⟩, fun n hph hn => ⟨fun hsoon => ?before, fun hover =>
    ⟨fun hm => ?busy, fun hm harb => ?granted⟩⟩, fun hph => ?elsewhere⟩
  case early =>
    rw [exec_lockExpiry a hon, if_neg]
    rw [State.reached_iff, he]
    rintro ⟨m, hm, hle⟩
    cases hm
    omega
  case closed =>
    have record := hasRecord_of_lock he
    have closed : (s.modSt a fun r => { r with lock := none }).st a = { s.st a with lock := none } :=
      s.st_modSt_self a _ record
    have granted := (s.modSt a fun r => { r with lock := none }).finish_granted
    refine ⟨s.closeLock a, ?_, ?_, fun b hb => ?_, fun b => ?_, ?_, ?_⟩
    · rw [exec_lockExpiry a hon, if_pos ((s.reached_iff _).mpr ⟨e, he, hover⟩)]
    · rw [State.closeLock, (granted.st a).lock, closed]
    · rw [State.closeLock, (granted.st b).lock, s.st_modSt_other a b _ hb]
    · have kept := granted.st b
      rw [State.closeLock, kept.shadow, kept.hold, kept.credit]
      by_cases hb : b = a
      · subst hb
        rw [closed]
        exact ⟨rfl, rfl, rfl⟩
      · rw [s.st_modSt_other a b _ hb]
        exact ⟨rfl, rfl, rfl⟩
    · exact granted.cport.trans (by simp)
    · refine State.settingsKept.trans ?_ granted.settingsKept
      exact ⟨by simp, by simp, by simp, by simp, by simp, by simp, by simp, by simp, by simp, by simp, by simp⟩
  case before =>
    rw [exec_followUpDue a hon, if_neg fun due => Nat.not_le.mpr hsoon ((State.followUpTime_isSome hph hn).mp due)]
  case busy =>
    have due := (State.followUpTime_isSome hph hn).mpr hover
    rw [exec_followUpDue a hon, if_pos due, State.finish_of_busy hm,
      State.modeCheck_of_held (State.held_of_followUp hph)]
  case granted =>
    have due := (State.followUpTime_isSome hph hn).mpr hover
    refine ⟨s.finish, by rw [exec_followUpDue a hon, if_pos due], ?_⟩
    rw [State.finish_of_request hon hm (State.held_of_followUp hph) harb, State.startOwn_eq]
    exact ⟨rfl, rfl, rfl⟩
  case elsewhere =>
    rw [exec_followUpDue a hon, State.followUpTime, if_neg (by simp [hph])]

end Sys2Proof.Machine
end


section
/-! SUPPORT. Polls and SETs of the controller: the delayed-transaction table and what is refused before a place is looked
for (R21 to R24, R32, R38 to R42, R47). -/

namespace Sys2Proof.Machine

variable {s : State} {src dst tag : Byte}

/-! ## The command is the Forwarding unit's judgement and the end of the step -/

theorem State.stationFrame_poll (h : s.serves dst = true) :
    s.stationFrame ⟨dst, src, tag, .poll⟩ = s.pollStation src dst tag := by
  simp only [State.serves, Bool.and_eq_true, bne_iff_ne] at h
  exact if_neg h.2

theorem State.stationFrame_set (r : SetRec) (h : s.serves dst = true) :
    s.stationFrame ⟨dst, src, tag, .set r⟩ = s.setStation src dst tag r := by
  simp only [State.serves, Bool.and_eq_true, bne_iff_ne] at h
  exact if_neg h.2

@[simp] theorem State.hunt_serves (p : Port) (b : Byte) : (s.hunt p).serves b = s.serves b := by cases p <;> rfl
@[simp] theorem State.hunt_held (p : Port) (a : Nat) : (s.hunt p).held a = s.held a := by simp [State.held]
@[simp] theorem State.hunt_findDelayed (p : Port) (k : DelayKey) : (s.hunt p).findDelayed k = s.findDelayed k := by
  simp [State.findDelayed]

theorem exec_controllerPoll (h : s.hears src = true) (hs : s.serves dst = true) :
    exec (.controllerPoll src dst tag) s = .next ((s.hunt .c).pollStation src dst tag).finish := by
  change Host.Outcome.next (s.arrive .c ⟨dst, src, tag, .poll⟩) = _
  rw [State.arrive_station h hs Body.fits_poll, State.stationFrame_poll (by simpa using hs)]

theorem exec_setIntake (r : SetRec) (h : s.hears src = true) (hs : s.serves dst = true) :
    exec (.setIntake src dst tag r) s = .next ((s.hunt .c).setStation src dst tag r).finish := by
  change Host.Outcome.next (s.arrive .c ⟨dst, src, tag, .set r⟩) = _
  rw [State.arrive_station h hs (Body.fits_set r), State.stationFrame_set r (by simpa using hs)]

/-! ## A repeat of a filed request (R38, R41) -/

section
variable {k : DelayKey} {p : Option SetRec} {d : Delayed}

theorem State.delayedRequest_new (h : s.findDelayed k = none) : s.delayedRequest src k p = s.newDelayed src k p := by
  unfold State.delayedRequest
  rw [h]

theorem State.delayedRequest_conflict (h : s.findDelayed k = some d) (hp : d.payload ≠ p) :
    s.delayedRequest src k p = s.nak src k.tag nakConflict := by
  unfold State.delayedRequest
  rw [h]
  exact if_pos hp

theorem State.delayedRequest_retry (h : s.findDelayed k = some d) (hp : d.payload = p)
    (hst : d.st = .queued ∨ d.st = .inFlight) : s.delayedRequest src k p = s.nak src k.tag nakRetry := by
  unfold State.delayedRequest
  rw [h]
  dsimp only
  rw [if_neg (not_not.mpr hp)]
  rcases hst with hst | hst <;> rw [hst]

theorem State.delayedRequest_collect {res : Result} {n : Nat} (h : s.findDelayed k = some d) (hp : d.payload = p)
    (hst : d.st = .done res n) : s.delayedRequest src k p = s.collect src k.tag k res := by
  unfold State.delayedRequest
  rw [h]
  dsimp only
  rw [if_neg (not_not.mpr hp), hst]

/-! ## Delivery of a result (R23, R41, R42) -/

theorem State.collect_of_no_rewrite {f : Frame} (h : s.rewrites f = false) :
    s.collect src tag k (.frame f) = (s.freeDelayed k).answer (s.upstream src f) := by
  unfold State.collect
  dsimp only
  rw [if_neg (by simp [h])]

theorem State.collect_of_rewrite {f : Frame} (h : s.rewrites f = true) :
    s.collect src tag k (.frame f)
      = ((s.freeDelayed k).answer (s.upstream src f)).countFwd
          (fun c => { c with rewrite := satAdd Config.max16 c.rewrite 1 }) := by
  unfold State.collect
  dsimp only
  rw [if_pos h]

/-- A reply that is no STATUS goes upstream as it is. -/
theorem State.upstream_of_not_status {f : Frame} (h : ∀ r, f.body ≠ .status r) :
    s.rewrites f = false ∧ s.upstream src f = { f with dst := src } := by
  unfold State.rewrites State.upstream
  cases hb : f.body with
  | status r => exact absurd hb (h r)
  | _ => exact ⟨rfl, rfl⟩

/-- A STATUS of a station not gate-held at delivery goes upstream as it is. -/
theorem State.upstream_of_not_held {f : Frame} {r : StatusRec} (hb : f.body = .status r)
    (h : s.held f.src.toNat = false) : s.rewrites f = false ∧ s.upstream src f = { f with dst := src } := by
  unfold State.rewrites State.upstream
  rw [hb]
  dsimp only
  rw [h]
  exact ⟨rfl, rfl⟩

/-- A STATUS of a gate-held station is rewritten from the shadow (R42). -/
theorem State.upstream_of_held {f : Frame} {r : StatusRec} (hb : f.body = .status r) (h : s.held f.src.toNat = true) :
    s.rewrites f = true
      ∧ s.upstream src f = { f with dst := src, body := .status (rewritten (s.st f.src.toNat).shadow r) } := by
  unfold State.rewrites State.upstream
  rw [hb]
  dsimp only
  rw [h]
  exact ⟨rfl, rfl⟩

end

/-! ## In a drain a POLL collects a result and does nothing else (R47) -/

theorem State.pollStation_of_not_draining (h : s.draining = false) :
    s.pollStation src dst tag = s.delayedRequest src ⟨dst, .poll, tag⟩ none := by
  unfold State.pollStation
  exact if_neg (by simp [h])

theorem State.pollStation_busy (hd : s.draining = true)
    (h : ∀ d, s.findDelayed ⟨dst, .poll, tag⟩ = some d → d.payload ≠ none ∨ d.st = .queued ∨ d.st = .inFlight) :
    s.pollStation src dst tag = s.nak src tag nakBusy := by
  unfold State.pollStation
  dsimp only
  rw [if_pos hd]
  cases hf : s.findDelayed ⟨dst, .poll, tag⟩ with
  | none => rfl
  | some d =>
    have waits := h d hf
    obtain ⟨key, from_, payload, st, at_, seq⟩ := d
    cases payload with
    | some r => rfl
    | none => cases st with
      | done res n => simp at waits
      | queued => rfl
      | inFlight => rfl

theorem State.pollStation_collect {d : Delayed} {res : Result} {n : Nat}
    (h : s.findDelayed ⟨dst, .poll, tag⟩ = some d) (hp : d.payload = none) (hst : d.st = .done res n) :
    s.pollStation src dst tag = s.collect src tag ⟨dst, .poll, tag⟩ res := by
  by_cases hd : s.draining = true
  · unfold State.pollStation
    dsimp only
    rw [if_pos hd, h]
    obtain ⟨key, from_, payload, st, at_, seq⟩ := d
    cases hp
    cases hst
    rfl
  · rw [State.pollStation_of_not_draining (by simpa using hd), State.delayedRequest_collect h hp hst]

/-- Settles O21. -/
theorem pollJudgedAgainstTable : Obligations.PollJudgedAgainstTable := by
  intro src dst tag s hh hs
  refine ⟨fun hd => ⟨fun hn hroom => ?filed, fun hn hfull => ?full, fun d hf => ⟨fun hp => ?conflict, fun hp hst =>
    ?retry⟩⟩, fun hd hf => ?drain, fun d n hf hp => ⟨fun hst => ?noReply, fun f hst => ?reply⟩⟩
  case filed =>
    rw [exec_controllerPoll hh hs, State.pollStation_of_not_draining (by simpa using hd),
      State.delayedRequest_new (by simpa using hn)]
    unfold State.newDelayed
    dsimp only
    rw [if_pos (by simpa [Config.delayedCap] using hroom)]
    rfl
  case full =>
    rw [exec_controllerPoll hh hs, State.pollStation_of_not_draining (by simpa using hd),
      State.delayedRequest_new (by simpa using hn)]
    unfold State.newDelayed
    dsimp only
    rw [if_neg (by simpa [Config.delayedCap] using hfull)]
    rfl
  case conflict =>
    rw [exec_controllerPoll hh hs, State.pollStation_of_not_draining (by simpa using hd),
      State.delayedRequest_conflict (by simpa using hf) hp]
    rfl
  case retry =>
    rw [exec_controllerPoll hh hs, State.pollStation_of_not_draining (by simpa using hd),
      State.delayedRequest_retry (by simpa using hf) hp hst]
    rfl
  case drain =>
    rw [exec_controllerPoll hh hs, State.pollStation_busy (by simpa using hd) (by simpa using hf)]
    rfl
  case noReply =>
    rw [exec_controllerPoll hh hs, State.pollStation_collect (by simpa using hf) hp hst]
    rfl
  case reply =>
    have run : exec (.controllerPoll src dst tag) s
        = .next ((s.hunt .c).collect src tag ⟨dst, .poll, tag⟩ (.frame f)).finish := by
      rw [exec_controllerPoll hh hs, State.pollStation_collect (by simpa using hf) hp hst]
    refine ⟨fun hb => ?_, fun r hb => ⟨fun hheld => ?_, fun hheld => ?_⟩⟩
    · obtain ⟨plain, up⟩ := (s.hunt .c).upstream_of_not_status (src := src) hb
      rw [run, State.collect_of_no_rewrite plain, up]
      rfl
    · obtain ⟨plain, up⟩ := (s.hunt .c).upstream_of_not_held (src := src) hb (by simpa using hheld)
      rw [run, State.collect_of_no_rewrite plain, up]
      rfl
    · obtain ⟨rewrite_, up⟩ := (s.hunt .c).upstream_of_held (src := src) hb (by simpa using hheld)
      rw [run, State.collect_of_rewrite rewrite_, up, State.st_hunt]
      unfold State.countFwd
      rw [State.answer_fwd]
      rfl

end Sys2Proof.Machine
end


section
/-! SUPPORT. Which queues and records the admission pass, the entry to FREE and the end of a step leave alone. -/

namespace Sys2Proof.Machine

variable {s t u : State} {a b : Nat}

/-! ## Queues lose entries and keep their order -/

/-- The three queues have lost entries at most (R111, R144). -/
structure State.Thinned (s t : State) : Prop where
  parkQ : t.parkQ.Sublist s.parkQ
  demandQ : t.demandQ.Sublist s.demandQ
  schedQ : t.schedQ.Sublist s.schedQ

/-- A station stands in no queue. -/
def State.unlisted (s : State) (b : Nat) : Prop := b ∉ s.parkQ ∧ b ∉ s.demandQ ∧ b ∉ s.schedQ

theorem State.Thinned.same (hp : t.parkQ = s.parkQ) (hd : t.demandQ = s.demandQ) (hs : t.schedQ = s.schedQ) :
    s.Thinned t := ⟨hp ▸ .refl _, hd ▸ .refl _, hs ▸ .refl _⟩

theorem State.Thinned.refl (s : State) : s.Thinned s := .same rfl rfl rfl

theorem State.Thinned.trans (h : s.Thinned t) (k : t.Thinned u) : s.Thinned u :=
  ⟨k.parkQ.trans h.parkQ, k.demandQ.trans h.demandQ, k.schedQ.trans h.schedQ⟩

theorem State.Thinned.unlisted (h : s.Thinned t) (hb : s.unlisted b) : t.unlisted b := by
  obtain ⟨hp, hd, hs⟩ := hb
  exact ⟨fun m => hp (h.parkQ.subset m), fun m => hd (h.demandQ.subset m), fun m => hs (h.schedQ.subset m)⟩

/-- The queues agreeing with the states, a station of neither kind stands in none. -/
theorem State.queuesMatch.unlisted (h : s.queuesMatch) (hb : (s.st b).state.unqueued) : s.unlisted b := by
  obtain ⟨hp, hw⟩ := hb
  have waits : b ∉ s.demandQ ++ s.schedQ := fun m => hw ((h.2 b).2.mp m)
  rw [List.mem_append, not_or] at waits
  exact ⟨fun m => hp ((h.2 b).1.mp m), waits⟩

variable (s a b)

theorem State.dequeue_thinned : s.Thinned (s.dequeue a) :=
  ⟨List.filter_sublist, List.filter_sublist, List.filter_sublist⟩

theorem State.dequeue_unlisted : (s.dequeue a).unlisted a := by
  simp [State.unlisted, State.dequeue]

theorem State.modSt_thinned (f : Station → Station) : s.Thinned (s.modSt a f) := .same (by simp) (by simp) (by simp)

theorem State.admitOne_thinned : s.Thinned (s.admitOne a) := by
  constructor
  · rw [State.admitOne_parkQ]; exact List.filter_sublist
  · rw [State.admitOne_demandQ]; exact List.filter_sublist
  · rw [State.admitOne_schedQ]; exact List.filter_sublist

theorem State.admitWalk_thinned (l : List Nat) : s.Thinned (s.admitWalk l) := by
  induction l generalizing s with
  | nil => exact .refl s
  | cons a l ih =>
    unfold State.admitWalk
    split
    · split
      · exact (s.admitOne_thinned a).trans (ih _)
      · exact .refl s
    · exact ih s

theorem State.admissionPass_thinned : s.Thinned s.admissionPass := by
  unfold State.admissionPass
  split
  · exact .refl s
  · exact s.admitWalk_thinned _

theorem State.enterFree_thinned (f : Station → Station) : s.Thinned (s.enterFree a f) := by
  have left := (s.dequeue_thinned a).trans (State.modSt_thinned _ a fun r => f (r.freed s.now (s.pol a).rated))
  unfold State.enterFree
  dsimp only
  split
  · exact left.trans (State.admissionPass_thinned _)
  · exact left

/-- The station that enters FREE ends in no queue (R77). -/
theorem State.enterFree_unlisted (f : Station → Station) : (s.enterFree a f).unlisted a := by
  have left := (State.modSt_thinned (s.dequeue a) a fun r => f (r.freed s.now (s.pol a).rated)).unlisted
    (s.dequeue_unlisted a)
  unfold State.enterFree
  dsimp only
  split
  · exact (State.admissionPass_thinned _).unlisted left
  · exact left

theorem State.leavePark_thinned (z : Bool) : s.Thinned (s.leavePark a z) := by
  unfold State.leavePark
  split
  · exact s.enterFree_thinned a _
  · exact .refl s

theorem State.startPark_thinned : s.Thinned (s.startPark a) := by
  unfold State.startPark
  exact (s.dequeue_thinned a).trans (State.modSt_thinned _ a _)

theorem State.markInFlight_thinned (k : DelayKey) : s.Thinned (s.markInFlight k) := .same rfl rfl rfl

/-! ## Records that an entry to FREE and the end of a step leave alone -/

theorem State.st_enterFree_other (f : Station → Station) (h : b ≠ a) (hb : b ∉ s.demandQ ++ s.schedQ) :
    (s.enterFree a f).st b = s.st b := by
  have left : ((s.dequeue a).modSt a fun r => f (r.freed s.now (s.pol a).rated)).st b = s.st b := by
    rw [State.st_modSt_other _ a b _ h, State.st_dequeue]
  unfold State.enterFree
  dsimp only
  split
  · rw [State.st_admissionPass_other, left]
    simp only [List.mem_append, not_or] at hb
    simp [State.dequeue, hb]
  · exact left

variable {s a b}

/-- An entry to FREE moves of another station's record what an admission can. -/
theorem State.enterFree_belief_other (f : Station → Station) (h : b ≠ a) :
    Station.BeliefKept (s.st b) ((s.enterFree a f).st b) := by
  have left : ((s.dequeue a).modSt a fun r => f (r.freed s.now (s.pol a).rated)).st b = s.st b := by
    rw [State.st_modSt_other _ a b _ h, State.st_dequeue]
  unfold State.enterFree
  dsimp only
  split
  · rw [← left]
    exact (State.admissionPass_kept _).st b
  · rw [left]
    exact .refl _

theorem State.st_leavePark_other (z : Bool) (h : b ≠ a) (hb : b ∉ s.demandQ ++ s.schedQ) :
    (s.leavePark a z).st b = s.st b := by
  unfold State.leavePark
  split
  · exact s.st_enterFree_other a b _ h hb
  · rfl

theorem State.leavePark_belief_other (z : Bool) (h : b ≠ a) :
    Station.BeliefKept (s.st b) ((s.leavePark a z).st b) := by
  unfold State.leavePark
  split
  · exact State.enterFree_belief_other _ h
  · exact .refl _

theorem State.startExchange_thinned (x : Exchange) : s.Thinned (s.startExchange x) := by
  rw [State.startExchange_eq]
  exact .same rfl rfl rfl

theorem State.startOwn_thinned (c : ReqClass) (q : ReqRef) (a : Nat) (x : Body) : s.Thinned (s.startOwn c q a x) := by
  rw [State.startOwn_eq]
  exact .same rfl rfl rfl

@[simp] theorem State.st_startExchange (x : Exchange) (b : Nat) : (s.startExchange x).st b = s.st b := by
  rw [State.startExchange_eq]
  exact State.st_congr _ _ rfl b

@[simp] theorem State.st_startOwn (c : ReqClass) (q : ReqRef) (a : Nat) (x : Body) (b : Nat) :
    (s.startOwn c q a x).st b = s.st b := by
  rw [State.startOwn_eq]
  exact State.st_congr _ _ rfl b

theorem State.st_startPark_other (h : b ≠ a) : (s.startPark a).st b = s.st b := by
  rw [State.startPark, State.st_modSt_other _ a b _ h, State.st_dequeue]

theorem State.arbitrate_thinned (n : Nat) (s : State) : s.Thinned (State.arbitrate n s) := by
  induction n generalizing s with
  | zero => exact .refl s
  | succ n ih =>
    unfold State.arbitrate
    split
    · exact .refl s
    · exact (s.markInFlight_thinned _).trans (State.startExchange_thinned _)
    · exact s.startExchange_thinned _
    · exact s.startOwn_thinned _ _ _ _
    · split
      · exact (s.startPark_thinned _).trans (State.startOwn_thinned _ _ _ _)
      · exact (s.leavePark_thinned _ _).trans (ih _)
    · exact s.startOwn_thinned _ _ _ _

/-- An arbitration changes no record of a station that stands in no queue (R60, R62). -/
theorem State.st_arbitrate_unlisted (n : Nat) (s : State) (h : s.unlisted b) : (State.arbitrate n s).st b = s.st b := by
  induction n generalizing s with
  | zero => rfl
  | succ n ih =>
    unfold State.arbitrate
    split
    · rfl
    · rw [State.st_startExchange]
      exact State.st_congr _ _ rfl b
    · exact State.st_startExchange _ b
    · exact State.st_startOwn _ _ _ _ b
    · next head =>
      have ne : b ≠ _ := fun e => h.1 (e ▸ State.head_mem_parkQ head)
      split
      · rw [State.st_startOwn, State.st_startPark_other ne]
      · rw [ih _ ((s.leavePark_thinned _ _).unlisted h), State.st_leavePark_other _ ne]
        simpa using h.2
    · exact State.st_startOwn _ _ _ _ b

theorem State.modeCheck_eq (s : State) : s.modeCheck = { s with mode := s.modeCheck.mode } := by
  unfold State.modeCheck
  split <;> rfl

@[simp] theorem State.st_modeCheck (s : State) (b : Nat) : s.modeCheck.st b = s.st b := by
  rw [State.modeCheck_eq]
  exact State.st_congr _ _ rfl b

theorem State.modeCheck_thinned (s : State) : s.Thinned s.modeCheck := by
  rw [State.modeCheck_eq]
  exact .same rfl rfl rfl

theorem State.finish_thinned (s : State) : s.Thinned s.finish := by
  unfold State.finish
  dsimp only
  split
  · exact s.modeCheck_thinned.trans (State.arbitrate_thinned _ _)
  · exact s.modeCheck_thinned

/-- The end of a step changes no record of a station that stands in no queue. -/
theorem State.st_finish_unlisted (h : s.unlisted b) : s.finish.st b = s.st b := by
  unfold State.finish
  dsimp only
  split
  · rw [State.st_arbitrate_unlisted _ _ (s.modeCheck_thinned.unlisted h), State.st_modeCheck]
  · exact s.st_modeCheck b

end Sys2Proof.Machine
end


section
/-! SUPPORT. A SET with a place: where its entry goes, and what its acceptance does to the records (R24 to R28, R31, R34,
R35). -/

namespace Sys2Proof.Machine

open Station (BeliefKept)

variable {s t p : State} {src dst tag : Byte} {a : Nat} {r : SetRec} {e : Entry}

/-! ## Acceptance (R25 to R27) -/

/-- The record of a station for which a SET is accepted, the park queue apart. -/
def Station.accepting (now : Nat) (r : SetRec) (x : Station) : Station :=
  { x with shadow := shadowAfter r x.shadow, lock := lockAfter now r, notFresh := true }

theorem State.accept_eq : s.accept a r = (s.modSt a (Station.accepting s.now r)).leavePark a true := rfl

theorem State.leavePark_of_not_queued {z : Bool} (h : (s.st a).state ≠ .parkQueued) : s.leavePark a z = s := if_neg h

theorem State.leavePark_of_queued {z : Bool} (h : (s.st a).state = .parkQueued) :
    s.leavePark a z = s.enterFree a (fun r => if z then { r with credit := 0 } else r) := if_pos h

theorem hasRecord_of_queued (h : (s.st a).state = .parkQueued) : hasRecord a :=
  hasRecord_of_state s a (ne_of_eq_of_ne h (by decide))

theorem State.accept_of_not_queued (h : (s.st a).state ≠ .parkQueued) :
    s.accept a r = s.modSt a (Station.accepting s.now r) := by
  rw [State.accept_eq, State.leavePark_of_not_queued]
  rcases s.st_modSt_cases a (Station.accepting s.now r) a with ⟨-, -, k⟩ | ⟨-, k⟩ <;> rw [k] <;> exact h

/-- What acceptance leaves in the record of its station (R25). -/
structure Station.Accepted (now : Nat) (r : SetRec) (x y : Station) : Prop where
  hold : y.hold = x.hold
  shadow : y.shadow = shadowAfter r x.shadow
  lock : y.lock = lockAfter now r
  notFresh : y.notFresh = true
  credit : y.credit = if x.state = .parkQueued then 0 else x.credit

theorem Station.Accepted.belief {now : Nat} {x y z : Station} (h : Station.Accepted now r x y) (k : BeliefKept y z) :
    Station.Accepted now r x z :=
  ⟨k.hold.trans h.hold, k.shadow.trans h.shadow, k.lock.trans h.lock, k.notFresh.trans h.notFresh,
    k.credit.trans h.credit⟩

/-- The record of the station an accepted SET is for: FREE with credit 0 where it was queued to park. -/
theorem State.st_accept_self (h : hasRecord a) : Station.Accepted s.now r (s.st a) ((s.accept a r).st a) := by
  have self : (s.modSt a (Station.accepting s.now r)).st a = Station.accepting s.now r (s.st a) :=
    s.st_modSt_self a _ h
  by_cases hq : (s.st a).state = .parkQueued
  · have queued : ((s.modSt a (Station.accepting s.now r)).st a).state = .parkQueued := by rw [self]; exact hq
    rw [State.accept_eq, State.leavePark_of_queued queued, State.enterFree_st _ _ _ h, self]
    have kept := Station.freed_kept (s.modSt a (Station.accepting s.now r)).now
      ((s.modSt a (Station.accepting s.now r)).pol a).rated (Station.accepting s.now r (s.st a))
    exact ⟨kept.hold, kept.shadow, kept.lock, kept.notFresh, by rw [if_pos hq]; rfl⟩
  · rw [State.accept_of_not_queued hq, self]
    exact ⟨rfl, rfl, rfl, rfl, by rw [if_neg hq]; rfl⟩

theorem State.accept_free (h : (s.st a).state = .parkQueued) : ((s.accept a r).st a).state = .free := by
  have known := hasRecord_of_queued h
  have self : (s.modSt a (Station.accepting s.now r)).st a = Station.accepting s.now r (s.st a) :=
    s.st_modSt_self a _ known
  rw [State.accept_eq, State.leavePark_of_queued (by rw [self]; exact h), State.enterFree_st _ _ _ known]
  rfl

theorem State.accept_unlisted (h : (s.st a).state = .parkQueued) : (s.accept a r).unlisted a := by
  rw [State.accept_eq, State.leavePark_of_queued]
  · exact State.enterFree_unlisted _ a _
  · rw [s.st_modSt_self a _ (hasRecord_of_queued h)]
    exact h

theorem State.accept_belief_other {b : Nat} (h : b ≠ a) : BeliefKept (s.st b) ((s.accept a r).st b) := by
  rw [State.accept_eq, ← s.st_modSt_other a b (Station.accepting s.now r) h]
  exact State.leavePark_belief_other true h

/-- Acceptance moves records, queues, zones, starved flags and attention flags alone. -/
theorem State.accept_kept : s.Kept (fun _ _ => True) (s.accept a r) := by
  have order : Station.Order (fun _ _ : Station => True) := ⟨fun _ => trivial, fun _ _ => trivial⟩
  rw [State.accept_eq]
  exact (s.modSt_kept order a _ trivial).trans order ((State.leavePark_holds _ a true).weaken fun _ _ _ => trivial)

/-! ## The whole of an acceptance, up to the end of the step -/

/-- What an accepted SET leaves at the end of the step, whatever moves that keep beliefs come after it. -/
structure State.Acceptance (s t : State) (a : Nat) (r : SetRec) (f : Frame) : Prop where
  self : Station.Accepted s.now r (s.st a) (t.st a)
  other : ∀ b, b ≠ a → BeliefKept (s.st b) (t.st b)
  posted : t.fwd.posted = s.fwd.posted
  cnt : t.fwd.cnt = s.fwd.cnt
  keys : t.fwd.delayed.map Delayed.key = s.fwd.delayed.map Delayed.key
  answered : s.answeredWith t f
  settings : s.settingsKept t

theorem State.accepted_acceptance (h : hasRecord a) :
    s.Acceptance (s.accepted src tag a r) a r ⟨src, byte s.straps.addr, tag, .ack 1⟩ := by
  have kept := State.accept_kept (s := s) (a := a) (r := r)
  have answer : s.accepted src tag a r = (s.accept a r).answer ⟨src, byte s.straps.addr, tag, .ack 1⟩ := by
    rw [← kept.straps]
    rfl
  rw [answer]
  constructor
  case self => rw [State.st_answer]; exact State.st_accept_self h
  case other => intro b hb; rw [State.st_answer]; exact State.accept_belief_other hb
  case posted => rw [State.answer_fwd, kept.fwd]
  case cnt => rw [State.answer_fwd, kept.fwd]
  case keys => rw [State.answer_fwd, kept.fwd]
  case answered => exact State.answeredWith_of kept.cport kept.answers kept.lineTime kept.straps
  case settings =>
    refine State.settingsKept.trans kept.settingsKept ?_
    exact ⟨by simp, by simp, by simp, by simp, by simp, by simp, by simp, by simp, by simp, by simp, by simp⟩

theorem State.answeredWith.moved {u : State} {f : Frame} (h : s.answeredWith t f) (hc : u.cport = t.cport)
    (ha : u.answers = t.answers) : s.answeredWith u f := ⟨hc.trans h.1, ha.trans h.2⟩

theorem State.Acceptance.granted {u : State} {f : Frame} (h : s.Acceptance t a r f) (k : t.Granted u) :
    s.Acceptance u a r f where
  self := h.self.belief (k.st a)
  other b hb := (h.other b hb).trans (k.st b)
  posted := by rw [k.fwd]; exact h.posted
  cnt := by rw [k.fwd]; exact h.cnt
  keys := k.keys.trans h.keys
  answered := h.answered.moved k.cport k.answers
  settings := h.settings.trans k.settingsKept

/-! ## Where the entry goes (R28, R31, R34) -/

/-- The entry has its place: the buffer, the hold list and the counters are as given, and nothing else has moved but the
next order number. -/
structure State.Placed (s p : State) (a : Nat) (posted hold : List Entry) (cnt : FwdCounters) : Prop where
  self : p.st a = { s.st a with hold := hold }
  other : ∀ b, b ≠ a → p.st b = s.st b
  posted : p.fwd.posted = posted
  delayed : p.fwd.delayed = s.fwd.delayed
  cnt : p.fwd.cnt = cnt
  rest : p = { s with fwd := p.fwd, stations := p.stations }

theorem State.buffer_placed (h : s.fwd.posted.length < 8) :
    ∃ p, s.buffer e = some p ∧ s.Placed p a (s.fwd.posted ++ [e]) (s.st a).hold s.fwd.cnt :=
  ⟨_, if_pos h, rfl, fun _ _ => rfl, rfl, rfl, rfl, rfl⟩

theorem State.buffer_full (h : 8 ≤ s.fwd.posted.length) : s.buffer e = none := if_neg (Nat.not_lt.mpr h)

/-- The state with the next order number used up. -/
def State.bumped (s : State) : State := { s with fwd := { s.fwd with seq := s.fwd.seq + 1 } }

@[simp] theorem State.hunt_coalesces (q : Port) : (s.hunt q).coalesces a r = s.coalesces a r := by
  unfold State.coalesces State.entryUnderWay
  rw [State.st_hunt, State.hunt_master]

theorem State.holdPlace_coalesces (ha : hasRecord a) (h : s.coalesces a r = true) :
    ∃ p, s.holdPlace a r e = some p
      ∧ s.Placed p a s.fwd.posted ((s.st a).hold.dropLast ++ [e])
          { s.fwd.cnt with coalesced := min (s.fwd.cnt.coalesced + 1) 65535 } := by
  refine ⟨_, if_pos h, ?_, fun b hb => ?_, ?_, ?_, ?_, ?_⟩
  · rw [State.st_countFwd, State.st_modSt_self _ a _ ha]
    rfl
  · rw [State.st_countFwd, State.st_modSt_other _ a b _ hb]
    rfl
  · simp [State.countFwd]
  · simp [State.countFwd]
  · simp [State.countFwd, satAdd, Config.max16]
  · cases a <;> rfl

theorem State.holdPlace_joins (ha : hasRecord a) (h : s.coalesces a r = false) (k : (s.st a).hold.length < 2) :
    ∃ p, s.holdPlace a r e = some p ∧ s.Placed p a s.fwd.posted ((s.st a).hold ++ [e]) s.fwd.cnt := by
  refine ⟨s.bumped.modSt a fun x => { x with hold := x.hold ++ [e] }, ?_, ?_, fun b hb => ?_, ?_, ?_, ?_, ?_⟩
  · unfold State.holdPlace
    dsimp only
    rw [if_neg (by simp [h]), if_pos (show (s.st a).hold.length < Config.holdCap from k)]
    rfl
  · rw [State.st_modSt_self _ a _ ha]
    rfl
  · rw [State.st_modSt_other _ a b _ hb]
    rfl
  · simp [State.bumped]
  · simp [State.bumped]
  · simp [State.bumped]
  · cases a <;> rfl

theorem State.holdPlace_full (h : s.coalesces a r = false) (k : 2 ≤ (s.st a).hold.length) :
    s.holdPlace a r e = none := by
  unfold State.holdPlace
  dsimp only
  rw [if_neg (by simp [h]), if_neg (show ¬ (s.st a).hold.length < Config.holdCap from Nat.not_lt.mpr k)]

theorem State.placeFree_of_empty (h : (s.st a).hold = []) : s.placeFree a r e = s.buffer e := if_pos h
theorem State.placeFree_of_held (h : (s.st a).hold ≠ []) : s.placeFree a r e = s.holdPlace a r e := if_neg h

section
variable {posted hold : List Entry} {cnt : FwdCounters}

theorem State.Placed.settings (h : s.Placed p a posted hold cnt) : s.settingsKept p := by
  rw [h.rest]
  exact ⟨rfl, rfl, rfl, rfl, rfl, rfl, rfl, rfl, rfl, rfl, rfl⟩

theorem State.Placed.state (h : s.Placed p a posted hold cnt) (b : Nat) : (p.st b).state = (s.st b).state := by
  by_cases hb : b = a
  · subst hb
    rw [h.self]
  · rw [h.other b hb]

theorem State.Placed.queuesMatch (h : s.Placed p a posted hold cnt) (hq : s.queuesMatch) : p.queuesMatch := by
  obtain ⟨nodup, mem⟩ := hq
  have queues : p.parkQ = s.parkQ ∧ p.demandQ = s.demandQ ∧ p.schedQ = s.schedQ := by
    rw [h.rest]
    exact ⟨rfl, rfl, rfl⟩
  obtain ⟨hp, hd, hs⟩ := queues
  refine ⟨by rwa [hp, hd, hs], fun b => ?_⟩
  rw [hp, hd, hs, h.state]
  exact mem b

/-- The acceptance of a placed entry, seen from before its placing. -/
theorem State.Placed.answeredWith {f : Frame} (h : s.Placed p a posted hold cnt) (k : p.answeredWith t f) :
    s.answeredWith t f := by
  have same : p.cport = s.cport ∧ p.answers = s.answers ∧ p.lineTime = s.lineTime ∧ p.straps = s.straps := by
    rw [h.rest]
    exact ⟨rfl, rfl, rfl, rfl⟩
  have before : s.answeredWith (p.answer f) f := State.answeredWith_of same.1 same.2.1 same.2.2.1 same.2.2.2
  exact ⟨k.1.trans before.1, k.2.trans before.2⟩

theorem State.Placed.now (h : s.Placed p a posted hold cnt) : p.now = s.now := by
  rw [h.rest]
  rfl

theorem State.Placed.straps (h : s.Placed p a posted hold cnt) : p.straps = s.straps := by
  rw [h.rest]

/-- The end of a step in which a placed SET is accepted. -/
structure State.Posts (s t : State) (a : Nat) (r : SetRec) (posted hold : List Entry) (cnt : FwdCounters) (f : Frame) :
    Prop where
  posted : t.fwd.posted = posted
  cnt : t.fwd.cnt = cnt
  self : Station.Accepted s.now r { s.st a with hold := hold } (t.st a)
  other : ∀ b, b ≠ a → BeliefKept (s.st b) (t.st b)
  answered : s.answeredWith t f
  settings : s.settingsKept t

theorem State.Placed.posts {f : Frame} (h : s.Placed p a posted hold cnt) (k : p.Acceptance t a r f) :
    s.Posts t a r posted hold cnt f where
  posted := k.posted.trans h.posted
  cnt := k.cnt.trans h.cnt
  self := by rw [← h.self, ← h.now]; exact k.self
  other b hb := by rw [← h.other b hb]; exact k.other b hb
  answered := h.answeredWith k.answered
  settings := h.settings.trans k.settings

theorem State.Placed.accepted_finish (h : s.Placed p a posted hold cnt) (ha : hasRecord a) :
    s.Posts (p.accepted src tag a r).finish a r posted hold cnt ⟨src, byte s.straps.addr, tag, .ack 1⟩ := by
  rw [← h.straps]
  exact h.posts ((State.accepted_acceptance ha).granted (State.finish_granted _))

end

/-- An answer of the gate's own carries the address of the straps. -/
theorem State.answerOwn_eq {b : Body} (h : t.straps = s.straps) :
    t.answerOwn src tag b = t.answer ⟨src, byte s.straps.addr, tag, b⟩ := by
  rw [← h]
  rfl

/-! ## Judging a SET (R24) -/

theorem hasRecord_of_serves (h : s.serves dst = true) : hasRecord dst.toNat := by
  simp only [State.serves, busAddress, Bool.and_eq_true, decide_eq_true_eq] at h
  exact h.1.1

theorem State.setStation_posted (hd : s.draining = false) (hp : r.action ≠ .park) (hw : r.action ≠ .wake)
    (hn : (s.pol dst.toNat).nonPosted = false) : s.setStation src dst tag r = s.postSet src dst tag r := by
  unfold State.setStation
  rw [if_neg (by simp [hd]), if_neg (by simp [hp, hw]), if_neg (by simp [hn])]

theorem State.setStation_delayed (hd : s.draining = false) (hp : r.action ≠ .park) (hw : r.action ≠ .wake)
    (hn : (s.pol dst.toNat).nonPosted = true) :
    s.setStation src dst tag r = s.delayedRequest src ⟨dst, .set, tag⟩ (some r) := by
  unfold State.setStation
  rw [if_neg (by simp [hd]), if_neg (by simp [hp, hw]), if_pos hn]

theorem exec_setIntake_posted (h : s.hears src = true) (hs : s.serves dst = true) (hd : s.draining = false)
    (hp : r.action ≠ .park) (hw : r.action ≠ .wake) (hn : (s.pol dst.toNat).nonPosted = false) :
    exec (.setIntake src dst tag r) s = .next ((s.hunt .c).postSet src dst tag r).finish := by
  rw [exec_setIntake r h hs, State.setStation_posted (by simpa using hd) hp hw (by simpa using hn)]

theorem State.postSet_of_not_held (h : s.held dst.toNat = false) :
    s.postSet src dst tag r
      = s.acceptIf src tag dst.toNat r (s.noRoom dst.toNat)
          (s.placeFree dst.toNat r (s.newEntry src dst tag (.set r))) := by
  unfold State.postSet
  dsimp only
  rw [if_neg (by simp [h])]

theorem State.postSet_noop (h : s.held dst.toNat = true) (ha : r.action = .noop) :
    s.postSet src dst tag r
      = (s.countFwd fun c => { c with noopDrop := satAdd Config.max16 c.noopDrop 1 }).accepted src tag dst.toNat r := by
  unfold State.postSet
  dsimp only
  rw [if_pos h, ha]

theorem State.modSt_congr {f g : Station → Station} (h : f (s.st a) = g (s.st a)) : s.modSt a f = s.modSt a g :=
  congrArg (s.setSt a) h

/-- A gate-held station is not queued to park. -/
theorem State.not_queued_of_held (h : s.held a = true) : (s.st a).state ≠ .parkQueued := by
  intro hq
  simp [State.held, hq, StState.gateHeld] at h

/-- Settles O22. -/
theorem setsAnsweredWithoutAPlace : Obligations.SetsAnsweredWithoutAPlace := by
  intro src dst tag r s h hs
  refine ⟨fun hd => ?_, fun hd ha => ?_, fun hd ha hn hheld => ?_⟩
  · have busy : (s.hunt .c).setStation src dst tag r = (s.hunt .c).nak src tag nakBusy := if_pos (by simpa using hd)
    rw [exec_setIntake r h hs, busy]
    rfl
  · have reserved : (s.hunt .c).setStation src dst tag r = (s.hunt .c).nak src tag nakReservedAction := by
      unfold State.setStation
      rw [if_neg (by simp [hd]), if_pos ha]
    rw [exec_setIntake r h hs, reserved]
    rfl
  · rw [exec_setIntake_posted h hs hd (by simp [ha]) (by simp [ha]) hn, State.postSet_noop (by simpa using hheld) ha]
    unfold State.accepted
    rw [State.accept_of_not_queued]
    · have noop : Station.accepting s.mono r
          = fun x => { x with lock := if r.lock then some (s.mono + 10000) else none, notFresh := true } := by
        funext x
        simp only [Station.accepting, shadowAfter, ha]
        rfl
      change Host.Outcome.next ((State.modSt _ dst.toNat (Station.accepting s.mono r)).answerOwn src tag (.ack 1)).finish = _
      rw [noop, State.answerOwn_eq (s := s) (by simp)]
      rfl
    · simpa using State.not_queued_of_held hheld

/-- Settles O23. -/
theorem postedSetIsBuffered : Obligations.PostedSetIsBuffered := by
  intro src dst tag r s h hs hd hp hw hn hheld
  have known := hasRecord_of_serves hs
  have run : exec (.setIntake src dst tag r) s
      = .next ((s.hunt .c).acceptIf src tag dst.toNat r ((s.hunt .c).noRoom dst.toNat)
          ((s.hunt .c).placeFree dst.toNat r ((s.hunt .c).newEntry src dst tag (.set r)))).finish := by
    rw [exec_setIntake_posted h hs hd hp hw hn, State.postSet_of_not_held (by simpa using hheld)]
  have shadows : shadowAfter r (s.st dst.toNat).shadow = (match r.action with
      | .run => .run
      | .jog => .run
      | .stop => .stop
      | _ => (s.st dst.toNat).shadow) := by
    unfold shadowAfter
    cases r.action <;> rfl
  have accepted {p : State} {posted hold : List Entry} {cnt : FwdCounters}
      (place : (s.hunt .c).placeFree dst.toNat r ((s.hunt .c).newEntry src dst tag (.set r)) = some p)
      (placed : (s.hunt .c).Placed p dst.toNat posted hold cnt) :
      ∃ t, exec (.setIntake src dst tag r) s = .next t
        ∧ t.fwd.posted = posted ∧ (t.st dst.toNat).hold = hold ∧ t.fwd.cnt = cnt
        ∧ (t.st dst.toNat).shadow
            = (match r.action with
                | .run => .run
                | .jog => .run
                | .stop => .stop
                | _ => (s.st dst.toNat).shadow)
        ∧ (t.st dst.toNat).lock = (if r.lock then some (s.mono + 10000) else none)
        ∧ (t.st dst.toNat).notFresh = true
        ∧ (t.st dst.toNat).credit = (if (s.st dst.toNat).state = .parkQueued then 0 else (s.st dst.toNat).credit)
        ∧ ((s.st dst.toNat).state = .parkQueued → (t.st dst.toNat).state = .free ∧ dst.toNat ∉ t.parkQ)
        ∧ (∀ b, b ≠ dst.toNat → (t.st b).shadow = (s.st b).shadow ∧ (t.st b).lock = (s.st b).lock
            ∧ (t.st b).hold = (s.st b).hold ∧ (t.st b).credit = (s.st b).credit)
        ∧ (s.hunt .c).answeredWith t ⟨src, byte s.straps.addr, tag, .ack 1⟩
        ∧ s.settingsKept t := by
    have posts := placed.accepted_finish (src := src) (tag := tag) (r := r) known
    refine ⟨(p.accepted src tag dst.toNat r).finish, by rw [run, place]; rfl, posts.posted, posts.self.hold, posts.cnt,
      ?_, ?_, posts.self.notFresh, ?_, fun hq => ?_, fun b hb => ?_, ?_, ?_⟩
    · rw [posts.self.shadow, State.st_hunt]
      exact shadows
    · exact posts.self.lock
    · rw [posts.self.credit, State.st_hunt]
    · have queued : (p.st dst.toNat).state = .parkQueued := by rw [placed.state, State.st_hunt, hq]
      have out : (p.accepted src tag dst.toNat r).unlisted dst.toNat := by
        have left := State.accept_unlisted (s := p) (r := r) queued
        unfold State.unlisted at left ⊢
        simpa [State.accepted, State.answerOwn] using left
      refine ⟨?_, (State.finish_thinned _ |>.unlisted out).1⟩
      rw [State.st_finish_unlisted out, State.accepted, State.answerOwn, State.st_answer, State.accept_free queued]
    · have kept := posts.other b hb
      rw [State.st_hunt] at kept
      exact ⟨kept.shadow, kept.lock, kept.hold, kept.credit⟩
    · simpa using posts.answered
    · exact State.settingsKept.trans ⟨rfl, rfl, rfl, rfl, rfl, rfl, rfl, rfl, rfl, rfl, rfl⟩ posts.settings
  have refused {c : Byte} (full : (s.hunt .c).placeFree dst.toNat r ((s.hunt .c).newEntry src dst tag (.set r)) = none)
      (room : (s.hunt .c).noRoom dst.toNat = c) :
      exec (.setIntake src dst tag r) s
        = .next ((s.hunt .c).answer ⟨src, byte s.straps.addr, tag, .nak c⟩).finish := by
    rw [run, full, room]
    rfl
  refine ⟨fun he hroom => ?_, fun he hfull => ?_, fun he hco => ?_, fun he hco hroom => ?_, fun he hco hfull => ?_⟩
  · obtain ⟨p, place, placed⟩ := State.buffer_placed (s := s.hunt .c) (a := dst.toNat)
      (e := (s.hunt .c).newEntry src dst tag (.set r)) (by simpa using hroom)
    rw [State.st_hunt, he] at placed
    exact accepted ((State.placeFree_of_empty (by simpa using he)).trans place) placed
  · exact refused ((State.placeFree_of_empty (by simpa using he)).trans (State.buffer_full (by simpa using hfull)))
      (if_pos (by simpa using he))
  · obtain ⟨p, place, placed⟩ := State.holdPlace_coalesces (s := s.hunt .c)
      (e := (s.hunt .c).newEntry src dst tag (.set r)) known (by simpa using hco)
    rw [State.st_hunt] at placed
    exact accepted ((State.placeFree_of_held (by simpa using he)).trans place) placed
  · obtain ⟨p, place, placed⟩ := State.holdPlace_joins (s := s.hunt .c)
      (e := (s.hunt .c).newEntry src dst tag (.set r)) known (by simpa using hco) (by simpa using hroom)
    rw [State.st_hunt] at placed
    exact accepted ((State.placeFree_of_held (by simpa using he)).trans place) placed
  · exact refused ((State.placeFree_of_held (by simpa using he)).trans
      (State.holdPlace_full (by simpa using hco) (by simpa using hfull))) (if_neg (by simpa using he))

end Sys2Proof.Machine
end


section
/-! SUPPORT. What the wake walks, the supporter faults, the admission pass and the end of a step make of the stations,
said once: a PARKED or waiting station is woken or left alone, a queued one may leave the park queue, and no other
moves (R70, R82, R111, R134, R137, R143, R146, R149). -/

namespace Sys2Proof.Machine

variable {s t u : State} {a b : Nat}

/-! ## Fates -/

/-- A record that stays, that is woken, or whose station leaves the park queue. -/
inductive Station.Fared (r q : Station) : Prop
  | stays (h : q = r)
  | wakes (was : r.state = .parked ∨ r.state = .wakeQueued) (now_ : q.state.woken)
      (due : r.state = .parked ∨ r.wakeDue = none → q.wakeDue = none)
      (mark : r.state = .parked ∨ r.parkMark = none → q.parkMark = none)
      (demand : r.demand = true → q.state ≠ .faulted → q.demand = true)
  | leaves (was : r.state = .parkQueued) (now_ : q.state = .free ∨ q.state = .parking)

theorem Station.Fared.refl (r : Station) : Station.Fared r r := .stays rfl

theorem StState.woken.not_parked {x : StState} (h : x.woken) : x ≠ .parked := by
  rcases h with h | h | h <;> simp [h]

theorem Station.Fared.trans {r q p : Station} (h : Station.Fared r q) (k : Station.Fared q p) : Station.Fared r p := by
  cases h with
  | stays e => rwa [← e]
  | wakes was now_ due mark demand =>
    cases k with
    | stays e => rw [e]; exact .wakes was now_ due mark demand
    | wakes was' now' due' mark' demand' =>
      have waits : q.state = .wakeQueued := was'.resolve_left now_.not_parked
      exact .wakes was now' (fun h => due' (.inr (due h))) (fun h => mark' (.inr (mark h)))
        (fun h hp => demand' (demand h (by simp [waits])) hp)
    | leaves was' now' => rcases now_ with h | h | h <;> simp [h] at was'
  | leaves was now_ =>
    cases k with
    | stays e => rw [e]; exact .leaves was now_
    | wakes was' _ _ _ _ => rcases now_ with h | h <;> simp [h] at was'
    | leaves was' now' => rcases now_ with h | h <;> simp [h] at was'

/-- A station in a state that no walk and no queue touches keeps its record. -/
theorem Station.Fared.eq_of_still {r q : Station} (h : Station.Fared r q) (hs : r.state.still)
    (hq : r.state ≠ .parkQueued) : q = r := by
  cases h with
  | stays e => exact e
  | wakes was _ _ _ _ => exact absurd was (not_or.mpr hs)
  | leaves was _ => exact absurd was hq

theorem Station.Fared.woken {r q : Station} (h : Station.Fared r q) (hw : r.state.woken) : q.state.woken := by
  cases h with
  | stays e => rwa [e]
  | wakes _ now_ _ _ _ => exact now_
  | leaves was _ => rcases hw with h | h | h <;> simp [h] at was

theorem Station.Fared.wakeDue {r q : Station} (h : Station.Fared r q) (hw : r.state.woken) (hd : r.wakeDue = none) :
    q.wakeDue = none := by
  cases h with
  | stays e => rwa [e]
  | wakes _ _ due _ _ => exact due (.inr hd)
  | leaves was _ => rcases hw with h | h | h <;> simp [h] at was

theorem Station.Fared.parkMark {r q : Station} (h : Station.Fared r q) (hw : r.state.woken) (hm : r.parkMark = none) :
    q.parkMark = none := by
  cases h with
  | stays e => rwa [e]
  | wakes _ _ _ mark _ => exact mark (.inr hm)
  | leaves was _ => rcases hw with h | h | h <;> simp [h] at was

/-- A demanded station stays demanded until it faults. -/
theorem Station.Fared.demand {r q : Station} (h : Station.Fared r q) (hw : r.state.woken) (hd : r.demand = true)
    (hq : q.state ≠ .faulted) : q.demand = true := by
  cases h with
  | stays e => rwa [e]
  | wakes _ _ _ _ demand => exact demand hd hq
  | leaves was _ => rcases hw with h | h | h <;> simp [h] at was

/-- The stations fare so, the queues agree with the states, and a waiting demand keeps its queue. -/
structure State.Fared (s t : State) : Prop where
  queues : t.queuesMatch
  st : ∀ b, Station.Fared (s.st b) (t.st b)
  demandQ : ∀ b, (s.st b).state = .wakeQueued → b ∈ s.demandQ → (t.st b).state = .wakeQueued → b ∈ t.demandQ
  parkQ : t.parkQ.Sublist s.parkQ

theorem State.Fared.refl (h : s.queuesMatch) : s.Fared s := ⟨h, fun _ => .refl _, fun _ _ m _ => m, .refl _⟩

theorem State.Fared.trans (h : s.Fared t) (k : t.Fared u) : s.Fared u where
  queues := k.queues
  st b := (h.st b).trans (k.st b)
  demandQ b hw hm hu := by
    have waits : (t.st b).state = .wakeQueued := by
      cases h.st b with
      | stays e => rw [e, hw]
      | wakes _ now_ _ _ _ =>
        rcases now_ with e | e | e
        · exact e
        all_goals
          have same := (k.st b).eq_of_still (by simp [StState.still, e]) (by simp [e])
          rw [same, e] at hu
          simp at hu
      | leaves was _ => rw [hw] at was; simp at was
    exact k.demandQ b waits (h.demandQ b hw hm waits) hu
  parkQ := k.parkQ.trans h.parkQ

/-- A change of one station's record and of no other station's place in the queues. -/
theorem State.Fared.of_one (a : Nat) (queues : t.queuesMatch) (self : Station.Fared (s.st a) (t.st a))
    (other : ∀ b, b ≠ a → t.st b = s.st b) (demandQ : ∀ b, b ≠ a → b ∈ s.demandQ → b ∈ t.demandQ)
    (demanded : (t.st a).state = .wakeQueued → a ∈ s.demandQ → a ∈ t.demandQ) (parkQ : t.parkQ.Sublist s.parkQ) :
    s.Fared t where
  queues := queues
  st b := by
    by_cases h : b = a
    · exact h ▸ self
    · rw [other b h]; exact .refl _
  demandQ b _ hm ht := by
    by_cases h : b = a
    · subst h; exact demanded ht hm
    · exact demandQ b h hm
  parkQ := parkQ

/-- A change that leaves the records and the queues alone. -/
theorem State.Fared.same (h : s.queuesMatch) (hs : t.stations = s.stations) (hp : t.parkQ = s.parkQ)
    (hd : t.demandQ = s.demandQ) (hq : t.schedQ = s.schedQ) : s.Fared t where
  queues := State.queuesMatch_congr h hs hp hd hq
  st b := by rw [State.st_congr _ _ hs]; exact .refl _
  demandQ _ _ hm _ := hd ▸ hm
  parkQ := by rw [hp]

theorem State.Fared.foldl {α : Type} (f : State → α → State) (l : List α)
    (h : ∀ (t : State) (x : α), t.queuesMatch → t.Fared (f t x)) (hs : s.queuesMatch) : s.Fared (l.foldl f s) := by
  induction l generalizing s with
  | nil => exact .refl hs
  | cons x l ih => exact (h s x hs).trans (ih (h s x hs).queues)

/-! ## Admission (R146, R149) -/

theorem State.admitOne_fared (h : s.queuesMatch) (ha : (s.st a).state = .wakeQueued) : s.Fared (s.admitOne a) := by
  have known : hasRecord a := hasRecord_of_state s a (ne_of_eq_of_ne ha (by decide))
  have waking := s.admitOne_state a known
  refine .of_one a ?_ ?_ (fun b hb => s.st_admitOne_other a b hb) (fun b hb hm => ?_) (fun hw => ?_) ?_
  · exact (State.warnAdmitted_moves (w := False) _ a).queuesMatch
      (State.queuesMatch_leave h a _ (show StState.waking.unqueued from ⟨by decide, by decide⟩))
  · have self : ((s.dequeue a).modSt a fun r => { r with state := .waking, phase := .warn, attempts := 0 }).st a
        = { s.st a with state := .waking, phase := .warn, attempts := 0 } := by
      rw [State.st_modSt_self _ a _ known, State.st_dequeue]
    have kept : ((s.admitOne a).st a).wakeDue = (s.st a).wakeDue ∧ ((s.admitOne a).st a).parkMark = (s.st a).parkMark
        ∧ ((s.admitOne a).st a).demand = (s.st a).demand := by
      rw [State.admitOne]
      rcases State.st_warnAdmitted_self ((s.dequeue a).modSt a _) a with e | e <;> rw [e, self] <;> exact ⟨rfl, rfl, rfl⟩
    exact .wakes (.inr ha) (.inr (.inl waking))
      (fun hd => kept.1.trans (hd.resolve_left (by simp [ha]))) (fun hm => kept.2.1.trans (hm.resolve_left (by simp [ha])))
      (fun hd _ => kept.2.2.trans hd)
  · simpa [hb] using hm
  · simp [waking] at hw
  · exact (s.admitOne_thinned a).parkQ

theorem State.admitWalk_fared {l : List Nat} (h : s.queuesMatch) (nodup : l.Nodup)
    (hl : ∀ b ∈ l, (s.st b).state = .wakeQueued) : s.Fared (s.admitWalk l) := by
  induction l generalizing s with
  | nil => exact .refl h
  | cons a l ih =>
    obtain ⟨ha, nodup⟩ := List.nodup_cons.mp nodup
    unfold State.admitWalk
    split
    · split
      · have one := State.admitOne_fared h (hl a (by simp))
        refine one.trans (ih one.queues nodup fun b hb => ?_)
        rw [s.st_admitOne_other a b (fun e => ha (e ▸ hb))]
        exact hl b (by simp [hb])
      · exact .refl h
    · exact ih h nodup fun b hb => hl b (by simp [hb])

theorem State.queuesMatch.waiting_nodup (h : s.queuesMatch) : (s.demandQ ++ s.schedQ).Nodup := by
  have nodup := h.1
  rw [List.append_assoc] at nodup
  exact nodup.of_append_right

theorem State.queuesMatch.mem_waiting (h : s.queuesMatch) : b ∈ s.demandQ ++ s.schedQ ↔ (s.st b).state = .wakeQueued :=
  (h.2 b).2

theorem State.queuesMatch.mem_parkQ (h : s.queuesMatch) : b ∈ s.parkQ ↔ (s.st b).state = .parkQueued := (h.2 b).1

theorem State.admissionPass_fared (h : s.queuesMatch) : s.Fared s.admissionPass := by
  unfold State.admissionPass
  split
  · exact .refl h
  · exact State.admitWalk_fared h h.waiting_nodup fun b hb => h.mem_waiting.mp hb

/-! ## Supporter faults (R137) -/

theorem Station.faultWith_state (now rated : Nat) (c : FaultCause) (r : Station) :
    (Station.faultWith now rated c r).state = .faulted := rfl

/-- The fault's record, and what the park-failure limit adds to it (R82, R102). -/
theorem State.st_faultOne_self (c : FaultCause) (h : hasRecord a) :
    ∃ x, (s.faultOne a c).st a = { Station.faultWith s.now (s.pol a).rated c (s.st a) with autoExempt := x } := by
  have self : (((s.dequeue a).modSt a (Station.faultWith s.now (s.pol a).rated c)).raise .stationFault).st a
      = Station.faultWith s.now (s.pol a).rated c (s.st a) := by
    rw [State.st_raise, State.st_modSt_self _ a _ h, State.st_dequeue]
  have limit (v : State) : ∃ x, (v.failLimitTest a).st a = { v.st a with autoExempt := x } := by
    unfold State.failLimitTest
    dsimp only
    split
    · exact ⟨true, by rw [State.st_raise, State.st_modSt_self _ a _ h]⟩
    · exact ⟨(v.st a).autoExempt, rfl⟩
  unfold State.faultOne
  dsimp only
  split
  · obtain ⟨x, hx⟩ := limit (((s.dequeue a).modSt a (Station.faultWith s.now (s.pol a).rated c)).raise .stationFault)
    exact ⟨x, by rw [hx, self]⟩
  · obtain ⟨x, hx⟩ := limit (((s.dequeue a).modSt a (Station.faultWith s.now (s.pol a).rated c)).raise .stationFault)
    exact ⟨x, by rw [hx, self]⟩
  · exact ⟨_, self⟩

theorem State.failLimitTest_queues (s : State) (a : Nat) :
    (s.failLimitTest a).parkQ = s.parkQ ∧ (s.failLimitTest a).demandQ = s.demandQ
      ∧ (s.failLimitTest a).schedQ = s.schedQ := by
  unfold State.failLimitTest
  dsimp only
  split <;> simp

theorem State.faultOne_queues (s : State) (a : Nat) (c : FaultCause) :
    (s.faultOne a c).parkQ = s.parkQ.filter (· != a) ∧ (s.faultOne a c).demandQ = s.demandQ.filter (· != a)
      ∧ (s.faultOne a c).schedQ = s.schedQ.filter (· != a) := by
  have base := State.failLimitTest_queues (((s.dequeue a).modSt a (Station.faultWith s.now (s.pol a).rated c)).raise
    .stationFault) a
  unfold State.faultOne
  dsimp only
  split
  · simpa [State.dequeue] using base
  · simpa [State.dequeue] using base
  · simp [State.dequeue]

theorem State.faultOne_fared (c : FaultCause) (h : s.queuesMatch)
    (ha : (s.st a).state = .parked ∨ (s.st a).state = .wakeQueued) : s.Fared (s.faultOne a c) := by
  have known : hasRecord a := hasRecord_of_state s a (by rcases ha with ha | ha <;> simp [ha])
  obtain ⟨x, self⟩ := State.st_faultOne_self (s := s) c known
  obtain ⟨hp, hd, -⟩ := s.faultOne_queues a c
  refine .of_one a ((State.faultOne_moves (w := False) s a c).queuesMatch h) ?_
    (fun b hb => s.st_faultOne_other a b c hb) (fun b hb hm => ?_) (fun hw => ?_) ?_
  · rw [self]
    exact .wakes ha (.inr (.inr rfl)) (fun _ => rfl) (fun _ => rfl) (fun _ hf => absurd rfl hf)
  · rw [hd]
    simpa [hb] using hm
  · rw [self] at hw
    cases hw
  · rw [hp]
    exact List.filter_sublist

theorem State.faultAll_fared (c : FaultCause) {l : List Nat} (h : s.queuesMatch) (nodup : l.Nodup)
    (hl : ∀ b ∈ l, (s.st b).state = .wakeQueued) : s.Fared (l.foldl (fun t q => t.faultOne q c) s) := by
  induction l generalizing s with
  | nil => exact .refl h
  | cons a l ih =>
    obtain ⟨ha, nodup⟩ := List.nodup_cons.mp nodup
    have one := State.faultOne_fared c h (.inr (hl a (by simp)))
    refine one.trans (ih one.queues nodup fun b hb => ?_)
    rw [s.st_faultOne_other a b c (fun e => ha (e ▸ hb))]
    exact hl b (by simp [hb])

theorem State.waitingOn_nodup (s : State) (p : Nat) : (s.waitingOn p).Nodup :=
  (addresses_nodup.filter _).filter _

theorem State.spreadFaults_fared (n : Nat) (l : List Nat) (h : s.queuesMatch) : s.Fared (s.spreadFaults n l) := by
  induction n generalizing s l with
  | zero => exact .refl h
  | succ n ih =>
    cases l with
    | nil => exact .refl h
    | cons p l =>
      have victims := State.faultAll_fared .supportFault h (s.waitingOn_nodup p)
        fun b hb => ((s.mem_waitingOn p b).mp hb).2
      exact victims.trans (ih _ victims.queues)

theorem State.faultSpread_fared (c : FaultCause) (h : s.queuesMatch)
    (ha : (s.st a).state = .parked ∨ (s.st a).state = .wakeQueued) : s.Fared (s.faultSpread a c) :=
  have one := State.faultOne_fared c h ha
  one.trans (State.spreadFaults_fared _ _ one.queues)

/-! ## Wake queues and their walks (R134, R143) -/

theorem Station.account_due (now rated : Nat) (r : Station) :
    (r.account now rated).wakeDue = r.wakeDue ∧ (r.account now rated).demand = r.demand := by
  unfold Station.account
  split <;> exact ⟨rfl, rfl⟩

theorem State.st_joinQueue_self (q : Priority) (h : hasRecord a) :
    (s.joinQueue a q).st a
      = { (s.st a).account s.now (s.pol a).rated with
          state := .wakeQueued, parkMark := none, wakeDue := none, demand := (s.st a).demand || q = .demand } := by
  have accounted : (s.account a).st a = (s.st a).account s.now (s.pol a).rated := s.st_modSt_self a _ h
  rw [State.joinQueue, State.st_enqueue, State.st_modSt_self _ a _ h, accounted,
    (Station.account_due s.now (s.pol a).rated (s.st a)).2]

theorem State.joinQueue_queues (s : State) (a : Nat) (q : Priority) :
    (s.joinQueue a q).parkQ = s.parkQ
      ∧ (s.joinQueue a q).demandQ = (if q = .demand then s.demandQ ++ [a] else s.demandQ)
      ∧ (s.joinQueue a q).schedQ = (if q = .scheduled then s.schedQ ++ [a] else s.schedQ) := by
  cases q <;> simp [State.joinQueue, State.account, State.enqueue]

theorem State.joinQueue_fared (q : Priority) (h : s.queuesMatch) (ha : (s.st a).state = .parked) :
    s.Fared (s.joinQueue a q) := by
  have known : hasRecord a := hasRecord_of_state s a (by simp [ha])
  obtain ⟨hp, hd, -⟩ := s.joinQueue_queues a q
  refine .of_one a ((State.joinQueue_moves (w := False) s a q ha).queuesMatch h) ?_
    (fun b hb => s.st_joinQueue_other a b q hb) (fun b hb hm => ?_) (fun _ hm => ?_) (hp ▸ .refl _)
  · rw [State.st_joinQueue_self q known]
    exact .wakes (.inl ha) (.inl rfl) (fun _ => rfl) (fun _ => rfl) (fun hd _ => by simp [hd])
  · rw [hd]
    split <;> simp [hm]
  · rw [hd]
    split <;> simp [hm]

theorem State.st_moveToDemand_self (h : hasRecord a) : (s.moveToDemand a).st a = { s.st a with demand := true } := by
  rw [State.moveToDemand, State.st_enqueue, State.setDemand, State.st_modSt_self _ a _ h, State.st_dequeue]

theorem State.moveToDemand_queues (s : State) (a : Nat) :
    (s.moveToDemand a).parkQ = s.parkQ.filter (· != a)
      ∧ (s.moveToDemand a).demandQ = s.demandQ.filter (· != a) ++ [a]
      ∧ (s.moveToDemand a).schedQ = s.schedQ.filter (· != a) := by
  simp [State.moveToDemand, State.setDemand, State.dequeue, State.enqueue]

/-- A WAKE_QUEUED record whose demand flag alone may have risen. -/
theorem Station.Fared.demanded {r : Station} (h : r.state = .wakeQueued) :
    Station.Fared r { r with demand := true } :=
  .wakes (.inr h) (.inl h) (fun hd => hd.resolve_left (by simp [h])) (fun hm => hm.resolve_left (by simp [h]))
    (fun _ _ => rfl)

theorem State.moveToDemand_fared (h : s.queuesMatch) (ha : (s.st a).state = .wakeQueued) :
    s.Fared (s.moveToDemand a) := by
  have known : hasRecord a := hasRecord_of_state s a (by simp [ha])
  obtain ⟨hp, hd, -⟩ := s.moveToDemand_queues a
  refine .of_one a ((State.moveToDemand_moves (w := False) s a ha).queuesMatch h) ?_
    (fun b hb => s.st_moveToDemand_other a b hb) (fun b hb hm => ?_) (fun _ _ => ?_) (hp ▸ List.filter_sublist)
  · rw [State.st_moveToDemand_self known]
    exact .demanded ha
  · rw [hd]
    simp [hb, hm]
  · rw [hd]
    simp

theorem State.chainOne_fared (q : Priority) (p : Nat) (h : s.queuesMatch) : s.Fared (s.chainOne q p).1 := by
  unfold State.chainOne
  split
  · next hp => exact State.joinQueue_fared q h hp
  · next hp =>
    split
    · exact State.moveToDemand_fared h hp
    · exact .refl h
  · exact .refl h

theorem State.chainAll_fared (q : Priority) (l : List Nat) (h : s.queuesMatch) : s.Fared (s.chainAll q l).1 := by
  induction l generalizing s with
  | nil => exact .refl h
  | cons p l ih =>
    have one := State.chainOne_fared q p h
    exact one.trans (ih one.queues)

theorem State.chainWalk_fared (n : Nat) (l : List Nat) (h : s.queuesMatch) : s.Fared (s.chainWalk n l) := by
  induction n generalizing s l with
  | zero => exact .refl h
  | succ n ih =>
    cases l with
    | nil => exact .refl h
    | cons a l =>
      unfold State.chainWalk
      split
      · exact ih l h
      · next ha =>
        split
        · have one := State.faultSpread_fared .supportFault h (.inr (not_not.mp ha))
          exact one.trans (ih _ one.queues)
        · have all := State.chainAll_fared (s.queueOf a) (s.liveSupporters a) h
          exact all.trans (ih _ all.queues)

theorem State.afterEntry_fared (a : Nat) (h : s.queuesMatch) : s.Fared (s.afterEntry a) := State.chainWalk_fared _ _ h

/-! ## Taking a wake request (R142) -/

theorem State.setDemand_fared (h : s.queuesMatch) (ha : (s.st a).state = .wakeQueued) : s.Fared (s.setDemand a) := by
  have known : hasRecord a := hasRecord_of_state s a (by simp [ha])
  refine .of_one a ((State.setDemand_moves (w := False) s a).queuesMatch h) ?_
    (fun b hb => s.st_modSt_other a b _ hb) (fun b _ hm => ?_) (fun _ hm => ?_) ((s.modSt_thinned a _).parkQ)
  · rw [State.setDemand, s.st_modSt_self a _ known]
    exact .demanded ha
  · simpa [State.setDemand] using hm
  · simpa [State.setDemand] using hm

theorem State.takeWake_of_parked (q : Priority) (h : (s.st a).state = .parked) :
    s.takeWake a q = ((s.joinQueue a q).afterEntry a).admissionPass := by
  unfold State.takeWake
  rw [h]

/-- A scheduled wake for a station that is not PARKED is dropped (R142). -/
theorem State.takeWake_scheduled (h : (s.st a).state ≠ .parked) : s.takeWake a .scheduled = s := by
  unfold State.takeWake
  cases hs : (s.st a).state with
  | parked => exact absurd hs h
  | _ => rfl

/-- A demand wake for a waiting station takes it to the demand queue. -/
theorem State.takeWake_of_waiting (h : (s.st a).state = .wakeQueued) :
    s.takeWake a .demand
      = if s.queueOf a = .scheduled then ((s.moveToDemand a).afterEntry a).admissionPass else s.setDemand a := by
  unfold State.takeWake
  rw [h]
  dsimp only
  cases s.queueOf a <;> rfl

theorem State.takeWake_of_operating (h : (s.st a).state = .parking ∨ (s.st a).state = .waking) :
    s.takeWake a .demand = s.setDemand a := by
  unfold State.takeWake
  rcases h with h | h <;> rw [h]

/-- A wake request for a station neither PARKED, waiting, PARKING nor WAKING is dropped. -/
theorem State.takeWake_dropped (q : Priority) (h : (s.st a).state ≠ .parked) (hw : (s.st a).state ≠ .wakeQueued)
    (ho : (s.st a).state ≠ .parking ∧ (s.st a).state ≠ .waking) : s.takeWake a q = s := by
  unfold State.takeWake
  cases hs : (s.st a).state with
  | parked => exact absurd hs h
  | wakeQueued => exact absurd hs hw
  | parking => exact absurd hs ho.1
  | waking => exact absurd hs ho.2
  | _ => rfl

theorem State.takeWake_fared (q : Priority) (h : s.queuesMatch)
    (ha : (s.st a).state ≠ .parking ∧ (s.st a).state ≠ .waking) : s.Fared (s.takeWake a q) := by
  by_cases hp : (s.st a).state = .parked
  · rw [State.takeWake_of_parked q hp]
    have joined := State.joinQueue_fared q h hp
    have walked := State.afterEntry_fared a joined.queues
    exact (joined.trans walked).trans (State.admissionPass_fared walked.queues)
  · cases q with
    | scheduled => rw [State.takeWake_scheduled hp]; exact .refl h
    | demand =>
      by_cases hw : (s.st a).state = .wakeQueued
      · rw [State.takeWake_of_waiting hw]
        split
        · have moved := State.moveToDemand_fared h hw
          have walked := State.afterEntry_fared a moved.queues
          exact (moved.trans walked).trans (State.admissionPass_fared walked.queues)
        · exact State.setDemand_fared h hw
      · rw [State.takeWake_dropped _ hp hw ha]
        exact .refl h

/-- The walks and the admission pass leave a scheduled wake's station be, whatever its state. -/
theorem State.takeWake_scheduled_fared (a : Nat) (h : s.queuesMatch) : s.Fared (s.takeWake a .scheduled) := by
  by_cases hp : (s.st a).state = .parked
  · exact State.takeWake_fared _ h (by simp [hp])
  · rw [State.takeWake_scheduled hp]
    exact .refl h

/-- A PARKED station for which a wake is taken is PARKED no longer (R143). -/
theorem State.takeWake_woken (q : Priority) (h : s.queuesMatch) (hp : (s.st a).state = .parked) :
    ((s.takeWake a q).st a).state.woken ∧ ((s.takeWake a q).st a).wakeDue = none
      ∧ ((s.takeWake a q).st a).parkMark = none := by
  have known : hasRecord a := hasRecord_of_state s a (by simp [hp])
  have joined := State.joinQueue_fared q h hp
  have walked := State.afterEntry_fared a joined.queues
  have rest := (walked.trans (State.admissionPass_fared walked.queues)).st a
  have self := State.st_joinQueue_self (s := s) q known
  rw [State.takeWake_of_parked q hp]
  have waits : ((s.joinQueue a q).st a).state.woken := by rw [self]; exact .inl rfl
  exact ⟨rest.woken waits, rest.wakeDue waits (by rw [self]), rest.parkMark waits (by rw [self])⟩

/-! ## The end of a step (R60, R174) -/

/-- An entry to FREE is the station's own part of it, with an admission pass after it or without (R77, R147). -/
theorem State.enterFree_cases (s : State) (a : Nat) (f : Station → Station) :
    s.enterFree a f = ((s.dequeue a).modSt a fun r => f (r.freed s.now (s.pol a).rated))
      ∨ s.enterFree a f = ((s.dequeue a).modSt a fun r => f (r.freed s.now (s.pol a).rated)).admissionPass := by
  unfold State.enterFree
  dsimp only
  split
  · exact .inr rfl
  · exact .inl rfl

theorem State.enterFree_fared (f : Station → Station) (hf : ∀ r, (f r).state = r.state) (h : s.queuesMatch)
    (hp : (s.st a).state = .parkQueued) : s.Fared (s.enterFree a f) := by
  have known := hasRecord_of_queued hp
  have self : ((s.dequeue a).modSt a fun r => f (r.freed s.now (s.pol a).rated)).st a
      = f ((s.st a).freed s.now (s.pol a).rated) := by
    rw [State.st_modSt_self _ a _ known, State.st_dequeue]
  have free : (f ((s.st a).freed s.now (s.pol a).rated)).state = .free := hf _
  have left : s.Fared ((s.dequeue a).modSt a fun r => f (r.freed s.now (s.pol a).rated)) := by
    refine .of_one a (State.queuesMatch_leave h a _ ⟨?_, ?_⟩) ?_ (fun b hb => ?_) (fun b hb hm => ?_) (fun hw => ?_) ?_
    · simp [free]
    · simp [free]
    · exact .leaves hp (.inl (by rw [self, free]))
    · rw [State.st_modSt_other _ a b _ hb, State.st_dequeue]
    · simpa [State.dequeue, hb] using hm
    · rw [self, free] at hw
      cases hw
    · exact ((s.dequeue_thinned a).trans (State.modSt_thinned _ a _)).parkQ
  rcases s.enterFree_cases a f with e | e <;> rw [e]
  · exact left
  · exact left.trans (State.admissionPass_fared left.queues)

theorem State.leavePark_fared (a : Nat) (z : Bool) (h : s.queuesMatch) : s.Fared (s.leavePark a z) := by
  by_cases hp : (s.st a).state = .parkQueued
  · rw [State.leavePark_of_queued hp]
    exact State.enterFree_fared _ (fun r => by cases z <;> rfl) h hp
  · rw [State.leavePark_of_not_queued hp]
    exact .refl h

theorem State.startPark_fared (h : s.queuesMatch) (ha : a ∈ s.parkQ) : s.Fared (s.startPark a) := by
  have hp := h.mem_parkQ.mp ha
  have known := hasRecord_of_queued hp
  have self : ((s.startPark a).st a).state = .parking := by
    rw [State.startPark, State.st_modSt_self _ a _ known]
  refine .of_one a ((State.startPark_moves (w := False) s a ha).queuesMatch h) (.leaves hp (.inr self))
    (fun b hb => State.st_startPark_other hb) (fun b hb hm => ?_) (fun hw => ?_) (s.startPark_thinned a).parkQ
  · simpa [State.startPark, State.dequeue, hb] using hm
  · simp [self] at hw

theorem State.startExchange_fared (x : Exchange) (h : s.queuesMatch) : s.Fared (s.startExchange x) := by
  rw [State.startExchange_eq]
  exact .same h rfl rfl rfl rfl

theorem State.startOwn_fared (c : ReqClass) (q : ReqRef) (a : Nat) (x : Body) (h : s.queuesMatch) :
    s.Fared (s.startOwn c q a x) := by
  rw [State.startOwn_eq]
  exact .same h rfl rfl rfl rfl

theorem State.markInFlight_fared (k : DelayKey) (h : s.queuesMatch) : s.Fared (s.markInFlight k) :=
  .same h rfl rfl rfl rfl

theorem State.arbitrate_fared (n : Nat) (h : s.queuesMatch) : s.Fared (State.arbitrate n s) := by
  induction n generalizing s with
  | zero => exact .refl h
  | succ n ih =>
    unfold State.arbitrate
    split
    · exact .refl h
    · exact (State.markInFlight_fared _ h).trans (State.startExchange_fared _ (State.markInFlight_fared _ h).queues)
    · exact State.startExchange_fared _ h
    · exact State.startOwn_fared _ _ _ _ h
    · next a head =>
      split
      · have parking := State.startPark_fared h (State.head_mem_parkQ head)
        exact parking.trans (State.startOwn_fared _ _ _ _ parking.queues)
      · have left := State.leavePark_fared a false h
        exact left.trans (ih left.queues)
    · exact State.startOwn_fared _ _ _ _ h

theorem State.modeCheck_fared (h : s.queuesMatch) : s.Fared s.modeCheck := by
  rw [State.modeCheck_eq]
  exact .same h rfl rfl rfl rfl

theorem State.finish_fared (h : s.queuesMatch) : s.Fared s.finish := by
  unfold State.finish
  dsimp only
  split
  · exact (State.modeCheck_fared h).trans (State.arbitrate_fared _ (State.modeCheck_fared h).queues)
  · exact State.modeCheck_fared h

end Sys2Proof.Machine
end


section
/-! SUPPORT. SETs to gate-held stations, posted and not: held, demanding, releasing or refused (R31 to R35, R38, R39). -/

namespace Sys2Proof.Machine

open Station (BeliefKept HoldKept beliefOrder)

variable {s t p : State} {src dst tag : Byte} {a b : Nat} {r : SetRec} {e : Entry}

/-! ## A demanded station stays so (R143) -/

/-- A station on its way out of PARKED by a demand: demanded unless it faults, and while it waits in the demand queue. -/
structure State.Demanded (s : State) (a : Nat) : Prop where
  woken : (s.st a).state.woken
  demand : (s.st a).state ≠ .faulted → (s.st a).demand = true
  queue : (s.st a).state = .wakeQueued → a ∈ s.demandQ

theorem State.Demanded.fared (h : s.Demanded a) (k : s.Fared t) : t.Demanded a := by
  have fate := k.st a
  have same (hs : (s.st a).state = .waking ∨ (s.st a).state = .faulted) : t.st a = s.st a :=
    fate.eq_of_still (by rcases hs with e | e <;> simp [StState.still, e]) (by rcases hs with e | e <;> simp [e])
  refine ⟨fate.woken h.woken, fun hf => ?_, fun hw => ?_⟩
  · refine fate.demand h.woken (h.demand fun hs => hf ?_) hf
    rw [same (.inr hs), hs]
  · rcases h.woken with e | e | e
    · exact k.demandQ a e (h.queue e) hw
    · rw [same (.inl e), e] at hw; cases hw
    · rw [same (.inr e), e] at hw; cases hw

theorem State.Demanded.not_scheduled (h : s.Demanded a) (hq : s.queuesMatch) : a ∉ s.schedQ := by
  intro hs
  have waits := hq.mem_waiting.mp (List.mem_append_right _ hs)
  exact List.disjoint_of_nodup_append hq.waiting_nodup (h.queue waits) hs

theorem State.takeWake_demanded (h : s.queuesMatch) (ha : (s.st a).state = .parked ∨ (s.st a).state = .wakeQueued) :
    (s.takeWake a .demand).Demanded a := by
  have known : hasRecord a := hasRecord_of_state s a (by rcases ha with ha | ha <;> simp [ha])
  rcases ha with ha | ha
  · have joined := State.joinQueue_fared .demand h ha
    have walked := State.afterEntry_fared a joined.queues
    rw [State.takeWake_of_parked _ ha]
    refine State.Demanded.fared ?_ (walked.trans (State.admissionPass_fared walked.queues))
    have self := State.st_joinQueue_self (s := s) .demand known
    refine ⟨by rw [self]; exact .inl rfl, fun _ => by simp [self], fun _ => ?_⟩
    rw [(s.joinQueue_queues a .demand).2.1]
    simp
  · rw [State.takeWake_of_waiting ha]
    split
    · have moved := State.moveToDemand_fared h ha
      have walked := State.afterEntry_fared a moved.queues
      refine State.Demanded.fared ?_ (walked.trans (State.admissionPass_fared walked.queues))
      have self := State.st_moveToDemand_self (s := s) known
      refine ⟨by rw [self]; exact .inl ha, fun _ => by simp [self], fun _ => ?_⟩
      rw [(s.moveToDemand_queues a).2.1]
      simp
    · next hq =>
      have self : (s.setDemand a).st a = { s.st a with demand := true } := s.st_modSt_self a _ known
      refine ⟨by rw [self]; exact .inl ha, fun _ => by rw [self], fun _ => ?_⟩
      have demanded : s.demandQ.contains a = true := by
        by_contra hn
        exact hq (if_neg hn)
      simpa [State.setDemand] using demanded

/-! ## Faults come of supporters alone (R137) -/

/-- No station has become FAULTED. -/
def State.Unfaulted (s t : State) : Prop := ∀ b, (t.st b).state = .faulted → (s.st b).state = .faulted

theorem State.Unfaulted.trans {u : State} (h : s.Unfaulted t) (k : t.Unfaulted u) : s.Unfaulted u :=
  fun b hb => h b (k b hb)

theorem State.Unfaulted.same (h : t.stations = s.stations) : s.Unfaulted t := fun b hb => by
  rwa [State.st_congr _ _ h] at hb

theorem State.modSt_unfaulted (a : Nat) (f : Station → Station)
    (h : (f (s.st a)).state = .faulted → (s.st a).state = .faulted) : s.Unfaulted (s.modSt a f) := fun b hb => by
  rcases s.st_modSt_cases a f b with ⟨rfl, -, k⟩ | ⟨-, k⟩ <;> rw [k] at hb
  · exact h hb
  · exact hb

theorem State.dequeue_unfaulted (a : Nat) : s.Unfaulted (s.dequeue a) := .same rfl

theorem State.admitOne_unfaulted (a : Nat) : s.Unfaulted (s.admitOne a) := by
  intro b hb
  rw [State.admitOne, State.warnAdmitted_state] at hb
  exact ((s.dequeue_unfaulted a).trans (State.modSt_unfaulted a _ (by intro h; cases h))) b hb

theorem State.admitWalk_unfaulted (l : List Nat) : s.Unfaulted (s.admitWalk l) := by
  induction l generalizing s with
  | nil => exact fun _ h => h
  | cons a l ih =>
    unfold State.admitWalk
    split
    · split
      · exact (State.admitOne_unfaulted a).trans ih
      · exact fun _ h => h
    · exact ih

theorem State.admissionPass_unfaulted : s.Unfaulted s.admissionPass := by
  unfold State.admissionPass
  split
  · exact fun _ h => h
  · exact State.admitWalk_unfaulted _

theorem State.leavePark_unfaulted (a : Nat) (z : Bool) : s.Unfaulted (s.leavePark a z) := by
  have left : s.Unfaulted ((s.dequeue a).modSt a fun x =>
      (fun y : Station => if z then { y with credit := 0 } else y) (x.freed s.now (s.pol a).rated)) :=
    (s.dequeue_unfaulted a).trans (State.modSt_unfaulted a _ (by intro h; cases z <;> cases h))
  by_cases hp : (s.st a).state = .parkQueued
  · rw [State.leavePark_of_queued hp]
    rcases s.enterFree_cases a _ with k | k <;> rw [k]
    · exact left
    · exact left.trans State.admissionPass_unfaulted
  · rw [State.leavePark_of_not_queued hp]
    exact fun _ h => h

theorem State.startOwn_unfaulted (c : ReqClass) (q : ReqRef) (a : Nat) (x : Body) :
    s.Unfaulted (s.startOwn c q a x) := by
  rw [State.startOwn_eq]
  exact .same rfl

theorem State.startExchange_unfaulted (x : Exchange) : s.Unfaulted (s.startExchange x) := by
  rw [State.startExchange_eq]
  exact .same rfl

theorem State.markInFlight_unfaulted (k : DelayKey) : s.Unfaulted (s.markInFlight k) := .same rfl

theorem State.startPark_unfaulted (a : Nat) : s.Unfaulted (s.startPark a) := by
  unfold State.startPark
  exact (s.dequeue_unfaulted a).trans (State.modSt_unfaulted a _ (by intro h; cases h))

theorem State.arbitrate_unfaulted (n : Nat) : s.Unfaulted (State.arbitrate n s) := by
  induction n generalizing s with
  | zero => exact fun _ h => h
  | succ n ih =>
    unfold State.arbitrate
    split
    · exact fun _ h => h
    · exact (State.markInFlight_unfaulted _).trans (State.startExchange_unfaulted _)
    · exact State.startExchange_unfaulted _
    · exact State.startOwn_unfaulted _ _ _ _
    · split
      · exact (State.startPark_unfaulted _).trans (State.startOwn_unfaulted _ _ _ _)
      · exact (State.leavePark_unfaulted _ _).trans ih
    · exact State.startOwn_unfaulted _ _ _ _

theorem State.finish_unfaulted : s.Unfaulted s.finish := by
  have mode : s.Unfaulted s.modeCheck := .same (by rw [State.modeCheck_eq])
  unfold State.finish
  dsimp only
  split
  · exact mode.trans (State.arbitrate_unfaulted _)
  · exact mode

/-- A walk from a station that no station of class PASS or MANAGED supports ends where it begins. -/
theorem State.afterEntry_of_no_supporters (h : s.liveSupporters a = []) : s.afterEntry a = s := by
  unfold State.afterEntry State.chainWalk
  split
  · rfl
  · rw [if_neg (by simp [State.faultedSupporter, h]), h]
    rfl

theorem State.supporters_congr (h : t.cfg = s.cfg) (a : Nat) : t.supporters a = s.supporters a := by
  simp only [State.supporters, State.groupList, h]

theorem State.liveSupporters_congr (h : t.cfg = s.cfg) (a : Nat) : t.liveSupporters a = s.liveSupporters a := by
  simp only [State.liveSupporters, State.supporters_congr h, State.pol_congr _ _ h]

theorem State.joinQueue_unfaulted (q : Priority) : s.Unfaulted (s.joinQueue a q) := by
  have accounted : s.Unfaulted (s.account a) := State.modSt_unfaulted a _ (by simp)
  have turned := accounted.trans (State.modSt_unfaulted a
    (fun x => { x with state := .wakeQueued, parkMark := none, wakeDue := none, demand := x.demand || q = .demand })
    (by intro h; cases h))
  exact turned.trans (.same (by simp [State.joinQueue]))

theorem State.setDemand_unfaulted : s.Unfaulted (s.setDemand a) := State.modSt_unfaulted a _ (by exact id)

theorem State.moveToDemand_unfaulted : s.Unfaulted (s.moveToDemand a) :=
  ((s.dequeue_unfaulted a).trans (State.setDemand_unfaulted (a := a))).trans (.same (by simp [State.moveToDemand]))

/-- A wake with no supporter behind it faults no station. -/
theorem State.takeWake_unfaulted (q : Priority) (h : s.liveSupporters a = []) : s.Unfaulted (s.takeWake a q) := by
  by_cases hp : (s.st a).state = .parked
  · rw [State.takeWake_of_parked q hp,
      State.afterEntry_of_no_supporters ((State.liveSupporters_congr (State.joinQueue_kept s a q).cfg a).trans h)]
    exact (State.joinQueue_unfaulted q).trans State.admissionPass_unfaulted
  · cases q with
    | scheduled => rw [State.takeWake_scheduled hp]; exact fun _ h => h
    | demand =>
      by_cases hw : (s.st a).state = .wakeQueued
      · rw [State.takeWake_of_waiting hw]
        split
        · rw [State.afterEntry_of_no_supporters ((State.liveSupporters_congr (State.moveToDemand_kept s a).cfg a).trans h)]
          exact State.moveToDemand_unfaulted.trans State.admissionPass_unfaulted
        · exact State.setDemand_unfaulted
      · by_cases ho : (s.st a).state = .parking ∨ (s.st a).state = .waking
        · rw [State.takeWake_of_operating ho]
          exact State.setDemand_unfaulted
        · rw [State.takeWake_dropped _ hp hw (not_or.mp ho)]
          exact fun _ h => h

/-! ## Posted SETs to a gate-held station (R31, R33, R35) -/

theorem State.postSet_held_full (h : s.held dst.toNat = true) (hn : r.action ≠ .noop) (hs : r.action ≠ .stop)
    (full : s.holdPlace dst.toNat r (s.newEntry src dst tag (.set r)) = none) :
    s.postSet src dst tag r = s.nak src tag nakHeldFull := by
  unfold State.postSet
  dsimp only
  rw [if_pos h, full]
  cases ha : r.action with
  | noop => exact absurd ha hn
  | stop => exact absurd ha hs
  | _ => rfl

theorem State.postSet_held_placed (h : s.held dst.toNat = true) (hn : r.action ≠ .noop) (hs : r.action ≠ .stop)
    (place : s.holdPlace dst.toNat r (s.newEntry src dst tag (.set r)) = some p) :
    s.postSet src dst tag r
      = if s.isDemand dst.toNat r then (p.accepted src tag dst.toNat r).takeWake dst.toNat .demand
        else p.accepted src tag dst.toNat r := by
  unfold State.postSet
  dsimp only
  rw [if_pos h, place]
  cases ha : r.action with
  | noop => exact absurd ha hn
  | stop => exact absurd ha hs
  | _ => rfl

/-- A STOP that releases its station (R35). -/
theorem State.postSet_stop_placed (h : s.held dst.toNat = true) (ha : r.action = .stop)
    (hr : s.releasable dst.toNat = true)
    (place : s.placeFree dst.toNat r (s.newEntry src dst tag (.set r)) = some p) :
    s.postSet src dst tag r = (p.accepted src tag dst.toNat r).enterFree dst.toNat id := by
  unfold State.postSet
  dsimp only
  rw [if_pos h, ha]
  dsimp only
  rw [if_pos hr, place]

theorem State.postSet_stop_full (h : s.held dst.toNat = true) (ha : r.action = .stop)
    (hr : s.releasable dst.toNat = true)
    (full : s.placeFree dst.toNat r (s.newEntry src dst tag (.set r)) = none) :
    s.postSet src dst tag r = s.nak src tag (s.noRoom dst.toNat) := by
  unfold State.postSet
  dsimp only
  rw [if_pos h, ha]
  dsimp only
  rw [if_pos hr, full]

/-- A STOP that is held (R35). -/
theorem State.postSet_stop_held (h : s.held dst.toNat = true) (ha : r.action = .stop)
    (hr : s.releasable dst.toNat = false) :
    s.postSet src dst tag r
      = s.acceptIf src tag dst.toNat r nakHeldFull
          (s.holdPlace dst.toNat r (s.newEntry src dst tag (.set r))) := by
  unfold State.postSet
  dsimp only
  rw [if_pos h, ha]
  dsimp only
  rw [if_neg (by simp [hr])]

theorem State.releasable_iff :
    s.releasable a = true
      ↔ (s.st a).state = .parked ∨ (s.st a).state = .wakeQueued
        ∨ ((s.st a).state = .waking ∧ (s.st a).phase = .warn) := by
  unfold State.releasable
  cases (s.st a).state <;> simp

@[simp] theorem State.hunt_releasable (q : Port) : (s.hunt q).releasable a = s.releasable a := by
  unfold State.releasable
  rw [State.st_hunt]

@[simp] theorem State.hunt_isDemand (q : Port) : (s.hunt q).isDemand a r = s.isDemand a r := by
  unfold State.isDemand
  rw [State.pol_hunt]

/-- The record of a station that an accepted SET does not take out of the park queue. -/
theorem State.Placed.st_accepted {posted hold : List Entry} {cnt : FwdCounters}
    (h : s.Placed p a posted hold cnt) (ha : hasRecord a) (hq : (s.st a).state ≠ .parkQueued) :
    (p.accepted src tag a r).st a = Station.accepting s.now r { s.st a with hold := hold } := by
  rw [State.accepted, State.answerOwn, State.st_answer, State.accept_of_not_queued (by rwa [h.state]),
    State.st_modSt_self _ a _ ha, h.self, h.now]

theorem State.Placed.accepted_queues {posted hold : List Entry} {cnt : FwdCounters}
    (h : s.Placed p a posted hold cnt) (hq : s.queuesMatch) : (p.accepted src tag a r).queuesMatch :=
  (State.accepted_moves (w := False) p src tag a r).queuesMatch (h.queuesMatch hq)

theorem State.hunt_queuesMatch (q : Port) (h : s.queuesMatch) : (s.hunt q).queuesMatch :=
  State.queuesMatch_congr h (by simp) (by simp) (by simp) (by simp)

theorem State.hunt_settings (q : Port) : s.settingsKept (s.hunt q) := by
  cases q <;> exact ⟨rfl, rfl, rfl, rfl, rfl, rfl, rfl, rfl, rfl, rfl, rfl⟩

/-- Settles O24. -/
theorem setpointIsHeld : Obligations.SetpointIsHeld := by
  intro src dst tag r s h hs hd hact hn hw hheld
  have known := hasRecord_of_serves hs
  have run := exec_setIntake_posted (tag := tag) (r := r) h hs hd (by simp [hact]) (by simp [hact]) hn
  have calm : (s.hunt .c).isDemand dst.toNat r = false := by simp [State.isDemand, hact, hw]
  have held {p : State} {hold : List Entry} {cnt : FwdCounters}
      (place : (s.hunt .c).holdPlace dst.toNat r ((s.hunt .c).newEntry src dst tag (.set r)) = some p)
      (placed : (s.hunt .c).Placed p dst.toNat s.fwd.posted hold cnt) :
      ∃ t, exec (.setIntake src dst tag r) s = .next t
        ∧ (t.st dst.toNat).hold = hold ∧ t.fwd.cnt = cnt ∧ t.fwd.posted = s.fwd.posted
        ∧ (t.st dst.toNat).shadow = (s.st dst.toNat).shadow ∧ (t.st dst.toNat).notFresh = true
        ∧ (t.st dst.toNat).lock = (if r.lock then some (s.mono + 10000) else none)
        ∧ (∀ b, b ≠ dst.toNat → (t.st b).hold = (s.st b).hold)
        ∧ (s.hunt .c).answeredWith t ⟨src, byte s.straps.addr, tag, .ack 1⟩
        ∧ s.settingsKept t := by
    have posts := placed.accepted_finish (src := src) (tag := tag) (r := r) known
    rw [run, State.postSet_held_placed (by simpa using hheld) (by simp [hact]) (by simp [hact]) place, calm]
    refine ⟨_, rfl, posts.self.hold, posts.cnt, posts.posted, ?_, posts.self.notFresh, posts.self.lock, fun b hb => ?_,
      by simpa using posts.answered, (State.hunt_settings .c).trans posts.settings⟩
    · have shadow := posts.self.shadow
      simpa [shadowAfter, hact] using shadow
    · simpa using (posts.other b hb).hold
  refine ⟨fun hco => ?_, fun hco hroom => ?_, fun hco hfull => ?_⟩
  · obtain ⟨p, place, placed⟩ := State.holdPlace_coalesces (s := s.hunt .c)
      (e := (s.hunt .c).newEntry src dst tag (.set r)) known (by simpa using hco)
    rw [State.st_hunt] at placed
    exact held place placed
  · obtain ⟨p, place, placed⟩ := State.holdPlace_joins (s := s.hunt .c)
      (e := (s.hunt .c).newEntry src dst tag (.set r)) known (by simpa using hco) (by simpa using hroom)
    rw [State.st_hunt] at placed
    exact held place placed
  · rw [run, State.postSet_held_full (by simpa using hheld) (by simp [hact]) (by simp [hact])
      (State.holdPlace_full (by simpa using hco) (by simpa using hfull))]
    rfl

end Sys2Proof.Machine
end


section
/-! SUPPORT. Demands and STOPs to gate-held stations, and SETs that are not posted (R33, R35, R38, R39). -/

namespace Sys2Proof.Machine

open Station (BeliefKept HoldKept beliefOrder)

variable {s t p : State} {src dst tag : Byte} {a b : Nat} {r : SetRec} {e : Entry}

theorem State.Acceptance.kept {u : State} {f : Frame} (h : s.Acceptance t a r f) (k : t.Kept BeliefKept u) :
    s.Acceptance u a r f := h.granted k.granted

theorem State.Placed.acceptance {posted hold : List Entry} {cnt : FwdCounters} (h : s.Placed p a posted hold cnt)
    (ha : hasRecord a) :
    p.Acceptance (p.accepted src tag a r) a r ⟨src, byte s.straps.addr, tag, .ack 1⟩ := by
  rw [← h.straps]
  exact State.accepted_acceptance ha

/-- What a demand's wake leaves of a gate-held station, at the end of the step. -/
theorem State.demand_end (h : s.queuesMatch) (hheld : s.held a = true) :
    ((s.st a).state = .parking ∨ (s.st a).state = .waking →
        (s.takeWake a .demand).finish.st a = { s.st a with demand := true })
      ∧ ((s.st a).state = .parked ∨ (s.st a).state = .wakeQueued →
          ((s.takeWake a .demand).finish.st a).state.woken
          ∧ (s.liveSupporters a = [] → ((s.takeWake a .demand).finish.st a).state ≠ .faulted)
          ∧ (((s.takeWake a .demand).finish.st a).state ≠ .faulted →
              ((s.takeWake a .demand).finish.st a).demand = true ∧ a ∉ (s.takeWake a .demand).finish.schedQ)) := by
  have known : hasRecord a := hasRecord_of_state s a fun k => by simp [State.held, k, StState.gateHeld] at hheld
  refine ⟨fun ho => ?_, fun hw => ?_⟩
  · have self : (s.setDemand a).st a = { s.st a with demand := true } := s.st_modSt_self a _ known
    have out : (s.setDemand a).unlisted a :=
      (s.modSt_thinned a _).unlisted (h.unlisted (by rcases ho with ho | ho <;> simp [StState.unqueued, ho]))
    rw [State.takeWake_of_operating ho, State.st_finish_unlisted out, self]
  · have demanded := State.takeWake_demanded h hw
    have woken := State.takeWake_fared (a := a) .demand h (by rcases hw with hw | hw <;> simp [hw])
    have ended := State.finish_fared woken.queues
    have final := demanded.fared ended
    refine ⟨final.woken, fun hl hf => ?_, fun hf => ⟨final.demand hf, final.not_scheduled ended.queues⟩⟩
    have before := ((State.takeWake_unfaulted .demand hl).trans State.finish_unfaulted) a hf
    rcases hw with hw | hw <;> simp [hw] at before

/-- Settles O25. -/
theorem demandWakesHeldStation : Obligations.DemandWakesHeldStation := by
  intro src dst tag r s h hs hd hact hn hheld hq
  have known := hasRecord_of_serves hs
  have kinds : r.action ≠ .noop ∧ r.action ≠ .stop ∧ r.action ≠ .park ∧ r.action ≠ .wake := by
    rcases hact with ha | ha | ⟨ha, -⟩ <;> simp [ha]
  obtain ⟨noop, stop, park, wake⟩ := kinds
  have run := exec_setIntake_posted (tag := tag) h hs hd park wake hn
  have demand : (s.hunt .c).isDemand dst.toNat r = true := by
    rcases hact with ha | ha | ⟨ha, hw⟩ <;> simp [State.isDemand, ha]
    exact hw
  refine ⟨fun hroom => ?_, fun hco hfull => ?_⟩
  · have placing : ∃ p cnt, (s.hunt .c).holdPlace dst.toNat r ((s.hunt .c).newEntry src dst tag (.set r)) = some p
        ∧ (s.hunt .c).Placed p dst.toNat s.fwd.posted
            ((if s.coalesces dst.toNat r then (s.st dst.toNat).hold.dropLast else (s.st dst.toNat).hold)
              ++ [s.entryNow src dst tag (.set r)]) cnt := by
      by_cases hco : s.coalesces dst.toNat r = true
      · obtain ⟨p, place, placed⟩ := State.holdPlace_coalesces (s := s.hunt .c)
          (e := (s.hunt .c).newEntry src dst tag (.set r)) known (by simpa using hco)
        rw [State.st_hunt] at placed
        rw [if_pos hco]
        exact ⟨p, _, place, placed⟩
      · have hco' : s.coalesces dst.toNat r = false := by simpa using hco
        obtain ⟨p, place, placed⟩ := State.holdPlace_joins (s := s.hunt .c)
          (e := (s.hunt .c).newEntry src dst tag (.set r)) known (by simpa using hco')
          (by simpa using hroom.resolve_left hco)
        rw [State.st_hunt] at placed
        rw [if_neg hco]
        exact ⟨p, _, place, placed⟩
    obtain ⟨p, cnt, place, placed⟩ := placing
    have queued := State.not_queued_of_held hheld
    have queues := placed.accepted_queues (src := src) (tag := tag) (r := r) (State.hunt_queuesMatch .c hq)
    have self := placed.st_accepted (src := src) (tag := tag) (r := r) known (by simpa using queued)
    rw [State.st_hunt] at self
    have state : ((p.accepted src tag dst.toNat r).st dst.toNat).state = (s.st dst.toNat).state := by rw [self]; rfl
    have posts := placed.posts (((placed.acceptance (src := src) (tag := tag) (r := r) known).kept
      (State.takeWake_kept _ dst.toNat .demand)).granted (State.finish_granted _))
    obtain ⟨operating, waiting⟩ := State.demand_end (a := dst.toNat) queues (by
      rw [State.held, state]
      exact hheld)
    rw [state] at operating waiting
    have supporters : (p.accepted src tag dst.toNat r).liveSupporters dst.toNat = s.liveSupporters dst.toNat := by
      refine State.liveSupporters_congr ?_ _
      have cfg := (placed.acceptance (src := src) (tag := tag) (r := r) known).settings.1
      exact cfg.trans (placed.settings.1.trans (s.hunt_cfg .c))
    rw [supporters] at waiting
    rw [run, State.postSet_held_placed (by simpa using hheld) noop stop place, if_pos demand]
    refine ⟨_, rfl, posts.self.hold, ?_, posts.self.lock, posts.self.notFresh, fun ho => ?_, waiting, posts.posted,
      fun b hb => ?_, by simpa using posts.answered, (State.hunt_settings .c).trans posts.settings⟩
    · rw [posts.self.shadow, State.st_hunt]
      rcases hact with ha | ha | ⟨ha, -⟩ <;> simp [shadowAfter, ha]
    · rw [operating ho, self]
      exact ⟨rfl, rfl, rfl⟩
    · have kept := posts.other b hb
      rw [State.st_hunt] at kept
      exact ⟨kept.shadow, kept.hold, kept.credit⟩
  · rw [run, State.postSet_held_full (by simpa using hheld) noop stop
      (State.holdPlace_full (by simpa using hco) (by simpa using hfull))]
    rfl

/-! ## STOP to a gate-held station (R35) -/

theorem State.coalesces_stop (h : r.action = .stop) : s.coalesces a r = false := by
  simp [State.coalesces, h]

/-- Settles O26. -/
theorem stopReleasesOrIsHeld : Obligations.StopReleasesOrIsHeld := by
  intro src dst tag r s h hs hd hact hq hn hheld
  have known := hasRecord_of_serves hs
  have run := exec_setIntake_posted (tag := tag) (r := r) h hs hd (by simp [hact]) (by simp [hact]) hn
  have heldU : (s.hunt .c).held dst.toNat = true := by simpa using hheld
  have queued := State.not_queued_of_held hheld
  have stops : ∀ x, shadowAfter r x = .stop := fun x => by simp [shadowAfter, hact]
  have accepted {u p : State} {posted hold : List Entry} {cnt : FwdCounters}
      (posts : (s.hunt .c).Posts u dst.toNat r posted hold cnt ⟨src, byte s.straps.addr, tag, .ack 1⟩) :
      u.fwd.posted = posted ∧ (u.st dst.toNat).hold = hold ∧ (u.st dst.toNat).shadow = .stop
      ∧ (u.st dst.toNat).lock = (if r.lock then some (s.mono + 10000) else none)
      ∧ (∀ b, b ≠ dst.toNat → (u.st b).shadow = (s.st b).shadow ∧ (u.st b).hold = (s.st b).hold)
      ∧ (s.hunt .c).answeredWith u ⟨src, byte s.straps.addr, tag, .ack 1⟩
      ∧ s.settingsKept u := by
    refine ⟨posts.posted, posts.self.hold, posts.self.shadow.trans (stops _), posts.self.lock, fun b hb => ?_,
      posts.answered, (State.hunt_settings .c).trans posts.settings⟩
    have kept := posts.other b hb
    rw [State.st_hunt] at kept
    exact ⟨kept.shadow, kept.hold⟩
  have released {p : State} {posted hold : List Entry} {cnt : FwdCounters}
      (hr : s.releasable dst.toNat = true)
      (place : (s.hunt .c).placeFree dst.toNat r ((s.hunt .c).newEntry src dst tag (.set r)) = some p)
      (placed : (s.hunt .c).Placed p dst.toNat posted hold cnt) :
      ∃ t, exec (.setIntake src dst tag r) s = .next t
        ∧ (t.fwd.posted = posted ∧ (t.st dst.toNat).hold = hold ∧ (t.st dst.toNat).shadow = .stop
          ∧ (t.st dst.toNat).lock = (if r.lock then some (s.mono + 10000) else none)
          ∧ (∀ b, b ≠ dst.toNat → (t.st b).shadow = (s.st b).shadow ∧ (t.st b).hold = (s.st b).hold)
          ∧ (s.hunt .c).answeredWith t ⟨src, byte s.straps.addr, tag, .ack 1⟩
          ∧ s.settingsKept t)
        ∧ (t.st dst.toNat).state = .free ∧ (t.st dst.toNat).demand = false
        ∧ dst.toNat ∉ t.parkQ ++ t.demandQ ++ t.schedQ := by
    have posts := placed.posts (((placed.acceptance (src := src) (tag := tag) (r := r) known).kept
      (State.enterFree_kept _ beliefOrder (fun _ _ k => k) dst.toNat id (fun x => .refl x))).granted
        (State.finish_granted _))
    have out := State.enterFree_unlisted (p.accepted src tag dst.toNat r) dst.toNat id
    have left := (State.finish_thinned _).unlisted out
    rw [run, State.postSet_stop_placed heldU hact (by simpa using hr) place]
    refine ⟨_, rfl, accepted (p := p) posts, ?_, ?_, ?_⟩
    · rw [State.st_finish_unlisted out, State.enterFree_st _ _ _ known]
      rfl
    · rw [State.st_finish_unlisted out, State.enterFree_st _ _ _ known]
      rfl
    · obtain ⟨hp, hdm, hsc⟩ := left
      simp [hp, hdm, hsc]
  refine ⟨fun hr he => ⟨fun hroom => ?_, fun hfull => ?_⟩, fun hr he hroom => ?_, fun hr hroom => ?_, fun hfull => ?_⟩
  · obtain ⟨p, place, placed⟩ := State.buffer_placed (s := s.hunt .c) (a := dst.toNat)
      (e := (s.hunt .c).newEntry src dst tag (.set r)) (by simpa using hroom)
    rw [State.st_hunt, he] at placed
    exact released (State.releasable_iff.mpr hr) ((State.placeFree_of_empty (by simpa using he)).trans place) placed
  · have full : (s.hunt .c).placeFree dst.toNat r ((s.hunt .c).newEntry src dst tag (.set r)) = none :=
      (State.placeFree_of_empty (by simpa using he)).trans (State.buffer_full (by simpa using hfull))
    have cause : (s.hunt .c).noRoom dst.toNat = nakBusy := if_pos (by simpa using he)
    rw [run, State.postSet_stop_full heldU hact (by simpa using State.releasable_iff.mpr hr) full, cause]
    rfl
  · obtain ⟨p, place, placed⟩ := State.holdPlace_joins (s := s.hunt .c)
      (e := (s.hunt .c).newEntry src dst tag (.set r)) known (State.coalesces_stop hact) (by simpa using hroom)
    rw [State.st_hunt] at placed
    exact released (State.releasable_iff.mpr hr) ((State.placeFree_of_held (by simpa using he)).trans place) placed
  · obtain ⟨p, place, placed⟩ := State.holdPlace_joins (s := s.hunt .c)
      (e := (s.hunt .c).newEntry src dst tag (.set r)) known (State.coalesces_stop hact) (by simpa using hroom)
    rw [State.st_hunt] at placed
    have stays : s.releasable dst.toNat = false := by
      by_contra hc
      exact hr (State.releasable_iff.mp (by simpa using hc))
    have posts := placed.accepted_finish (src := src) (tag := tag) (r := r) known
    have operating : (s.st dst.toNat).state.unqueued :=
      ⟨queued, fun hw => hr (.inr (.inl hw))⟩
    have self := placed.st_accepted (src := src) (tag := tag) (r := r) known (by simpa using queued)
    rw [State.st_hunt] at self
    have queues := placed.accepted_queues (src := src) (tag := tag) (r := r) (State.hunt_queuesMatch .c hq)
    have kept : (p.accepted src tag dst.toNat r).finish.st dst.toNat = _ :=
      (State.st_finish_unlisted (queues.unlisted (by rw [self]; exact operating))).trans self
    have accepts : exec (.setIntake src dst tag r) s = .next (p.accepted src tag dst.toNat r).finish := by
      rw [run, State.postSet_stop_held heldU hact (by simpa using stays), place]
      rfl
    refine ⟨_, accepts, accepted (p := p) posts, ?_⟩
    rw [kept]
    exact ⟨rfl, rfl, rfl⟩
  · have full : (s.hunt .c).holdPlace dst.toNat r ((s.hunt .c).newEntry src dst tag (.set r)) = none :=
      State.holdPlace_full (State.coalesces_stop hact) (by simpa using hfull)
    have nonempty : (s.st dst.toNat).hold ≠ [] := fun he => by simp [he] at hfull
    by_cases hr : s.releasable dst.toNat = true
    · have cause : (s.hunt .c).noRoom dst.toNat = nakHeldFull := if_neg (by simpa using nonempty)
      rw [run, State.postSet_stop_full heldU hact (by simpa using hr)
        ((State.placeFree_of_held (by simpa using nonempty)).trans full), cause]
      rfl
    · rw [run, State.postSet_stop_held heldU hact (by simpa using hr), full]
      rfl

end Sys2Proof.Machine
end


section
/-! SUPPORT. SETs that are not posted: filed, collected, or refused with PARKED_WAKING (R33, R38, R39, R41). -/

namespace Sys2Proof.Machine

open Station (BeliefKept HoldKept beliefOrder)

variable {s t p : State} {src dst tag : Byte} {a b : Nat} {r : SetRec}

/-! ## A request refused with PARKED_WAKING (R39) -/

/-- What a refused SET leaves of every record: its hold list, lock and not-fresh mark. -/
structure Station.PlaceKept (r q : Station) : Prop where
  hold : q.hold = r.hold
  lock : q.lock = r.lock
  notFresh : q.notFresh = r.notFresh

theorem Station.placeOrder : Station.Order Station.PlaceKept :=
  ⟨fun _ => ⟨rfl, rfl, rfl⟩, fun h k => ⟨k.hold.trans h.hold, k.lock.trans h.lock, k.notFresh.trans h.notFresh⟩⟩

theorem Station.BeliefKept.place {r q : Station} (h : BeliefKept r q) : Station.PlaceKept r q :=
  ⟨h.hold, h.lock, h.notFresh⟩

theorem State.refusedSet_kept : s.Kept Station.PlaceKept (s.refusedSet a r) := by
  unfold State.refusedSet
  split
  · next hq =>
    rw [State.leavePark_of_queued hq]
    exact s.enterFree_kept Station.placeOrder (fun _ _ h => h.place) a _ (fun x => ⟨rfl, rfl, rfl⟩)
  · split
    · exact (s.takeWake_kept a _).weaken fun _ _ h => h.place
    · split
      · exact s.enterFree_kept Station.placeOrder (fun _ _ h => h.place) a _ (by exact fun x => ⟨rfl, rfl, rfl⟩)
      · exact .refl Station.placeOrder s

theorem State.refusedSet_of_queued (h : (s.st a).state = .parkQueued) : s.refusedSet a r = s.leavePark a true := if_pos h

theorem State.refusedSet_of_demand (h : (s.st a).state ≠ .parkQueued) (hd : s.isDemand a r = true) :
    s.refusedSet a r = s.takeWake a .demand := by
  unfold State.refusedSet
  rw [if_neg h, if_pos hd]

theorem State.refusedSet_of_release (h : (s.st a).state ≠ .parkQueued) (ha : r.action = .stop)
    (hr : s.releasable a = true) : s.refusedSet a r = s.enterFree a (fun x => { x with shadow := .stop }) := by
  unfold State.refusedSet
  rw [if_neg h, if_neg (by simp [State.isDemand, ha]), if_pos ⟨ha, hr⟩]

theorem State.refusedSet_of_noop (h : (s.st a).state ≠ .parkQueued) (ha : r.action = .noop) :
    s.refusedSet a r = s := by
  unfold State.refusedSet
  rw [if_neg h, if_neg (by simp [State.isDemand, ha]), if_neg (by simp [ha])]

/-! ## A new request (R38, R39) -/

variable {k : DelayKey}

@[simp] theorem State.st_fileDelayed (x : Option SetRec) (b : Nat) : (s.fileDelayed src k x).st b = s.st b :=
  State.st_congr _ _ rfl b

theorem State.newDelayed_refused (h : s.held k.dst.toNat = true ∨ (s.st k.dst.toNat).state = .parkQueued) :
    s.newDelayed src k (some r) = (s.nak src k.tag nakParkedWaking).refusedSet k.dst.toNat r := if_pos h

theorem State.newDelayed_filed (h : s.held k.dst.toNat = false) (hq : (s.st k.dst.toNat).state ≠ .parkQueued)
    (hroom : s.fwd.delayed.length < Config.delayedCap) :
    s.newDelayed src k (some r)
      = ((s.fileDelayed src k (some r)).accept k.dst.toNat r).nak src k.tag nakRetry := by
  unfold State.newDelayed
  dsimp only
  rw [if_neg (by simp [h, hq]), if_pos hroom]

theorem State.newDelayed_full (h : s.held k.dst.toNat = false) (hq : (s.st k.dst.toNat).state ≠ .parkQueued)
    (hfull : ¬ s.fwd.delayed.length < Config.delayedCap) :
    s.newDelayed src k (some r) = s.nak src k.tag nakBusy := by
  unfold State.newDelayed
  dsimp only
  rw [if_neg (by simp [h, hq]), if_neg hfull]

/-- Settles O27. -/
theorem nonPostedSetIsDelayedOrRefused : Obligations.NonPostedSetIsDelayedOrRefused := by
  intro src dst tag r s h hs hd hp hw hn
  have known := hasRecord_of_serves hs
  have run : exec (.setIntake src dst tag r) s
      = .next ((s.hunt .c).delayedRequest src ⟨dst, .set, tag⟩ (some r)).finish := by
    rw [exec_setIntake r h hs, State.setStation_delayed (by simpa using hd) hp hw (by simpa using hn)]
  refine ⟨fun d hf => ⟨fun hpay => ?conflict, fun hpay => ⟨fun hst => ?retry, fun n hst => ?noReply,
    fun f n hst hb => ?reply⟩⟩, fun hnew hheld hq => ⟨fun hroom => ?filed, fun hfull => ?full⟩,
    fun hnew hheld hq => ⟨?refused, fun hheld ha => ?noop⟩⟩
  case conflict =>
    rw [run, State.delayedRequest_conflict (by simpa using hf) hpay]
    rfl
  case retry =>
    rw [run, State.delayedRequest_retry (by simpa using hf) hpay hst]
    rfl
  case noReply =>
    rw [run, State.delayedRequest_collect (by simpa using hf) hpay hst]
    rfl
  case reply =>
    obtain ⟨plain, up⟩ := (s.hunt .c).upstream_of_not_status (src := src) hb
    rw [run, State.delayedRequest_collect (by simpa using hf) hpay hst, State.collect_of_no_rewrite plain, up]
    rfl
  case filed =>
    rw [run, State.delayedRequest_new (by simpa using hnew),
      State.newDelayed_filed (by simpa using hheld) (by simpa using hq)
        (by simpa [Config.delayedCap] using hroom),
      State.accept_of_not_queued (by simpa using hq)]
    have filed : Station.accepting s.mono r
        = fun x =>
          { x with
            shadow := match r.action with
              | .run => .run
              | .jog => .run
              | .stop => .stop
              | _ => x.shadow
            lock := if r.lock then some (s.mono + 10000) else none
            notFresh := true } := by
      funext x
      unfold Station.accepting shadowAfter
      cases r.action <;> rfl
    change Host.Outcome.next ((State.modSt _ dst.toNat (Station.accepting s.mono r)).nak src tag nakRetry).finish = _
    rw [filed, State.nak, State.answerOwn_eq (s := s) (by simp [State.fileDelayed])]
    rfl
  case full =>
    rw [run, State.delayedRequest_new (by simpa using hnew),
      State.newDelayed_full (by simpa using hheld) (by simpa using hq)
        (by simpa [Config.delayedCap] using hfull)]
    rfl
  case noop =>
    rw [run, State.delayedRequest_new (by simpa using hnew), State.newDelayed_refused (.inl (by simpa using hheld)),
      State.refusedSet_of_noop ?_ ha]
    · rfl
    · simpa [State.nak, State.answerOwn] using State.not_queued_of_held hheld
  case refused =>
    have refusal : (s.hunt .c).newDelayed src ⟨dst, .set, tag⟩ (some r)
        = ((s.hunt .c).nak src tag nakParkedWaking).refusedSet dst.toNat r :=
      State.newDelayed_refused (by simpa using hheld)
    rw [run, State.delayedRequest_new (by simpa using hnew), refusal]
    have st_nak : ∀ b, ((s.hunt .c).nak src tag nakParkedWaking).st b = s.st b := fun b => by
      simp [State.nak, State.answerOwn]
    have queues : ((s.hunt .c).nak src tag nakParkedWaking).queuesMatch :=
      State.queuesMatch_congr hq (by simp [State.nak, State.answerOwn]) (by simp [State.nak, State.answerOwn])
        (by simp [State.nak, State.answerOwn]) (by simp [State.nak, State.answerOwn])
    have kept := State.refusedSet_kept (s := (s.hunt .c).nak src tag nakParkedWaking) (a := dst.toNat) (r := r)
    have ended := (((s.hunt .c).nak src tag nakParkedWaking).refusedSet dst.toNat r).finish_granted
    have fwd : (((s.hunt .c).nak src tag nakParkedWaking).refusedSet dst.toNat r).fwd = s.fwd := by
      rw [kept.fwd]
      simp [State.nak, State.answerOwn]
    have place := kept.st dst.toNat
    have belief := ended.st dst.toNat
    rw [st_nak] at place
    refine ⟨_, rfl, ?_, ?_, belief.lock.trans place.lock, belief.notFresh.trans place.notFresh,
      belief.hold.trans place.hold, fun hqueued => ?_, fun hparked hact => ?_, fun hrel hact => ?_, ?_, ?_⟩
    · rw [ended.keys, fwd]
    · rw [ended.fwd, ← fwd]
    · have queued : (((s.hunt .c).nak src tag nakParkedWaking).st dst.toNat).state = .parkQueued := by rwa [st_nak]
      rw [State.refusedSet_of_queued queued, State.leavePark_of_queued queued]
      have out := State.enterFree_unlisted ((s.hunt .c).nak src tag nakParkedWaking) dst.toNat
        (fun r => if true = true then { r with credit := 0 } else r)
      rw [State.st_finish_unlisted out, State.enterFree_st _ _ _ known, st_nak]
      exact ⟨rfl, rfl, ((State.finish_thinned _).unlisted out).1, (Station.freed_kept _ _ _).shadow⟩
    · have parked : (((s.hunt .c).nak src tag nakParkedWaking).st dst.toNat).state = .parked := by rwa [st_nak]
      have demand : ((s.hunt .c).nak src tag nakParkedWaking).isDemand dst.toNat r = true := by
        rcases hact with ha | ha | ⟨ha, hw⟩ <;> simp [State.isDemand, ha, State.nak, State.answerOwn]
        exact hw
      rw [State.refusedSet_of_demand (by simp [parked]) demand]
      have woken := State.takeWake_fared (a := dst.toNat) .demand queues (by simp [parked])
      refine ⟨((State.finish_fared woken.queues).st dst.toNat).woken (State.takeWake_woken .demand queues parked).1, ?_⟩
      rw [((State.finish_granted _).st _).shadow, ((State.takeWake_kept _ _ _).st _).shadow, st_nak]
    · have release : ((s.hunt .c).nak src tag nakParkedWaking).releasable dst.toNat = true := by
        rw [State.releasable_iff, st_nak]
        exact hrel
      rw [State.refusedSet_of_release (by rw [st_nak]; rcases hrel with e | e | ⟨e, -⟩ <;> simp [e]) hact release]
      have out := State.enterFree_unlisted ((s.hunt .c).nak src tag nakParkedWaking) dst.toNat
        (fun x => { x with shadow := .stop })
      obtain ⟨-, hdm, hsc⟩ := (State.finish_thinned _).unlisted out
      rw [State.st_finish_unlisted out, State.enterFree_st _ _ _ known]
      exact ⟨rfl, rfl, by simp [hdm, hsc]⟩
    · refine State.answeredWith.moved (t := (s.hunt .c).answer ⟨src, byte s.straps.addr, tag, .nak 0xE4⟩) ⟨rfl, rfl⟩
        (ended.cport.trans kept.cport) (ended.answers.trans kept.answers)
    · refine State.settingsKept.trans ?_ (kept.settingsKept.trans ended.settingsKept)
      refine (State.hunt_settings .c).trans ?_
      exact ⟨by simp [State.nak, State.answerOwn], by simp [State.nak, State.answerOwn],
        by simp [State.nak, State.answerOwn], by simp [State.nak, State.answerOwn],
        by simp [State.nak, State.answerOwn], by simp [State.nak, State.answerOwn],
        by simp [State.nak, State.answerOwn], by simp [State.nak, State.answerOwn],
        by simp [State.nak, State.answerOwn], by simp [State.nak, State.answerOwn],
        by simp [State.nak, State.answerOwn]⟩

end Sys2Proof.Machine
end


section
/-! SUPPORT. Frames of the C-port by destination and kind: the gate's own address, its status record, requests in a
drain, kinds that are not taken, ABSENT addresses (R18, R21, R43, R44, R47, R181, R189). -/

namespace Sys2Proof.Machine

variable {s : State} {src tag : Byte}

/-! ## The gate status record (R18, R189) -/

/-- The value a flag has in the attention field at bit `n`. -/
def bitValue (n : Nat) (b : Bool) : Nat := if b then 2 ^ n else 0

theorem bitValue_eq (n : Nat) (b : Bool) : bitValue n b = 2 ^ n * bitValue 0 b := by cases b <;> simp [bitValue]

theorem State.attentionBits_eq (s : State) : s.attentionBits =
    bitValue 0 s.flags.imageInvalid + bitValue 1 (!s.clock.valid) + bitValue 2 s.flags.stationFault
      + bitValue 3 s.flags.parkLimit + bitValue 4 s.flags.postedLost + bitValue 5 s.flags.broadcastDropped
      + bitValue 6 s.flags.groupStarved + bitValue 7 s.flags.lineErrors
      + bitValue 8 (decide (s.access = .frozen)) + bitValue 9 s.flags.saveFailed := by
  have hone (b : Bool) : (if b = true then 1 else 0) = bitValue 0 b := rfl
  simp only [State.attentionBits, State.attention, List.foldr, State.clockUnset, State.accessFrozen, hone]
  rw [bitValue_eq 1, bitValue_eq 2, bitValue_eq 3, bitValue_eq 4, bitValue_eq 5, bitValue_eq 6, bitValue_eq 7,
    bitValue_eq 8, bitValue_eq 9]
  omega

/-- The record is the same whether the receiver hunts or not: it reads nothing of the ports. -/
theorem State.hunt_statusRecord (p : Port) : (s.hunt p).statusRecord = s.statusRecord := by cases p <;> rfl

theorem State.gateFrame_poll (d : Byte) :
    s.gateFrame ⟨d, src, tag, .poll⟩ = s.answer ⟨src, byte s.straps.addr, tag, .gateStatus s.statusRecord⟩ := rfl

theorem exec_pollOfGate (h : s.hears src = true) :
    exec (.pollOfGate src tag) s
      = .next ((s.hunt .c).answer ⟨src, byte s.straps.addr, tag, .gateStatus s.statusRecord⟩) := by
  change Host.Outcome.next (s.arrive .c ⟨byte s.straps.addr, src, tag, .poll⟩) = _
  rw [State.arrive_gate h Body.fits_poll, State.gateFrame_poll, State.hunt_statusRecord]
  rfl

/-! ## Requests to the gate in a drain (R43, R47) -/

theorem State.manage_draining (code : Byte) (fields : List Byte) (h : s.hears src = true) (k : fields.length ≤ 31)
    (hd : s.draining = true) :
    s.manage src tag code fields = (s.hunt .c).answer ⟨src, byte s.straps.addr, tag, .nak 0xE2⟩ := by
  have hb : Body.ofPayload (Body.mgmt (code :: fields)).kind (Body.mgmt (code :: fields)).payload
      = some (.mgmt (code :: fields)) := Body.fits_mgmt _ (by simp) (by simp; omega)
  change s.arrive .c ⟨byte s.straps.addr, src, tag, .mgmt (code :: fields)⟩ = _
  rw [State.arrive_gate h hb]
  exact if_pos (by simpa using hd)

theorem exec_admitted {fields : List Byte} {q : Req} {i : Instr} (h : (q, i) ∈ admittedCommands src tag fields) :
    exec i s = .next (s.manage src tag q.code fields) := by
  simp only [admittedCommands, List.mem_cons, Prod.mk.injEq, List.not_mem_nil, or_false] at h
  rcases h with ⟨rfl, rfl⟩ | ⟨rfl, rfl⟩ | ⟨rfl, rfl⟩ | ⟨rfl, rfl⟩ | ⟨rfl, rfl⟩ | ⟨rfl, rfl⟩ | ⟨rfl, rfl⟩ | ⟨rfl, rfl⟩
    | ⟨rfl, rfl⟩ | ⟨rfl, rfl⟩ | ⟨rfl, rfl⟩ | ⟨rfl, rfl⟩ <;> rfl

theorem exec_unknownRequestCode (code : Byte) (fields : List Byte) :
    exec (.unknownRequestCode src tag code fields) s = .next (s.manage src tag code fields) := rfl

theorem State.mgmtFrame_unknown (code : Byte) (fields : List Byte) (hd : s.draining = false)
    (hc : Req.ofCode code = none) :
    s.mgmtFrame src tag code fields = s.mreply src tag code .unknownRequest [] := by
  unfold State.mgmtFrame
  rw [if_neg (by simp [hd]), hc]
  rfl

/-! ## Kinds that are not taken (R21, R43, R44) -/

theorem exec_gateSetOrTime (w : GateWord) (h : s.hears src = true) :
    exec (.gateSetOrTime src tag w) s
      = .next ((s.hunt .c).gateFrame ⟨byte s.straps.addr, src, tag, gateBody w⟩) := by
  change Host.Outcome.next (s.arrive .c ⟨byte s.straps.addr, src, tag, gateBody w⟩) = _
  rw [State.arrive_gate h]
  cases w with
  | set r => exact Body.fits_set r
  | time w => exact Body.fits_time w

theorem State.gateFrame_unexpected {f : Frame}
    (h : (∃ r, f.body = .status r) ∨ (∃ c, f.body = .ack c) ∨ (∃ c, f.body = .nak c) ∨ ∃ l, f.body = .mreply l) :
    s.gateFrame f = s.countUnexpected := by
  rcases h with ⟨x, h⟩ | ⟨x, h⟩ | ⟨x, h⟩ | ⟨x, h⟩ <;> simp only [State.gateFrame, h]

theorem State.stationFrame_absent {f : Frame} (h : (s.pol f.dst.toNat).cls = .absent) : s.stationFrame f = s := if_pos h

/-- A frame of a kind that a station does not take (R21), an MGMT in a drain apart (log 27). -/
theorem State.stationFrame_unexpected {f : Frame} (h : (s.pol f.dst.toNat).cls ≠ .absent) (hp : f.body ≠ .poll)
    (hs : ∀ r, f.body ≠ .set r) (hm : s.draining = false ∨ ∀ l, f.body ≠ .mgmt l) :
    s.stationFrame f = s.countUnexpected := by
  unfold State.stationFrame
  rw [if_neg h]
  split
  · next hb => exact absurd hb hp
  · next r hb => exact absurd hb (hs r)
  · next l hb => exact if_neg (by simp [hm.resolve_right fun k => k l hb])
  · rfl

theorem State.stationFrame_mgmt {f : Frame} {l : List Byte} (h : (s.pol f.dst.toNat).cls ≠ .absent)
    (hb : f.body = .mgmt l) (hd : s.draining = true) : s.stationFrame f = s.nak f.src f.tag nakBusy := by
  simp [State.stationFrame, h, hb, hd]

theorem State.broadcastFrame_unexpected {f : Frame} (ht : ∀ w, f.body ≠ .time w) (hs : ∀ r, f.body ≠ .set r) :
    s.broadcastFrame f = s.countUnexpected := by
  unfold State.broadcastFrame
  split
  · next w hb => exact absurd hb (ht w)
  · next r hb => exact absurd hb (hs r)
  · rfl

theorem State.arrive_other {f : Frame} (hl : s.listening .c = true) (hf : f.shapeOk = true)
    (h : f.dst.toNat ≠ s.straps.addr) :
    (f.dst.toNat = 0 → s.arrive .c f = ((s.hunt .c).broadcastFrame f).finish)
    ∧ (f.dst.toNat ≠ 0 → s.arrive .c f = ((s.hunt .c).stationFrame f).finish) := by
  rw [s.arrive_ok .c f hl hf]
  change (_ → (s.hunt .c).controllerFrame f = _) ∧ (_ → (s.hunt .c).controllerFrame f = _)
  unfold State.controllerFrame
  rw [if_neg (show ¬ f.dst.toNat = (s.hunt .c).straps.addr from h)]
  exact ⟨fun k => if_pos k, fun k => if_neg k⟩

/-- Settles O29. -/
theorem framesFollowDestinationAndKind : Obligations.FramesFollowDestinationAndKind := by
  refine ⟨fun src tag s h => ⟨?_, ?_, fun code fields hk => ⟨fun hd => ?_, fun hd hc => ?_⟩, fun r => ?_, fun w => ?_,
    fun b hb hk => ?_⟩, fun f s hl hf hne => ?_⟩
  · refine (exec_pollOfGate h).trans ?_
    simp only [State.statusRecord, State.attentionBits_eq, bitValue]
    rfl
  · intro fields q i hk hi hd
    have hx : exec i s = .next (s.manage src tag q.code fields) :=
      (List.mem_append.mp hi).elim (fun k => (exec_guarded k).1) exec_admitted
    rw [hx, State.manage_draining _ _ h hk hd]
  · rw [exec_unknownRequestCode, State.manage_draining _ _ h hk hd]
  · have hm : s.managed src = true := by simp [State.managed, h, hd]
    rw [exec_unknownRequestCode, State.manage_eq _ _ hm hk, State.mgmtFrame_unknown _ _ (by simpa using hd) hc]
  · rw [exec_gateSetOrTime _ h]
    cases hd : s.draining <;> simp [State.gateFrame, gateBody, hd, State.nak] <;> rfl
  · rw [exec_gateSetOrTime _ h] <;> rfl
  · rw [show exec _ s = .next (s.arrive .c ⟨Sys2Proof.byte s.straps.addr, src, tag, b⟩) from rfl,
      State.arrive_gate h ((Sys2Proof.Frame.shapeOk_iff _).mp hb).2.2.2, State.gateFrame_unexpected hk] <;> rfl
  · obtain ⟨h0, h1⟩ := State.arrive_other hl hf hne
    refine ⟨fun hd ha => ?_, fun hd ha hp hs => ⟨fun hm => ?_, fun hdr l hb => ?_⟩, fun hd ht hs => ?_⟩
    · have hx : s.arrive .c f = (s.hunt .c).finish := by
        rw [h1 hd, State.stationFrame_absent (by simpa using ha)]
      exact ⟨congrArg _ hx, fun src dst tag e => by subst e; exact congrArg _ hx,
        fun src dst tag r e => by subst e; exact congrArg _ hx⟩
    · refine congrArg _ ((h1 hd).trans ?_)
      rw [State.stationFrame_unexpected (by simpa using ha) hp hs (by simpa using hm)] <;> rfl
    · refine congrArg _ ((h1 hd).trans ?_)
      rw [State.stationFrame_mgmt (by simpa using ha) hb (by simpa using hdr)] <;> rfl
    · refine congrArg _ ((h0 hd).trans ?_)
      rw [State.broadcastFrame_unexpected ht hs] <;> rfl

end Sys2Proof.Machine
end


section
/-! SUPPORT. Closing zones and wake-due times worked out afresh: what a minute boundary, a clock set and a window write do
to the stations (R115, R164, R169, R170, R171). -/

namespace Sys2Proof.Machine

open Station (BeliefKept HoldKept beliefOrder)

variable {s t u v : State} {a b : Nat}

/-! ## Leaving the park queue, several at a time -/

/-- A station that waits for no wake keeps its record when another leaves the park queue. -/
theorem State.st_leavePark_quiet (z : Bool) (h : s.queuesMatch) (ne : b ≠ a) (hb : (s.st b).state ≠ .wakeQueued) :
    (s.leavePark a z).st b = s.st b := State.st_leavePark_other z ne fun m => hb (h.mem_waiting.mp m)

theorem State.leavePark_free (z : Bool) (h : (s.st a).state = .parkQueued) : ((s.leavePark a z).st a).state = .free := by
  rw [State.leavePark_of_queued h, State.enterFree_st _ _ _ (hasRecord_of_queued h)]
  cases z <;> rfl

theorem State.leaveParkAll_cons (l : List Nat) : s.leaveParkAll (a :: l) = (s.leavePark a false).leaveParkAll l := rfl

theorem State.leaveParkAll_fared (l : List Nat) (h : s.queuesMatch) : s.Fared (s.leaveParkAll l) :=
  .foldl _ l (fun _ x k => State.leavePark_fared x false k) h

/-- A station neither waiting for a wake nor named among the leaving keeps its record. -/
theorem State.st_leaveParkAll_other (l : List Nat) (h : s.queuesMatch) (hb : (s.st b).state ≠ .wakeQueued)
    (hl : b ∉ l ∨ (s.st b).state ≠ .parkQueued) : (s.leaveParkAll l).st b = s.st b := by
  induction l generalizing s with
  | nil => rfl
  | cons a l ih =>
    have same : (s.leavePark a false).st b = s.st b := by
      by_cases ne : b = a
      · subst ne
        rw [State.leavePark_of_not_queued (hl.resolve_left (by simp))]
      · exact State.st_leavePark_quiet false h ne hb
    rw [State.leaveParkAll_cons, ih (State.leavePark_fared a false h).queues (by rwa [same]), same]
    rw [same]
    exact hl.imp_left fun k m => k (List.mem_cons_of_mem a m)

theorem State.leaveParkAll_free (l : List Nat) (h : s.queuesMatch) (hp : (s.st a).state = .parkQueued) (hl : a ∈ l) :
    ((s.leaveParkAll l).st a).state = .free := by
  induction l generalizing s with
  | nil => cases hl
  | cons b l ih =>
    have next := (State.leavePark_fared b false h).queues
    rw [State.leaveParkAll_cons]
    by_cases ne : a = b
    · subst ne
      have free := State.leavePark_free false hp
      rw [State.st_leaveParkAll_other l next (by simp [free]) (.inr (by simp [free])), free]
    · exact ih next (by rwa [State.st_leavePark_quiet false h ne (by simp [hp])])
        ((List.mem_cons.mp hl).resolve_left ne)

/-! ## Closing zones (R115, R169) -/

theorem State.closeZone_fared (z : Nat) (h : s.queuesMatch) : s.Fared (s.closeZone z) := State.leaveParkAll_fared _ h

theorem State.closeThose_cons (z : Nat) (l : List Nat) :
    s.closeThose (z :: l) = (if s.zoneOpen z then s else s.closeZone z).closeThose l := rfl

theorem State.closeThose_fared (l : List Nat) (h : s.queuesMatch) : s.Fared (s.closeThose l) :=
  .foldl _ l (fun t z k => by
    split
    · exact .refl k
    · exact State.closeZone_fared z k) h

/-- Whether a zone is open is read from the clock, the windows and the time alone. -/
theorem State.zoneOpen_congr (hc : t.cfg = s.cfg) (hk : t.clock = s.clock) (hm : t.mono = s.mono) (z : Nat) :
    t.zoneOpen z = s.zoneOpen z := by
  simp only [State.zoneOpen, State.openAt, State.weekMinute, State.weekTime, State.now, hc, hk, hm]

theorem State.Kept.zoneOpen {R : Station → Station → Prop} (h : s.Kept R t) (z : Nat) : t.zoneOpen z = s.zoneOpen z :=
  State.zoneOpen_congr h.cfg h.clock h.mono z

/-- So is a wake-due time, with the station's policy (R171). -/
theorem State.wakeDueNow_congr (hc : t.cfg = s.cfg) (hk : t.clock = s.clock) (hm : t.mono = s.mono) (a : Nat) :
    t.wakeDueNow a = s.wakeDueNow a := by
  simp only [State.wakeDueNow, State.timeToSpanEnd, State.spanMinutes, State.openAt, State.weekMinute, State.weekTime,
    State.now, State.pol_congr s t hc, hc, hk, hm]

/-- A station that is neither PARK_QUEUED nor waiting for a wake keeps its record when zones close. -/
theorem State.st_closeThose_unqueued (l : List Nat) (h : s.queuesMatch) (hb : (s.st b).state.unqueued) :
    (s.closeThose l).st b = s.st b := by
  induction l generalizing s with
  | nil => rfl
  | cons z l ih =>
    rw [State.closeThose_cons]
    split
    · exact ih h hb
    · have same : (s.closeZone z).st b = s.st b := State.st_leaveParkAll_other _ h hb.2 (.inr hb.1)
      rw [ih (State.closeZone_fared z h).queues (by rwa [same]), same]

/-- A PARK_QUEUED station of a zone that closes is FREE. -/
theorem State.closeThose_free (l : List Nat) (h : s.queuesMatch) (hp : (s.st a).state = .parkQueued)
    (hl : (s.pol a).zone ∈ l) (hz : s.zoneOpen (s.pol a).zone = false) : ((s.closeThose l).st a).state = .free := by
  induction l generalizing s with
  | nil => cases hl
  | cons z l ih =>
    have next := (State.closeZone_fared z h).queues
    have kept := s.closeZone_kept z
    rw [State.closeThose_cons]
    by_cases ho : s.zoneOpen z = true
    · rw [if_pos ho]
      have ne : (s.pol a).zone ≠ z := fun k => by simp [← k, hz] at ho
      exact ih h hp ((List.mem_cons.mp hl).resolve_left ne) hz
    · rw [if_neg ho]
      by_cases he : (s.pol a).zone = z
      · have free : ((s.closeZone z).st a).state = .free :=
          State.leaveParkAll_free _ h hp (List.mem_filter.mpr ⟨h.mem_parkQ.mpr hp, by simpa using he⟩)
        rw [State.st_closeThose_unqueued l next (by rw [free]; exact ⟨by decide, by decide⟩), free]
      · have same : (s.closeZone z).st a = s.st a :=
          State.st_leaveParkAll_other _ h (by simp [hp]) (.inl fun m => he (by simpa using (List.mem_filter.mp m).2))
        refine ih next (by rwa [same]) ?_ ?_
        · rw [kept.pol]; exact (List.mem_cons.mp hl).resolve_left he
        · rw [kept.pol, kept.zoneOpen]; exact hz

/-! ## Wake-due times worked out afresh (R164, R171) -/

/-- The queues stay matched, and a station that is PARKED at the end has kept its record. -/
structure State.Outlasts (s t : State) : Prop where
  queues : t.queuesMatch
  parked : ∀ b, (t.st b).state = .parked → t.st b = s.st b
  free : ∀ b, (s.st b).state = .free → (t.st b).state = .free

theorem State.Outlasts.trans (h : s.Outlasts t) (k : t.Outlasts u) : s.Outlasts u where
  queues := k.queues
  parked b hb := by
    have e := k.parked b hb
    rw [e]
    exact h.parked b (by rwa [← e])
  free b hb := k.free b (h.free b hb)

theorem State.Fared.outlasts (h : s.Fared t) : s.Outlasts t where
  queues := h.queues
  parked b hb := by
    cases h.st b with
    | stays e => exact e
    | wakes _ w _ _ _ => exact absurd hb w.not_parked
    | leaves _ w => rcases w with w | w <;> simp [w] at hb
  free b hb := by rw [(h.st b).eq_of_still (by rw [hb]; exact ⟨by decide, by decide⟩) (by simp [hb]), hb]

theorem State.expireWakeDue_outlasts (a : Nat) (h : s.queuesMatch) : s.Outlasts (s.expireWakeDue a) := by
  unfold State.expireWakeDue
  split
  · exact (State.Fared.refl h).outlasts
  · split
    · have cleared : (s.modSt a fun r => { r with wakeDue := none }).queuesMatch :=
        State.queuesMatch_modSt h a _ (.inl rfl)
      have rest := (State.takeWake_scheduled_fared a cleared).outlasts
      have same (b : Nat) : ((s.modSt a fun r => { r with wakeDue := none }).st b).state = (s.st b).state := by
        rcases s.st_modSt_cases a (fun r => { r with wakeDue := none }) b with ⟨rfl, -, k⟩ | ⟨-, k⟩ <;> rw [k]
      refine ⟨rest.queues, fun b hb => ?_, fun b hb => rest.free b (by rwa [same])⟩
      have e := rest.parked b hb
      by_cases ne : b = a
      · subst ne
        have was : ((s.modSt b fun r => { r with wakeDue := none }).st b).state = .parked := by rwa [← e]
        exact absurd hb (State.takeWake_woken .scheduled cleared was).1.not_parked
      · rw [e, State.st_modSt_other _ _ _ _ ne]
    · exact (State.Fared.refl h).outlasts

theorem State.expireAll_outlasts (l : List Nat) (h : s.queuesMatch) : s.Outlasts (l.foldl State.expireWakeDue s) := by
  induction l generalizing s with
  | nil => exact (State.Fared.refl h).outlasts
  | cons a l ih =>
    have first := State.expireWakeDue_outlasts a h
    exact first.trans (ih first.queues)

/-- Arming several wake-due times changes those alone. -/
theorem State.st_armAll (l : List Nat) (known : ∀ a ∈ l, hasRecord a) (b : Nat) :
    (l.foldl State.armWakeDue s).st b = if b ∈ l then { s.st b with wakeDue := s.wakeDueNow b } else s.st b := by
  induction l generalizing s with
  | nil => simp
  | cons a l ih =>
    have kept := s.armWakeDue_kept a
    have due : (s.armWakeDue a).wakeDueNow b = s.wakeDueNow b :=
      State.wakeDueNow_congr kept.cfg kept.clock kept.mono b
    rw [List.foldl_cons, ih fun x hx => known x (List.mem_cons_of_mem a hx), due]
    by_cases e : b = a
    · subst e
      have self : (s.armWakeDue b).st b = { s.st b with wakeDue := s.wakeDueNow b } :=
        s.st_modSt_self b _ (known b (List.mem_cons_self ..))
      simp [self]
    · have other : (s.armWakeDue a).st b = s.st b := s.st_modSt_other a b _ e
      simp [other, e]

theorem State.armAll_queues (l : List Nat) (h : s.queuesMatch) : (l.foldl State.armWakeDue s).queuesMatch := by
  induction l generalizing s with
  | nil => exact h
  | cons a l ih => exact ih (State.queuesMatch_modSt h a _ (.inl rfl))

theorem State.mem_parkedAtClose (s : State) (a : Nat) :
    a ∈ s.parkedAtClose ↔ hasRecord a ∧ (s.st a).state = .parked ∧ (s.pol a).wakeAtClose = true := by
  simp [State.parkedAtClose, mem_addresses]

/-- What working out the wake-due times afresh leaves PARKED, it leaves with the time worked out now. -/
theorem State.rearmWakeDue_parked (h : s.queuesMatch) :
    s.rearmWakeDue.queuesMatch
    ∧ (∀ b, (s.st b).state = .free → (s.rearmWakeDue.st b).state = .free)
    ∧ ∀ b, (s.rearmWakeDue.st b).state = .parked → (s.pol b).wakeAtClose = true →
        (s.st b).state = .parked ∧ (s.rearmWakeDue.st b).wakeDue = s.wakeDueNow b := by
  have armed := State.st_armAll (s := s) s.parkedAtClose fun a ha => ((s.mem_parkedAtClose a).mp ha).1
  have rest := State.expireAll_outlasts s.parkedAtClose (State.armAll_queues s.parkedAtClose h)
  have same (b : Nat) : ((s.parkedAtClose.foldl State.armWakeDue s).st b).state = (s.st b).state := by
    rw [armed]
    split <;> rfl
  refine ⟨rest.queues, fun b hb => rest.free b (by rwa [same]), fun b hb hw => ?_⟩
  have e : s.rearmWakeDue.st b = (s.parkedAtClose.foldl State.armWakeDue s).st b := rest.parked b hb
  have was : (s.st b).state = .parked := by rwa [← same, ← e]
  have known : hasRecord b := hasRecord_of_state s b (by simp [was])
  refine ⟨was, ?_⟩
  rw [e, armed, if_pos ((s.mem_parkedAtClose b).mpr ⟨known, was, hw⟩)]

/-! ## A clock set and a window write (R164, R170) -/

/-- What a clock set and a window write come to, with `v` the state under the new clock or window and `u` any moves after
that leave what is FREE free and what stays PARKED alone. -/
theorem State.closing (hst : v.stations = s.stations) (hpol : ∀ a, v.pol a = s.pol a) (h : v.queuesMatch)
    (rest : ((v.closeThose s.openUntilNow).rearmWakeDue).Outlasts u)
    (belief : ∀ a, BeliefKept (((v.closeThose s.openUntilNow).rearmWakeDue).st a) (u.st a)) :
    s.closingTaken v u := by
  have hs (a : Nat) : v.st a = s.st a := State.st_congr s v hst a
  have closed := State.closeThose_fared s.openUntilNow h
  have keptC := v.closeThose_kept s.openUntilNow
  have kept := keptC.trans beliefOrder (State.rearmWakeDue_kept _)
  obtain ⟨-, hfree, hdue⟩ := State.rearmWakeDue_parked closed.queues
  refine ⟨fun a hp hz hwas hnow => ?_, fun a hp hw => ?_⟩
  · have listed : (v.pol a).zone ∈ s.openUntilNow := by
      rw [hpol, State.mem_openUntilNow]
      refine ⟨hz, hwas.imp_right fun ⟨hv, hm, ho⟩ => ⟨by simp [State.atMinute, hv, hm], ?_⟩⟩
      exact ho
    have free := State.closeThose_free _ h (by rwa [hs]) listed (by rwa [hpol])
    exact ⟨rest.free a (hfree a free), by rw [(belief a).credit, (kept.st a).credit, hs]⟩
  · have e := rest.parked a hp
    rw [e] at hp ⊢
    obtain ⟨was, due⟩ := hdue a hp (by rw [keptC.pol, hpol]; exact hw)
    refine ⟨?_, due.trans (State.wakeDueNow_congr keptC.cfg keptC.clock keptC.mono a)⟩
    cases closed.st a with
    | stays k => rw [← hs, ← k, was]
    | wakes _ w _ _ _ => exact absurd was w.not_parked
    | leaves _ w => rcases w with w | w <;> simp [w] at was

/-- Settles O48. -/
theorem minuteBoundaryClosesZones : Obligations.MinuteBoundaryClosesZones := by
  intro s hon hq
  have hx : exec .minuteBoundary s = .next (if s.atMinute then (s.closeThose s.openBefore).finish else s) :=
    congrArg _ (State.whenOnline_of_online _ hon)
  refine ⟨fun h => ?_, fun hv hm => ?_⟩
  · rw [hx, if_neg]
    rcases h with h | h <;> simp [State.atMinute, h]
  · have at_ : s.atMinute = true := by simp [State.atMinute, hv, hm]
    rw [if_pos at_] at hx
    have kept := s.closeThose_kept s.openBefore
    have closed := State.closeThose_fared s.openBefore hq
    have granted := kept.granted.trans (State.finish_granted _)
    have listless {a : Nat} (h : ((s.closeThose s.openBefore).st a).state.unqueued) :
        (s.closeThose s.openBefore).unlisted a := closed.queues.unlisted h
    refine ⟨_, hx, fun a hp hz hb ho => ?_, fun a hp hw => ?_, granted.cport, granted.settingsKept⟩
    · have free := State.closeThose_free s.openBefore hq hp ((s.mem_openBefore _).mpr ⟨hz, hb⟩)
        (by simp [State.zoneOpen, ho])
      have gone := listless (a := a) (by rw [free]; exact ⟨by decide, by decide⟩)
      exact ⟨by rw [State.st_finish_unlisted gone, free], (granted.st a).credit,
        ((State.finish_thinned _).unlisted gone).1⟩
    · have same := State.st_closeThose_unqueued s.openBefore hq ⟨hp, hw⟩
      rw [State.st_finish_unlisted (listless (by rw [same]; exact ⟨hp, hw⟩)), same]

end Sys2Proof.Machine
end


section
/-! SUPPORT. What admissions, departures from the park queue and the end of a step leave of the attention and starved
flags, and broadcasts (R44, R166, R189). -/

namespace Sys2Proof.Machine

open Station (BeliefKept HoldKept beliefOrder)

variable {s t u : State} {a b : Nat} {src tag : Byte} {r : SetRec}

/-! ## Flags -/

/-- The attention flags and the starved flags are as they were. -/
structure State.Quiet (s t : State) : Prop where
  flags : t.flags = s.flags
  starved : t.starved = s.starved

theorem State.Quiet.refl (s : State) : s.Quiet s := ⟨rfl, rfl⟩
theorem State.Quiet.trans (h : s.Quiet t) (k : t.Quiet u) : s.Quiet u :=
  ⟨k.flags.trans h.flags, k.starved.trans h.starved⟩

theorem State.modSt_quiet (s : State) (a : Nat) (f : Station → Station) : s.Quiet (s.modSt a f) :=
  ⟨by simp, by simp⟩
theorem State.dequeue_quiet (s : State) (a : Nat) : s.Quiet (s.dequeue a) := ⟨rfl, rfl⟩

theorem State.warnAdmitted_quiet (s : State) (a : Nat) : s.Quiet (s.warnAdmitted a) := by
  unfold State.warnAdmitted
  dsimp only
  split
  · exact s.modSt_quiet a _
  · split
    · exact .refl s
    · split
      · exact s.modSt_quiet a _
      · exact ⟨rfl, rfl⟩

theorem State.admitOne_quiet (s : State) (a : Nat) : s.Quiet (s.admitOne a) :=
  ((s.dequeue_quiet a).trans (State.modSt_quiet _ a _)).trans (State.warnAdmitted_quiet _ a)

theorem State.admitWalk_quiet (s : State) (l : List Nat) : s.Quiet (s.admitWalk l) := by
  induction l generalizing s with
  | nil => exact .refl s
  | cons a l ih =>
    unfold State.admitWalk
    split
    · split
      · exact (s.admitOne_quiet a).trans (ih _)
      · exact .refl s
    · exact ih s

theorem State.admissionPass_quiet (s : State) : s.Quiet s.admissionPass := by
  unfold State.admissionPass
  split
  · exact .refl s
  · exact s.admitWalk_quiet _

theorem State.enterFree_quiet (s : State) (a : Nat) (f : Station → Station) : s.Quiet (s.enterFree a f) := by
  have left := (s.dequeue_quiet a).trans (State.modSt_quiet _ a fun r => f (r.freed s.now (s.pol a).rated))
  rcases s.enterFree_cases a f with e | e
  · rw [e]; exact left
  · rw [e]; exact left.trans (State.admissionPass_quiet _)

theorem State.leavePark_quiet (s : State) (a : Nat) (z : Bool) : s.Quiet (s.leavePark a z) := by
  unfold State.leavePark
  split
  · exact s.enterFree_quiet a _
  · exact .refl s

theorem State.startExchange_quiet (s : State) (x : Exchange) : s.Quiet (s.startExchange x) := by
  rw [State.startExchange_eq]
  exact ⟨rfl, rfl⟩

theorem State.startOwn_quiet (s : State) (c : ReqClass) (q : ReqRef) (a : Nat) (x : Body) :
    s.Quiet (s.startOwn c q a x) := by
  rw [State.startOwn_eq]
  exact ⟨rfl, rfl⟩

theorem State.arbitrate_quiet (n : Nat) (s : State) : s.Quiet (State.arbitrate n s) := by
  induction n generalizing s with
  | zero => exact .refl s
  | succ n ih =>
    unfold State.arbitrate
    split
    · exact .refl s
    · next d _ => exact State.Quiet.trans (t := s.markInFlight d.key) ⟨rfl, rfl⟩ (State.startExchange_quiet _ _)
    · exact s.startExchange_quiet _
    · exact s.startOwn_quiet _ _ _ _
    · split
      · exact ((s.dequeue_quiet _).trans (State.modSt_quiet _ _ _)).trans (State.startOwn_quiet _ _ _ _ _)
      · exact (s.leavePark_quiet _ _).trans (ih _)
    · exact s.startOwn_quiet _ _ _ _

theorem State.modeCheck_quiet (s : State) : s.Quiet s.modeCheck := by
  rw [State.modeCheck_eq]
  exact ⟨rfl, rfl⟩

theorem State.finish_quiet (s : State) : s.Quiet s.finish := by
  unfold State.finish
  dsimp only
  split
  · exact s.modeCheck_quiet.trans (State.arbitrate_quiet _ _)
  · exact s.modeCheck_quiet

/-! ## TIME broadcasts (R44, R166) -/

theorem State.forwardBroadcast_room (w : Posting) (hd : s.draining = false) (h : s.fwd.posted.length < 8) :
    s.forwardBroadcast src tag w
      = some { s with
          fwd := { s.fwd with posted := s.fwd.posted ++ [s.newEntry src 0 tag w], seq := s.fwd.seq + 1 } } := by
  unfold State.forwardBroadcast
  rw [if_neg (by simp [hd])]
  exact if_pos h

theorem State.forwardBroadcast_dropped (w : Posting) (h : s.draining = true ∨ 8 ≤ s.fwd.posted.length) :
    s.forwardBroadcast src tag w = none := by
  unfold State.forwardBroadcast
  split
  · rfl
  · next hd => exact if_neg (Nat.not_lt.mpr (h.resolve_left hd))

/-- What forwarding or dropping a broadcast changes: the posted buffer, the order number, a counter and a flag. -/
structure State.Forwarded (s t : State) (e : Entry) : Prop where
  rest : t = { s with fwd := t.fwd, flags := t.flags }
  room : s.draining = false → s.fwd.posted.length < 8 → t.fwd.posted = s.fwd.posted ++ [e] ∧ t.fwd.cnt = s.fwd.cnt
  full : s.draining = true ∨ 8 ≤ s.fwd.posted.length →
    t.fwd.posted = s.fwd.posted ∧ t.flags.broadcastDropped = true
      ∧ t.fwd.cnt = { s.fwd.cnt with broadcastDrop := min (s.fwd.cnt.broadcastDrop + 1) 65535 }

theorem State.timeBroadcast_forwarded (w : BitVec 32) :
    (s.judgeTime w.toNat).Forwarded (s.timeBroadcast src tag w)
      ((s.judgeTime w.toNat).newEntry src 0 tag (.time w)) := by
  unfold State.timeBroadcast
  dsimp only
  generalize s.judgeTime w.toNat = u
  by_cases h : u.draining = false ∧ u.fwd.posted.length < 8
  · rw [State.forwardBroadcast_room _ h.1 h.2]
    refine ⟨rfl, fun _ _ => ⟨rfl, rfl⟩, fun k => ?_⟩
    rcases k with k | k
    · simp [h.1] at k
    · omega
  · have full : u.draining = true ∨ 8 ≤ u.fwd.posted.length := by
      rwa [not_and_or, Bool.not_eq_false, Nat.not_lt] at h
    rw [State.forwardBroadcast_dropped _ full]
    exact ⟨rfl, fun hd hl => absurd ⟨hd, hl⟩ h, fun _ => ⟨rfl, rfl, rfl⟩⟩

theorem State.judgeTime_set {n : Nat} (ht : s.cfg.params.takeTime = true) (h : n < 604800000) :
    s.judgeTime n = s.setWeek n := by
  unfold State.judgeTime
  rw [if_neg (by simp [ht])]
  exact if_neg (Nat.not_le.mpr h)

/-- The judgement of a TIME broadcast moves the clock, the TIME-range count and, closing zones, what a clock set does. -/
theorem State.judgeTime_kept (n : Nat) :
    ∃ v : State, v = { s with clock := v.clock, timeRange := v.timeRange } ∧ v.Kept BeliefKept (s.judgeTime n)
      ∧ v.clock = (if s.cfg.params.takeTime = true ∧ n < 604800000 then ⟨true, n, s.mono⟩ else s.clock)
      ∧ v.timeRange = (if s.cfg.params.takeTime = true ∧ 604800000 ≤ n then min (s.timeRange + 1) 65535
          else s.timeRange) := by
  unfold State.judgeTime
  by_cases ht : s.cfg.params.takeTime = false
  · rw [if_pos ht]
    exact ⟨s, rfl, .refl beliefOrder s, by simp [ht], by simp [ht]⟩
  · rw [if_neg ht]
    rw [Bool.not_eq_false] at ht
    by_cases h : Config.weekMs ≤ n
    · have h' : 604800000 ≤ n := h
      rw [if_pos h]
      exact ⟨_, rfl, .refl beliefOrder _, by simp [h'], by simp [ht, h', satAdd, Config.max16]⟩
    · have h' : ¬ 604800000 ≤ n := h
      rw [if_neg h]
      exact ⟨{ s with clock := ⟨true, n, s.now⟩ }, rfl, s.setWeek_kept n,
        by simp [ht, Nat.lt_of_not_le h', State.now], by simp [h']⟩

/-- Setting the clock, then moves that keep what is FREE free and what stays PARKED alone, takes every closing. -/
theorem State.setWeek_closing (n : Nat) (h : s.queuesMatch) (rest : (s.setWeek n).Outlasts u)
    (belief : ∀ a, BeliefKept ((s.setWeek n).st a) (u.st a)) :
    s.closingTaken { s with clock := ⟨true, n, s.mono⟩ } u :=
  State.closing rfl (fun a => State.pol_congr _ _ rfl a) (State.queuesMatch_congr h rfl rfl rfl rfl) rest belief

theorem State.setWeek_queues (n : Nat) (h : s.queuesMatch) : (s.setWeek n).queuesMatch :=
  (State.rearmWakeDue_parked (State.closeThose_fared s.openUntilNow
    (State.queuesMatch_congr (t := { s with clock := ⟨true, n, s.now⟩ }) h rfl rfl rfl rfl)).queues).1

/-! ## SET broadcasts (R25, R44) -/

/-- A broadcast SET at one record: accepted, or passed over where the class is ABSENT. -/
def State.heed (r : SetRec) (s : State) (a : Nat) : State := if (s.pol a).cls = .absent then s else s.accept a r

theorem State.acceptAll_eq : s.acceptAll r = addresses.foldl (State.heed r) s := rfl

theorem State.heed_kept (s : State) (a : Nat) : s.Kept (fun _ _ => True) (s.heed r a) := by
  unfold State.heed
  split
  · exact .refl ⟨fun _ => trivial, fun _ _ => trivial⟩ s
  · exact State.accept_kept

theorem State.heed_other (h : b ≠ a) : BeliefKept (s.st b) ((s.heed r a).st b) := by
  unfold State.heed
  split
  · exact .refl _
  · exact State.accept_belief_other h

/-- What a heeded SET leaves of a record, the credit apart (R25). -/
structure Station.Heeded (now : Nat) (r : SetRec) (x y : Station) : Prop where
  hold : y.hold = x.hold
  shadow : y.shadow = shadowAfter r x.shadow
  lock : y.lock = lockAfter now r
  notFresh : y.notFresh = true

theorem Station.Heeded.belief {now : Nat} {w x y z : Station} (j : BeliefKept w x) (h : Station.Heeded now r x y)
    (k : BeliefKept y z) : Station.Heeded now r w z :=
  ⟨k.hold.trans (h.hold.trans j.hold), by rw [k.shadow, h.shadow, j.shadow], k.lock.trans h.lock,
    k.notFresh.trans h.notFresh⟩

theorem State.heedAll_kept (l : List Nat) (s : State) : s.Kept (fun _ _ => True) (l.foldl (State.heed r) s) :=
  State.foldl_kept ⟨fun _ => trivial, fun _ _ => trivial⟩ _ State.heed_kept l s

theorem State.heedAll_other (l : List Nat) (s : State) (h : b ∉ l ∨ (s.pol b).cls = .absent) :
    BeliefKept (s.st b) ((l.foldl (State.heed r) s).st b) := by
  induction l generalizing s with
  | nil => exact .refl _
  | cons a l ih =>
    have rest := ih (s.heed r a) (h.imp (fun k m => k (List.mem_cons_of_mem a m))
      (fun k => by rw [(s.heed_kept a).pol]; exact k))
    by_cases e : b = a
    · subst e
      have still : s.heed r b = s := if_pos (h.resolve_left (by simp))
      rw [List.foldl_cons, still]
      rwa [still] at rest
    · exact (State.heed_other e).trans rest

/-- Every station of the list that is not ABSENT heeds the SET, at its turn. -/
theorem State.heedAll_self (l : List Nat) (s : State) (nodup : l.Nodup) (known : hasRecord b) (hb : b ∈ l)
    (hc : (s.pol b).cls ≠ .absent) : Station.Heeded s.now r (s.st b) ((l.foldl (State.heed r) s).st b) := by
  induction l generalizing s with
  | nil => cases hb
  | cons a l ih =>
    obtain ⟨fresh, nodup⟩ := List.nodup_cons.mp nodup
    have kept := s.heed_kept (r := r) a
    by_cases e : b = a
    · subst e
      have one : s.heed r b = s.accept b r := if_neg hc
      obtain ⟨hold, shadow, lock, notFresh, -⟩ := State.st_accept_self (s := s) (r := r) known
      have here : Station.Heeded s.now r (s.st b) ((s.heed r b).st b) := by rw [one]; exact ⟨hold, shadow, lock, notFresh⟩
      exact .belief (.refl _) here (State.heedAll_other l _ (.inl fresh))
    · have rest := ih (s.heed r a) nodup ((List.mem_cons.mp hb).resolve_left e) (by rw [kept.pol]; exact hc)
      rw [State.now, kept.mono] at rest
      exact .belief (State.heed_other e) rest (.refl _)

/-- With no station waiting for a wake, a heeded SET moves no other record. -/
theorem State.st_heed_other (h : b ≠ a) (hw : s.demandQ ++ s.schedQ = []) : (s.heed r a).st b = s.st b := by
  unfold State.heed
  split
  · rfl
  · rw [State.accept_eq, State.st_leavePark_other true h, State.st_modSt_other _ _ _ _ h]
    simp [hw]

theorem State.heed_thinned (s : State) (a : Nat) : s.Thinned (s.heed r a) := by
  unfold State.heed
  split
  · exact .refl s
  · exact (s.modSt_thinned a _).trans (State.leavePark_thinned _ a true)

theorem State.Thinned.waiting (h : s.Thinned t) (hw : s.demandQ ++ s.schedQ = []) : t.demandQ ++ t.schedQ = [] :=
  List.sublist_nil.mp (hw ▸ h.demandQ.append h.schedQ)

theorem State.st_heedAll_other (l : List Nat) (s : State) (hb : b ∉ l) (hw : s.demandQ ++ s.schedQ = []) :
    (l.foldl (State.heed r) s).st b = s.st b := by
  induction l generalizing s with
  | nil => rfl
  | cons a l ih =>
    obtain ⟨ne, hb⟩ := not_or.mp (mt List.mem_cons.mpr hb)
    rw [List.foldl_cons, ih _ hb ((s.heed_thinned a).waiting hw), State.st_heed_other ne hw]

theorem State.heedAll_thinned (l : List Nat) (s : State) : s.Thinned (l.foldl (State.heed r) s) := by
  induction l generalizing s with
  | nil => exact .refl s
  | cons a l ih => exact (s.heed_thinned a).trans (ih _)

/-- With no station waiting for a wake, what each station of the list heeds is what it heeds alone. -/
theorem State.st_heedAll_self (l : List Nat) (s : State) (nodup : l.Nodup) (hb : b ∈ l)
    (hw : s.demandQ ++ s.schedQ = []) (hc : (s.pol b).cls ≠ .absent) :
    ∃ t : State, t.st b = s.st b
      ∧ (l.foldl (State.heed r) s).st b = (t.accept b r).st b ∧ (t.accept b r).Thinned (l.foldl (State.heed r) s) := by
  induction l generalizing s with
  | nil => cases hb
  | cons a l ih =>
    obtain ⟨fresh, nodup⟩ := List.nodup_cons.mp nodup
    by_cases e : b = a
    · subst e
      have one : s.heed r b = s.accept b r := if_neg hc
      refine ⟨s, rfl, ?_, ?_⟩
      · rw [List.foldl_cons, State.st_heedAll_other l _ fresh ((s.heed_thinned b).waiting hw), one]
      · rw [List.foldl_cons, one]; exact State.heedAll_thinned l _
    · obtain ⟨t, hst, hself, hthin⟩ := ih (s.heed r a) nodup ((List.mem_cons.mp hb).resolve_left e)
        ((s.heed_thinned a).waiting hw) (by rw [(s.heed_kept a).pol]; exact hc)
      exact ⟨t, by rw [hst, State.st_heed_other e hw], hself, hthin⟩

theorem State.setBroadcast_dropped
    (h : r.action = .park ∨ r.action = .wake ∨ s.anyHeld = true ∨ s.draining = true ∨ 8 ≤ s.fwd.posted.length) :
    s.setBroadcast src tag r = s.dropBroadcast := by
  unfold State.setBroadcast
  by_cases hr : r.action = .park ∨ r.action = .wake ∨ s.anyHeld = true
  · exact if_pos hr
  · rw [if_neg hr, State.forwardBroadcast_dropped]
    simp only [not_or] at hr
    exact ((h.resolve_left hr.1).resolve_left hr.2.1).resolve_left hr.2.2

/-- The state of a forwarded broadcast SET before any station heeds it. -/
def State.forwarding (s : State) (e : Entry) : State :=
  { s with fwd := { s.fwd with posted := s.fwd.posted ++ [e], seq := s.fwd.seq + 1 } }

theorem State.setBroadcast_forwarded (hp : r.action ≠ .park) (hk : r.action ≠ .wake) (hh : s.anyHeld = false)
    (hd : s.draining = false) (hl : s.fwd.posted.length < 8) :
    s.setBroadcast src tag r = addresses.foldl (State.heed r) (s.forwarding (s.newEntry src 0 tag (.set r))) := by
  unfold State.setBroadcast
  rw [if_neg (by simp [hp, hk, hh]), State.forwardBroadcast_room _ hd hl]
  rfl

/-- With no station gate-held none waits for a wake. -/
theorem State.waiting_nil (h : s.queuesMatch) (hh : s.anyHeld = false) : s.demandQ ++ s.schedQ = [] := by
  refine List.eq_nil_iff_forall_not_mem.mpr fun b m => ?_
  have held : s.held b = true := by simp [State.held, StState.gateHeld, h.mem_waiting.mp m]
  rw [State.anyHeld_of_held held] at hh
  cases hh

/-- Settles O30. -/
theorem broadcastsAreForwardedOrDropped : Obligations.BroadcastsAreForwardedOrDropped := by
  refine ⟨fun src tag w s h => ?_, fun src tag r s h => ⟨fun hd => ?_, fun hp hk hh hdr hl => ?_⟩⟩
  · have hx : exec (.timeBroadcast src tag w) s = .next ((s.hunt .c).timeBroadcast src tag w).finish :=
      congrArg _ (State.arrive_broadcast h (Sys2Proof.Body.fits_time w))
    obtain ⟨v, hv, kept, hclock, hrange⟩ := (s.hunt .c).judgeTime_kept w.toNat
    have fwd := State.timeBroadcast_forwarded (s := s.hunt .c) (src := src) (tag := tag) w
    have rest := fwd.rest
    have granted := State.finish_granted ((s.hunt .c).timeBroadcast src tag w)
    have quiet := State.finish_quiet ((s.hunt .c).timeBroadcast src tag w)
    generalize (s.hunt .c).timeBroadcast src tag w = u at hx fwd rest granted quiet
    have sameU (a : Nat) : u.st a = ((s.hunt .c).judgeTime w.toNat).st a := State.st_congr _ _ (by rw [rest]) a
    have sameV (a : Nat) : v.st a = s.st a := State.st_congr _ _ (by rw [hv]; rfl) a
    have belief (a : Nat) : Station.BeliefKept (s.st a) (u.finish.st a) := by
      rw [← sameV]
      exact (kept.st a).trans (by rw [← sameU]; exact granted.st a)
    have fwdS : ((s.hunt .c).judgeTime w.toNat).fwd = s.fwd := by rw [kept.fwd, hv]; rfl
    have drainS : ((s.hunt .c).judgeTime w.toNat).draining = s.draining := by
      rw [kept.draining, hv]; exact State.hunt_draining s .c
    have entry : ((s.hunt .c).judgeTime w.toNat).newEntry src 0 tag (.time w) = s.entryNow src 0 tag (.time w) := by
      simp only [State.newEntry, State.entryNow, State.now, fwdS, kept.mono]
      rw [hv]
      rfl
    have settled : s.settingsKept u := (State.hunt_settings .c).trans
      ((show (s.hunt .c).settingsKept v by rw [hv]; exact ⟨rfl, rfl, rfl, rfl, rfl, rfl, rfl, rfl, rfl, rfl, rfl⟩).trans
        (kept.settingsKept.trans (by rw [rest]; exact ⟨rfl, rfl, rfl, rfl, rfl, rfl, rfl, rfl, rfl, rfl, rfl⟩)))
    refine ⟨u.finish, hx, ?_, ?_, fun ht hw hq => ?_, fun hd hl => ?_, fun hf => ?_, fun a => ?_, ?_, ?_,
      settled.trans granted.settingsKept⟩
    · rw [granted.clock, rest, kept.clock, hclock]; rfl
    · rw [granted.timeRange, rest, kept.timeRange, hrange]; rfl
    · have hset := State.judgeTime_set (s := s.hunt .c) ht hw
      rw [hset] at rest sameU
      have hq' := State.hunt_queuesMatch .c hq
      have faredU : ((s.hunt .c).setWeek w.toNat).Fared u := .same (State.setWeek_queues _ hq')
        (by rw [rest]) (by rw [rest]) (by rw [rest]) (by rw [rest])
      have closing := State.setWeek_closing (s := s.hunt .c) w.toNat hq'
        (faredU.trans (State.finish_fared faredU.queues)).outlasts
        fun a => by rw [← sameU]; exact granted.st a
      exact closing
    · obtain ⟨hp, hc⟩ := fwd.room (by rwa [drainS]) (by rwa [fwdS])
      rw [granted.fwd]
      exact ⟨by rw [← entry, ← fwdS]; exact hp, by rw [← fwdS]; exact hc⟩
    · obtain ⟨hp, hb, hc⟩ := fwd.full (by rwa [drainS, fwdS])
      rw [granted.fwd, quiet.flags]
      exact ⟨by rw [← fwdS]; exact hp, hb, by rw [← fwdS]; exact hc⟩
    · exact ⟨(belief a).shadow, (belief a).hold, (belief a).credit⟩
    · rw [granted.cport, rest, kept.cport, hv]
    · rw [granted.answers, rest, kept.answers, hv]; rfl
  · have hx : exec (.broadcastSet src tag r) s = .next ((s.hunt .c).setBroadcast src tag r).finish :=
      congrArg _ (State.arrive_broadcast h (Sys2Proof.Body.fits_set r))
    rw [hx, State.setBroadcast_dropped (s := s.hunt .c) hd] <;> rfl
  · have hx : exec (.broadcastSet src tag r) s = .next ((s.hunt .c).setBroadcast src tag r).finish :=
      congrArg _ (State.arrive_broadcast h (Sys2Proof.Body.fits_set r))
    rw [State.setBroadcast_forwarded hp hk (show (s.hunt .c).anyHeld = false from hh) (by simpa using hdr) hl] at hx
    have entry : (s.hunt .c).newEntry src 0 tag (.set r) = s.entryNow src 0 tag (.set r) := rfl
    rw [entry] at hx
    have same (a : Nat) : ((s.hunt .c).forwarding (s.entryNow src 0 tag (.set r))).st a = s.st a := rfl
    have pol (a : Nat) : ((s.hunt .c).forwarding (s.entryNow src 0 tag (.set r))).pol a = s.pol a := rfl
    generalize hw : (s.hunt .c).forwarding (s.entryNow src 0 tag (.set r)) = w at hx same pol
    have kept := State.heedAll_kept (r := r) addresses w
    have granted := State.finish_granted (addresses.foldl (State.heed r) w)
    have heeded (a : Nat) (ha : Sys2Proof.stationAddress a = true) (hc : (s.pol a).cls ≠ .absent) :
        Station.Heeded s.mono r (s.st a) ((addresses.foldl (State.heed r) w).finish.st a) := by
      have known := (stationAddress_iff a).mp ha
      have self := State.heedAll_self (r := r) addresses w addresses_nodup known ((mem_addresses a).mpr known)
        (by rwa [pol])
      rw [same, show w.now = s.mono by rw [← hw]; rfl] at self
      exact .belief (.refl _) self (granted.st a)
    have others (a : Nat) (h : ¬ (Sys2Proof.stationAddress a = true ∧ (s.pol a).cls ≠ .absent)) :
        Station.BeliefKept (s.st a) ((addresses.foldl (State.heed r) w).finish.st a) := by
      have other := State.heedAll_other (r := r) (b := a) addresses w (by
        rw [mem_addresses, ← stationAddress_iff, pol]
        exact (not_and_or.mp h).imp_right not_not.mp)
      rw [same] at other
      exact other.trans (granted.st a)
    have settled : s.settingsKept w := by
      rw [← hw]; exact ⟨rfl, rfl, rfl, rfl, rfl, rfl, rfl, rfl, rfl, rfl, rfl⟩
    refine ⟨_, hx, ?_, fun a ha hc => ?_, fun a hc => ?_, fun a => ?_, ?_, ?_,
      settled.trans (kept.settingsKept.trans granted.settingsKept)⟩
    · rw [granted.fwd, kept.fwd, ← hw]; rfl
    · obtain ⟨-, shadow, lock, fresh⟩ := heeded a ha hc
      refine ⟨?_, lock, fresh, fun hq => ?_⟩
      · rw [shadow]
        unfold shadowAfter
        cases r.action <;> rfl
      · have none_waits : w.demandQ ++ w.schedQ = [] := by
          rw [← hw]; exact State.waiting_nil hq hh
        obtain ⟨v, hv, self, thin⟩ := State.st_heedAll_self (r := r) addresses w addresses_nodup
          ((mem_addresses a).mpr ((stationAddress_iff a).mp ha)) none_waits (by rwa [pol])
        rw [same] at hv
        refine ⟨?_, fun hpq => ?_⟩
        · rw [(granted.st a).credit, self, (State.st_accept_self ((stationAddress_iff a).mp ha)).credit, hv]
        · have gone := thin.unlisted (State.accept_unlisted (by rwa [hv]))
          exact ⟨by rw [State.st_finish_unlisted gone, self, State.accept_free (by rwa [hv])],
            ((State.finish_thinned _).unlisted gone).1⟩
    · have k := others a fun k => k.2 hc
      exact ⟨k.shadow, k.lock⟩
    · by_cases ha : Sys2Proof.stationAddress a = true ∧ (s.pol a).cls ≠ .absent
      · exact (heeded a ha.1 ha.2).hold
      · exact (others a ha).hold
    · rw [granted.cport, kept.cport, ← hw] <;> rfl
    · rw [granted.answers, kept.answers, ← hw]; rfl

end Sys2Proof.Machine
end


section
/-! SUPPORT. Night windows and the week clock: what spans cover, span ends, SET CLOCK and WRITE WINDOW (R163 to R171). -/

namespace Sys2Proof.Machine

open Station (BeliefKept HoldKept beliefOrder)

variable {s t u : State} {a b : Nat} {src tag : Byte}

/-! ## Spans (R167, R168) -/

theorem Window.spanLength_eq (w : Window) : w.spanLength =
    if w.openMin < w.closeMin then w.closeMin - w.openMin
    else if w.closeMin < w.openMin then w.closeMin + 1440 - w.openMin else 1440 := by
  unfold Window.spanLength
  split
  · rfl
  · split <;> omega

theorem Window.spanLength_le (w : Window) (ho : w.openMin ≤ 1439) (hc : w.closeMin ≤ 1439) : w.spanLength ≤ 1440 := by
  unfold Window.spanLength
  split <;> omega

/-- A minute lies less than `n` after the start `c` of a span exactly when some minute of the span is it. -/
theorem span_covers {m c n : Nat} (hm : m < 10080) (hc : c < 10080) (hn : n ≤ 1440) :
    (m + 10080 - c) % 10080 < n ↔ ∃ k, k < n ∧ (c + k) % 10080 = m := by
  constructor
  · exact fun h => ⟨_, h, by omega⟩
  · rintro ⟨k, hk, e⟩
    omega

theorem Window.covers_iff (w : Window) (z m : Nat) (ho : w.openMin ≤ 1439) (hc : w.closeMin ≤ 1439) (hm : m < 10080) :
    w.covers z m = true ↔ w.zoneMask.testBit z = true
      ∧ ∃ d, d < 7 ∧ w.dayMask.testBit d = true
        ∧ ∃ k, k < w.spanLength ∧ (d * 1440 + w.openMin + k) % 10080 = m := by
  have span (d : Nat) (hd : d < 7) :=
    span_covers (c := d * 1440 + w.openMin) hm (by omega) (w.spanLength_le ho hc)
  simp only [Window.covers, Bool.and_eq_true, List.any_eq_true, List.mem_range, decide_eq_true_eq]
  refine and_congr_right fun _ => exists_congr fun d => and_congr_right fun hd => and_congr_right fun _ => ?_
  exact span d hd

theorem firstClosed_some (f : Nat → Bool) (n : Nat) : ∀ fuel k, n < fuel → (∀ j, j < n → f (k + j) = true) →
    f (k + n) = false → firstClosed f fuel k = some (k + n) := by
  induction n with
  | zero =>
    intro fuel k hf _ hc
    obtain ⟨fuel, rfl⟩ := Nat.exists_eq_add_of_lt hf
    exact if_neg (by simpa using hc)
  | succ n ih =>
    intro fuel k hf ho hc
    obtain ⟨fuel, rfl⟩ : ∃ m, fuel = m + 1 := ⟨fuel - 1, by omega⟩
    have open_ : f k = true := ho 0 (by omega)
    rw [firstClosed, if_pos open_, ih fuel (k + 1) (by omega)]
    · congr 1; omega
    · intro j hj
      rw [show k + 1 + j = k + (j + 1) by omega]
      exact ho _ (by omega)
    · rwa [show k + 1 + n = k + (n + 1) by omega]

theorem firstClosed_none (f : Nat → Bool) (fuel k : Nat) (h : ∀ j, j < fuel → f (k + j) = true) :
    firstClosed f fuel k = none := by
  induction fuel generalizing k with
  | zero => rfl
  | succ fuel ih =>
    have open_ : f k = true := h 0 (by omega)
    rw [firstClosed, if_pos open_]
    refine ih (k + 1) fun j hj => ?_
    rw [show k + 1 + j = k + (j + 1) by omega]
    exact h _ (by omega)

theorem State.spanMinutes_some (z k : Nat) (hk : k < 10080)
    (ho : ∀ j, j < k → s.openAt z ((s.weekMinute + j) % 10080) = true)
    (hc : s.openAt z ((s.weekMinute + k) % 10080) = false) : s.spanMinutes z = some k := by
  have e := firstClosed_some (fun k => s.openAt z ((s.weekMinute + k) % Config.weekMinutes)) k Config.weekMinutes 0 hk
    (fun j hj => by rw [Nat.zero_add]; exact ho j hj) (by rw [Nat.zero_add]; exact hc)
  rwa [Nat.zero_add] at e

theorem State.spanMinutes_none (z : Nat) (h : ∀ j, j < 10080 → s.openAt z ((s.weekMinute + j) % 10080) = true) :
    s.spanMinutes z = none :=
  firstClosed_none _ Config.weekMinutes 0 fun j hj => by rw [Nat.zero_add]; exact h j hj

/-! ## The two writes (R165, R170) -/

theorem State.mreply_settings (code : Byte) (res : Res) (data : List Byte) :
    s.settingsKept (s.mreply src tag code res data) := by
  unfold State.mreply
  simp [State.settingsKept]

@[simp] theorem State.st_mreply (code : Byte) (res : Res) (data : List Byte) (a : Nat) :
    (s.mreply src tag code res data).st a = s.st a := State.st_answer _ _ a

/-- A closing is taken as well by a state with the same records. -/
theorem State.closingTaken_congr {v : State} (h : s.closingTaken v t) (hu : ∀ a, u.st a = t.st a) :
    s.closingTaken v u := by
  simpa only [State.closingTaken, hu] using h

theorem State.reqSetClock_fields (b3 b2 b1 b0 : Byte) : s.request .setClock [b3, b2, b1, b0]
    = s.judge .setClock true (decide (beVal [b3, b2, b1, b0] < 604800000))
        (s.setWeek (beVal [b3, b2, b1, b0])).finish.ok := rfl

theorem State.reqWriteWindow_fields (i zm dm o1 o0 c1 c0 : Byte) :
    s.request .writeWindow [i, zm, dm, o1, o0, c1, c0]
      = s.judge .writeWindow true
          (i.toNat ≤ 15 && dm.toNat ≤ 127 && beVal [o1, o0] ≤ 1439 && beVal [c1, c0] ≤ 1439)
          (s.writeWindow i.toNat ⟨zm.toNat, dm.toNat, beVal [o1, o0], beVal [c1, c0]⟩).ok := rfl

/-- What a window write does to the stations, up to the end of the step. -/
theorem State.writeWindow_closing (i : Nat) (w : Window) (h : s.queuesMatch) :
    s.closingTaken { s with cfg := { s.cfg with windows := s.cfg.windows.setIfInBounds i w } } (s.writeWindow i w)
      ∧ State.Granted (s.setWindow i w) (s.writeWindow i w) := by
  have hq : (s.setWindow i w).queuesMatch := State.queuesMatch_congr h rfl rfl rfl rfl
  have rearmed := (State.rearmWakeDue_parked (State.closeThose_fared s.openUntilNow hq).queues).1
  have kept : (s.setWindow i w).Kept BeliefKept (((s.setWindow i w).closeThose s.openUntilNow).rearmWakeDue) :=
    (State.closeThose_kept _ _).trans beliefOrder (State.rearmWakeDue_kept _)
  have granted := State.finish_granted (((s.setWindow i w).closeThose s.openUntilNow).rearmWakeDue)
  have closing := State.closing (s := s) (v := s.setWindow i w) (u := s.writeWindow i w) rfl
    (fun a => by cases a <;> rfl) hq
    (State.finish_fared rearmed).outlasts granted.st
  exact ⟨closing, kept.granted.trans granted⟩

/-- Settles O55. -/
theorem clockAndWindowWrites : Obligations.ClockAndWindowWrites := by
  refine ⟨fun w z m ho hc hm => ?_, fun s z => ⟨fun m => ?_, ?_, fun k hk ho hc => ?_, fun h => ?_⟩,
    fun src tag s h hadm => ⟨fun b3 b2 b1 b0 => ?clock, fun i zm dm o1 o0 c1 c0 => ?window⟩⟩
  · dsimp only
    rw [← Window.spanLength_eq]
    exact w.covers_iff z m ho hc hm
  · exact List.any_eq_true
  · exact Bool.and_eq_true_iff
  · rw [State.timeToSpanEnd, State.spanMinutes_some (s := s) z k hk ho hc] <;> rfl
  · rw [State.timeToSpanEnd, State.spanMinutes_none (s := s) z h] <;> rfl
  case clock =>
    have judged := exec_of_judged (i := .setClock src tag [b3, b2, b1, b0]) .setClock h (by simp) (.inr hadm) rfl
      (State.reqSetClock_fields b3 b2 b1 b0)
    refine ⟨fun hn => ?_, fun hn hq => ?_⟩
    · rw [judged, if_neg (by simpa using hn)] <;> rfl
    · rw [if_pos (by simpa using hn)] at judged
      have kept := (s.hunt .c).setWeek_kept (Sys2Proof.beVal [b3, b2, b1, b0])
      have granted := kept.granted.trans (State.finish_granted _)
      have hq' := State.hunt_queuesMatch .c hq
      have closing := State.setWeek_closing (s := s.hunt .c) (Sys2Proof.beVal [b3, b2, b1, b0]) hq'
        (State.finish_fared (State.setWeek_queues _ hq')).outlasts (State.finish_granted _).st
      refine ⟨_, judged, (State.answer_clock _ _).trans granted.clock,
        State.closingTaken_congr closing fun a => State.st_mreply _ _ _ a,
        State.mreply_answeredWith (s := s.hunt .c) granted.cport granted.answers granted.lineTime granted.straps, ?_⟩
      exact (State.hunt_settings .c).trans (State.settingsKept.trans
        (t := { s.hunt .c with clock := ⟨true, Sys2Proof.beVal [b3, b2, b1, b0], (s.hunt .c).now⟩ })
        ⟨rfl, rfl, rfl, rfl, rfl, rfl, rfl, rfl, rfl, rfl, rfl⟩
        (granted.settingsKept.trans (State.mreply_settings _ _ _)))
  case window =>
    have judged := exec_of_judged (i := .writeWindow src tag [i, zm, dm, o1, o0, c1, c0]) .writeWindow h (by simp)
      (.inr hadm) rfl (State.reqWriteWindow_fields i zm dm o1 o0 c1 c0)
    refine ⟨fun hn => ?_, fun hi hd ho hc hq => ?_⟩
    · rw [judged, if_neg] <;> [rfl; skip]
      simp only [Bool.and_eq_true, decide_eq_true_eq]
      rintro ⟨⟨⟨hi, hd⟩, ho⟩, hc⟩
      rcases hn with hn | hn | hn | hn
      · exact absurd hi (Nat.not_le.mpr hn)
      · exact absurd hd (Nat.not_le.mpr hn)
      · exact absurd ho (Nat.not_le.mpr hn)
      · exact absurd hc (Nat.not_le.mpr hn)
    · rw [if_pos (by simp only [Bool.and_eq_true, decide_eq_true_eq]; exact ⟨⟨⟨hi, hd⟩, ho⟩, hc⟩)] at judged
      obtain ⟨closing, granted⟩ := State.writeWindow_closing (s := s.hunt .c) i.toNat
        ⟨zm.toNat, dm.toNat, Sys2Proof.beVal [o1, o0], Sys2Proof.beVal [c1, c0]⟩ (State.hunt_queuesMatch .c hq)
      exact ⟨_, judged, (State.answer_cfg _ _).trans granted.cfg,
        State.closingTaken_congr closing fun a => State.st_mreply _ _ _ a,
        (State.answer_clock _ _).trans granted.clock,
        State.mreply_answeredWith (s := s.hunt .c) granted.cport granted.answers granted.lineTime granted.straps⟩

end Sys2Proof.Machine
end


section
/-! SUPPORT. Requests about one station: WRITE STATION POLICY, HOLD AWAKE, RELEASE and CLEAR FAULT (R84 to R88, R102). -/

namespace Sys2Proof.Machine

open Station (BeliefKept HoldKept beliefOrder)

variable {s t u : State} {a b : Nat} {src tag : Byte}

theorem State.hasRecord_of_named (h : s.named a = true) : hasRecord a := State.le_of_named h

/-! ## The policy write (R87, R88, R102) -/

/-- The park-failure limit test at one station (R102). -/
theorem State.failLimitTest_eq (known : hasRecord a) :
    let limit := (s.pol a).failLimit ≠ 0 ∧ (s.pol a).failLimit ≤ (s.st a).stats.parkFailures
    (s.failLimitTest a).st a = { s.st a with autoExempt := (s.st a).autoExempt || decide limit }
      ∧ (s.failLimitTest a).flags = { s.flags with parkLimit := s.flags.parkLimit || decide limit } := by
  intro limit
  unfold State.failLimitTest
  by_cases h : limit
  · rw [if_pos h]
    simp only [State.st_raise, State.st_modSt_self _ a _ known, h, decide_true, Bool.or_true, true_and]
    simp [State.raise, Attention.raised]
  · rw [if_neg h]
    simp only [h, decide_false, Bool.or_false, and_self]

theorem State.setPol_cfg_eq (h : 1 ≤ a) (p : Policy) :
    (s.setPol a p).cfg = { s.cfg with policies := s.cfg.policies.setIfInBounds (a - 1) p } := by
  cases a with
  | zero => omega
  | succ n => rfl

theorem State.pol_setPol_self (h : hasRecord a) (p : Policy) : (s.setPol a p).pol a = p := by
  obtain ⟨h1, h2⟩ := h
  cases a with
  | zero => omega
  | succ n =>
    have : n < 127 := by omega
    simp [State.setPol, State.pol, this]

theorem State.pol_setPol_other (h : b ≠ a) (p : Policy) : (s.setPol a p).pol b = s.pol b := by
  cases a with
  | zero => rfl
  | succ n =>
    cases b with
    | zero => rfl
    | succ m =>
      have hm : n ≠ m := by omega
      by_cases hb : m < 127 <;> simp [State.setPol, State.pol, hb, hm]

/-- What an accepted policy write comes to for a station that stands in no queue. -/
theorem State.writePolicy_end (p : Policy) (known : hasRecord a) (hq : s.queuesMatch)
    (out : (s.st a).state.unqueued) :
    let limit := p.failLimit ≠ 0 ∧ p.failLimit ≤ (s.st a).stats.parkFailures
    (s.setPol a p).Granted (s.writePolicy a p)
    ∧ (s.writePolicy a p).st a = { s.st a with autoExempt := (s.st a).autoExempt || decide limit }
    ∧ (s.writePolicy a p).flags = { s.flags with parkLimit := s.flags.parkLimit || decide limit } := by
  intro limit
  have same : (s.setPol a p).st a = s.st a := State.st_congr _ _ (by simp) a
  have pol : (s.setPol a p).pol a = p := State.pol_setPol_self known p
  obtain ⟨self, flags⟩ := State.failLimitTest_eq (s := s.setPol a p) known
  rw [same, pol] at self flags
  have hq1 : (s.setPol a p).queuesMatch := State.queuesMatch_congr hq (by simp) (by simp) (by simp) (by simp)
  have hq2 : ((s.setPol a p).failLimitTest a).queuesMatch :=
    (State.failLimitTest_moves (w := False) _ a).queuesMatch hq1
  have unlisted : ((s.setPol a p).failLimitTest a).unlisted a := hq2.unlisted (by rw [self]; exact out)
  have quiet := (State.admissionPass_quiet ((s.setPol a p).failLimitTest a)).trans (State.finish_quiet _)
  have waits : a ∉ ((s.setPol a p).failLimitTest a).demandQ ++ ((s.setPol a p).failLimitTest a).schedQ := by
    rw [List.mem_append, not_or]
    exact unlisted.2
  refine ⟨?_, ?_, ?_⟩
  · exact ((State.failLimitTest_kept _ a).trans beliefOrder (State.admissionPass_kept _)).granted.trans
      (State.finish_granted _)
  · rw [State.writePolicy, State.st_finish_unlisted ((State.admissionPass_thinned _).unlisted unlisted),
      State.st_admissionPass_other _ _ waits, self]
  · rw [State.writePolicy, quiet.flags, flags, State.setPol_flags]

theorem StState.writable_iff (x : StState) : x.writable = true ↔ x = .unknown ∨ x = .free ∨ x = .faulted := by
  cases x <;> simp [StState.writable]

theorem State.reqWritePolicy_of_policy {a : Byte} {body : List Byte} {p : Policy} (h : Policy.ofBytes body = some p) :
    s.request .writeStationPolicy (a :: body)
      = s.judge .writeStationPolicy true (s.named a.toNat && p.inRange)
          (if (s.st a.toNat).state.writable then (s.writePolicy a.toNat p).ok else s.refuse .stationState) := by
  simp only [State.request, State.reqWriteStationPolicy, h]

theorem State.reqWritePolicy_of_none {a : Byte} {body : List Byte} (hl : body.length = 27)
    (h : Policy.ofBytes body = none) :
    s.request .writeStationPolicy (a :: body) = s.judge .writeStationPolicy true false s.ok := by
  simp only [State.request, State.reqWriteStationPolicy, h, hl]
  rfl

/-- Settles O52. -/
theorem policyWriteReplacesPolicy : Obligations.PolicyWriteReplacesPolicy := by
  intro src tag a body p s h hadm hl
  have none_ (hn : Policy.ofBytes body = none) := exec_of_judged (i := .writeStationPolicy src tag (a :: body))
    .writeStationPolicy h (by simp [hl]) (.inr hadm) rfl (State.reqWritePolicy_of_none (s := s.hunt .c) hl hn)
  have some_ {p : Policy} (hp : Policy.ofBytes body = some p) :=
    exec_of_judged (i := .writeStationPolicy src tag (a :: body)) .writeStationPolicy h (by simp [hl]) (.inr hadm) rfl
      (State.reqWritePolicy_of_policy (s := s.hunt .c) (a := a) hp)
  simp only [State.hunt_named, State.st_hunt] at some_
  refine ⟨fun hbad => ?_, fun hp => ⟨fun hr => ?_, fun hn hr hs => ?_, fun hn hr hs hq => ?_⟩⟩
  · cases ho : Policy.ofBytes body with
    | none => exact none_ ho
    | some p => rw [some_ ho, if_neg (by simp [hbad.resolve_left (by simp [ho])])]; rfl
  · rw [some_ hp, if_neg (by simp [hr])]
    rfl
  · rw [some_ hp, if_pos (by simp [hn, hr]), if_neg (by rw [StState.writable_iff]; exact hs)]
    rfl
  · have known := State.hasRecord_of_named hn
    have out : ((s.hunt .c).st a.toNat).state.unqueued := by
      rw [State.st_hunt]
      rcases hs with hs | hs | hs <;> simp [StState.unqueued, hs]
    obtain ⟨granted, self, flags⟩ := State.writePolicy_end p known (State.hunt_queuesMatch .c hq) out
    have cfg : ((s.hunt .c).writePolicy a.toNat p).cfg = ((s.hunt .c).setPol a.toNat p).cfg := granted.cfg
    have pol (b : Nat) : ((s.hunt .c).writePolicy a.toNat p).pol b = ((s.hunt .c).setPol a.toNat p).pol b :=
      State.pol_congr _ _ cfg b
    refine ⟨((s.hunt .c).writePolicy a.toNat p).mreply src tag 0x11 .ok [], ?_, ?_, ?_, fun b hb => ?_, ?_, ?_, ?_⟩
    · rw [some_ hp, if_pos (by simp [hn, hr]), if_pos ((StState.writable_iff _).mpr hs)]
      rfl
    · rw [State.mreply, State.answer_cfg, cfg, State.setPol_cfg_eq known.1]
      rfl
    · rw [State.mreply, State.pol_answer, pol, State.pol_setPol_self known]
    · rw [State.mreply, State.pol_answer, pol, State.pol_setPol_other hb, State.pol_hunt]
    · rw [State.st_mreply, self, State.st_hunt]
    · rw [State.mreply, State.answer_flags, flags, State.st_hunt]
      rfl
    · exact State.mreply_answeredWith (s := s.hunt .c) (granted.cport.trans (by simp)) (granted.answers.trans (by simp))
        (by rw [granted.lineTime]; simp [State.lineTime]) (granted.straps.trans (by simp))

/-! ## HOLD AWAKE (R85) -/

/-- What HOLD AWAKE comes to, by the station's state. -/
structure State.HeldAwake (s t : State) (a : Nat) : Prop where
  quiet : (s.st a).state = .unknown ∨ (s.st a).state = .free ∨ (s.st a).state = .faulted →
    t.st a = { s.st a with exempt := true }
  queued : (s.st a).state = .parkQueued → (t.st a).state = .free ∧ a ∉ t.parkQ
  operating : (s.st a).state = .parking ∨ (s.st a).state = .waking →
    t.st a = { s.st a with exempt := true, demand := true }
  waiting : (s.st a).state = .parked ∨ (s.st a).state = .wakeQueued →
    (t.st a).state = .faulted ∨ (t.st a).demand = true ∧ a ∉ t.schedQ
      ∧ ((t.st a).state = .wakeQueued ∨ (t.st a).state = .waking)

theorem State.holdAwake_granted (s : State) (a : Nat) :
    (s.modSt a fun r => { r with exempt := true }).Granted (s.holdAwake a) := by
  unfold State.holdAwake
  dsimp only
  split
  · exact (State.leavePark_kept _ a).granted.trans (State.finish_granted _)
  · exact (State.takeWake_kept _ a .demand).granted.trans (State.finish_granted _)

theorem State.holdAwake_end (known : hasRecord a) (hq : s.queuesMatch) : s.HeldAwake (s.holdAwake a) a := by
  have self := s.st_modSt_self a (fun r => { r with exempt := true }) known
  have hq1 : (s.modSt a fun r => { r with exempt := true }).queuesMatch := State.queuesMatch_modSt hq a _ (.inl rfl)
  have of_queued (hp : (s.st a).state = .parkQueued) :
      s.holdAwake a = ((s.modSt a fun r => { r with exempt := true }).leavePark a false).finish := by
    rw [State.holdAwake, if_pos hp]
  have of_other (hp : (s.st a).state ≠ .parkQueued) :
      s.holdAwake a = ((s.modSt a fun r => { r with exempt := true }).takeWake a .demand).finish := by
    rw [State.holdAwake, if_neg hp]
  generalize (s.modSt a fun r => { r with exempt := true }) = v at self hq1 of_queued of_other
  have state : (v.st a).state = (s.st a).state := by rw [self]
  have ended (hs : (s.st a).state.gateHeld = true) :=
    State.demand_end (a := a) hq1 (by rw [State.held, state]; exact hs)
  refine ⟨fun hs => ?_, fun hs => ?_, fun hs => ?_, fun hs => ?_⟩
  · have kinds : (v.st a).state ≠ .parked ∧ (v.st a).state ≠ .wakeQueued ∧ (v.st a).state ≠ .parking
        ∧ (v.st a).state ≠ .waking ∧ (v.st a).state ≠ .parkQueued := by
      rw [state]
      rcases hs with hs | hs | hs <;> simp [hs]
    obtain ⟨parked, waits, parking, waking, queued⟩ := kinds
    rw [of_other (by rwa [← state]), State.takeWake_dropped .demand parked waits ⟨parking, waking⟩,
      State.st_finish_unlisted (hq1.unlisted ⟨queued, waits⟩), self]
  · have queued : (v.st a).state = .parkQueued := by rw [state, hs]
    have gone : (v.leavePark a false).unlisted a := by
      rw [State.leavePark_of_queued queued]
      exact State.enterFree_unlisted _ a _
    rw [of_queued hs]
    exact ⟨by rw [State.st_finish_unlisted gone, State.leavePark_free false queued],
      ((State.finish_thinned _).unlisted gone).1⟩
  · rw [of_other (by rcases hs with hs | hs <;> simp [hs]),
      (ended (by rcases hs with hs | hs <;> simp [hs, StState.gateHeld])).1 (by rwa [state]), self]
  · obtain ⟨woken, -, demanded⟩ :=
      (ended (by rcases hs with hs | hs <;> simp [hs, StState.gateHeld])).2 (by rwa [state])
    rw [of_other (by rcases hs with hs | hs <;> simp [hs])]
    by_cases hf : ((v.takeWake a .demand).finish.st a).state = .faulted
    · exact .inl hf
    · obtain ⟨demand, queue⟩ := demanded hf
      rcases woken with hw | hw | hw
      · exact .inr ⟨demand, queue, .inl hw⟩
      · exact .inr ⟨demand, queue, .inr hw⟩
      · exact absurd hw hf

theorem State.reqHoldAwake_field (a : Byte) : s.request .holdAwake [a]
    = s.judge .holdAwake true (s.named a.toNat) (s.holdAwake a.toNat).ok := rfl

theorem State.reqRelease_field (a : Byte) : s.request .release [a]
    = s.judge .release true (s.named a.toNat) (s.modSt a.toNat (fun r => { r with exempt := false })).ok := rfl

theorem State.reqClearFault_field (a : Byte) : s.request .clearFault [a]
    = s.judge .clearFault true (s.named a.toNat)
        (if (s.st a.toNat).state = .faulted then (s.modSt a.toNat Station.cleared).ok
         else s.refuse .stationState) := rfl

/-- Settles O53. -/
theorem holdAwakeReleaseAndClearFault : Obligations.HoldAwakeReleaseAndClearFault := by
  refine ⟨fun src tag a s h hadm => ⟨fun hn => ?_, fun hn hq => ?_⟩, fun src tag a s h hadm => ⟨fun hn => ?_, fun hn => ?_⟩⟩
  · rw [exec_of_judged (i := .holdAwake src tag [a]) .holdAwake h (by simp) (.inr hadm) rfl
      (State.reqHoldAwake_field a), State.hunt_named, if_neg (by simp [hn])]
    rfl
  · have judged := exec_of_judged (i := .holdAwake src tag [a]) .holdAwake h (by simp) (.inr hadm) rfl
      (State.reqHoldAwake_field a)
    rw [State.hunt_named, if_pos hn] at judged
    have known := State.hasRecord_of_named hn
    have ended := State.holdAwake_end (s := s.hunt .c) known (State.hunt_queuesMatch .c hq)
    have self := (s.hunt .c).st_modSt_self a.toNat (fun r => { r with exempt := true }) known
    have granted := (s.hunt .c).holdAwake_granted a.toNat
    obtain ⟨quiet, queued, operating, waiting⟩ := ended
    have kept := granted.st a.toNat
    rw [self] at kept
    have modKept : State.Kept (fun _ _ => True) (s.hunt .c)
        ((s.hunt .c).modSt a.toNat fun r => { r with exempt := true }) :=
      State.modSt_kept ⟨fun _ => trivial, fun _ _ => trivial⟩ _ _ _ trivial
    refine ⟨_, judged, ?_⟩
    dsimp only [State.ok]
    simp only [State.st_mreply]
    refine ⟨kept.exempt, kept.credit, kept.hold, quiet, fun hp => ?_, operating, fun hw => ?_, ?_, ?_⟩
    · exact ⟨(queued hp).1, by rw [State.mreply, State.answer_parkQ]; exact (queued hp).2⟩
    · rw [State.mreply, State.answer_schedQ]
      exact waiting hw
    · exact State.mreply_answeredWith (s := s.hunt .c) (granted.cport.trans modKept.cport)
        (granted.answers.trans modKept.answers) (granted.lineTime.trans modKept.lineTime)
        (granted.straps.trans modKept.straps)
    · exact (State.hunt_settings .c).trans (modKept.settingsKept.trans
        (granted.settingsKept.trans (State.mreply_settings _ _ _)))
  · rw [exec_of_judged (i := .release src tag [a]) .release h (by simp) (.inr hadm) rfl (State.reqRelease_field a),
      exec_of_judged (i := .clearFault src tag [a]) .clearFault h (by simp) (.inr hadm) rfl
        (State.reqClearFault_field a), State.hunt_named]
    simp only [hn, Bool.false_eq_true, if_false]
    exact ⟨rfl, rfl⟩
  · rw [exec_of_judged (i := .release src tag [a]) .release h (by simp) (.inr hadm) rfl (State.reqRelease_field a),
      exec_of_judged (i := .clearFault src tag [a]) .clearFault h (by simp) (.inr hadm) rfl
        (State.reqClearFault_field a), State.hunt_named, if_pos hn, if_pos hn, State.st_hunt]
    refine ⟨rfl, fun hf => ?_, fun hf => ?_⟩
    · rw [if_neg hf]
      rfl
    · rw [if_pos hf]
      rfl

end Sys2Proof.Machine
end


section
/-! SUPPORT. What the supporter faults and the wake walks cannot do, and the group write (R134, R137, R138, R139, R155). -/

namespace Sys2Proof.Machine

open Station (BeliefKept HoldKept beliefOrder)

variable {s t u : State} {a b : Nat} {src tag : Byte}

/-! ## Walks -/

/-- Faults and wake walks leave the starved flags, and bring no station into a state but FAULTED and WAKE_QUEUED. -/
structure State.Walked (s t : State) : Prop where
  starved : t.starved = s.starved
  state : ∀ b x, x ≠ .faulted → x ≠ .wakeQueued → (t.st b).state = x → (s.st b).state = x

theorem State.Walked.refl (s : State) : s.Walked s := ⟨rfl, fun _ _ _ _ h => h⟩

theorem State.Walked.trans (h : s.Walked t) (k : t.Walked u) : s.Walked u :=
  ⟨k.starved.trans h.starved, fun b x hf hw hx => h.state b x hf hw (k.state b x hf hw hx)⟩

theorem State.Walked.foldl {α : Type} (f : State → α → State) (h : ∀ (s : State) (x : α), s.Walked (f s x))
    (l : List α) (s : State) : s.Walked (l.foldl f s) := by
  induction l generalizing s with
  | nil => exact .refl s
  | cons x l ih => exact (h s x).trans (ih _)

theorem State.Walked.same (hs : t.stations = s.stations) (h : t.starved = s.starved) : s.Walked t :=
  ⟨h, fun b x _ _ hx => by rwa [State.st_congr s t hs] at hx⟩

theorem State.modSt_walked (s : State) (a : Nat) (f : Station → Station)
    (h : (f (s.st a)).state = (s.st a).state ∨ (f (s.st a)).state = .faulted ∨ (f (s.st a)).state = .wakeQueued) :
    s.Walked (s.modSt a f) := by
  refine ⟨by simp, fun b x hf hw hx => ?_⟩
  rcases s.st_modSt_cases a f b with ⟨rfl, -, k⟩ | ⟨-, k⟩
  · rw [k] at hx
    rcases h with h | h | h
    · rwa [h] at hx
    · exact absurd (hx.symm.trans h) hf
    · exact absurd (hx.symm.trans h) hw
  · rwa [k] at hx

theorem State.failLimitTest_walked (s : State) (a : Nat) : s.Walked (s.failLimitTest a) := by
  unfold State.failLimitTest
  dsimp only
  split
  · exact (s.modSt_walked a _ (.inl rfl)).trans (.same rfl rfl)
  · exact .refl s

theorem State.dequeue_walked (s : State) (a : Nat) : s.Walked (s.dequeue a) := .same rfl rfl
theorem State.raise_walked (s : State) (x : Flag) : s.Walked (s.raise x) := .same rfl rfl

theorem State.faultOne_walked (s : State) (a : Nat) (c : FaultCause) : s.Walked (s.faultOne a c) := by
  have faulted : s.Walked (((s.dequeue a).modSt a (Station.faultWith s.now (s.pol a).rated c)).raise .stationFault) :=
    ((s.dequeue_walked a).trans (State.modSt_walked _ a _ (.inr (.inl (Station.faultWith_state _ _ _ _))))).trans
      (State.raise_walked _ _)
  unfold State.faultOne
  dsimp only
  split
  · exact faulted.trans (State.failLimitTest_walked _ a)
  · exact faulted.trans (State.failLimitTest_walked _ a)
  · exact faulted

theorem State.spreadFaults_walked (n : Nat) (l : List Nat) (s : State) : s.Walked (s.spreadFaults n l) := by
  induction n generalizing s l with
  | zero => exact .refl s
  | succ n ih =>
    cases l with
    | nil => exact .refl s
    | cons p l => exact (State.Walked.foldl _ (fun t q => t.faultOne_walked q .supportFault) _ s).trans (ih _ _)

theorem State.faultSpread_walked (s : State) (a : Nat) (c : FaultCause) : s.Walked (s.faultSpread a c) :=
  (s.faultOne_walked a c).trans (State.spreadFaults_walked _ _ _)

theorem State.enqueue_walked (s : State) (a : Nat) (q : Priority) : s.Walked (s.enqueue a q) :=
  .same (by simp) (by simp)

theorem State.joinQueue_walked (s : State) (a : Nat) (q : Priority) : s.Walked (s.joinQueue a q) :=
  ((s.modSt_walked a _ (.inl (Station.account_state _ _ _))).trans
    (State.modSt_walked _ a _ (.inr (.inr rfl)))).trans (State.enqueue_walked _ a q)

theorem State.moveToDemand_walked (s : State) (a : Nat) : s.Walked (s.moveToDemand a) :=
  ((s.dequeue_walked a).trans (State.modSt_walked _ a (fun r => { r with demand := true }) (.inl rfl))).trans
    (State.enqueue_walked _ a .demand)

theorem State.chainOne_walked (s : State) (q : Priority) (p : Nat) : s.Walked (s.chainOne q p).1 := by
  unfold State.chainOne
  split
  · exact s.joinQueue_walked p q
  · split
    · exact s.moveToDemand_walked p
    · exact .refl s
  · exact .refl s

theorem State.chainAll_walked (q : Priority) (l : List Nat) (s : State) : s.Walked (s.chainAll q l).1 := by
  induction l generalizing s with
  | nil => exact .refl s
  | cons p l ih => exact (s.chainOne_walked q p).trans (ih _)

theorem State.chainWalk_walked (n : Nat) (l : List Nat) (s : State) : s.Walked (s.chainWalk n l) := by
  induction n generalizing s l with
  | zero => exact .refl s
  | succ n ih =>
    cases l with
    | nil => exact .refl s
    | cons a l =>
      unfold State.chainWalk
      split
      · exact ih l s
      · split
        · exact (s.faultSpread_walked a _).trans (ih l _)
        · exact (State.chainAll_walked _ _ s).trans (ih _ _)

theorem State.afterEntry_walked (s : State) (a : Nat) : s.Walked (s.afterEntry a) := State.chainWalk_walked _ _ s

theorem State.undoAdmission_walked (s : State) (a : Nat) : s.Walked (s.undoAdmission a) := by
  unfold State.undoAdmission
  dsimp only
  exact ((s.modSt_walked a _ (.inr (.inr rfl))).trans (State.enqueue_walked _ a _)).trans (State.afterEntry_walked _ a)

theorem State.undoAdmission_kept (s : State) (a : Nat) : s.Kept BeliefKept (s.undoAdmission a) := by
  unfold State.undoAdmission
  dsimp only
  refine ((State.modSt_kept beliefOrder s a _ ?_).trans beliefOrder (State.enqueue_kept beliefOrder _ a _)).trans
    beliefOrder (State.afterEntry_kept _ a)
  exact ⟨⟨rfl, rfl, rfl, rfl⟩, rfl, rfl, rfl, rfl, rfl, rfl, rfl, rfl⟩

/-! ## Stations that cannot be admitted -/

/-- A station with a supporter that is not FREE is not ready (R136). -/
theorem State.not_ready {p q : Nat} (hp : p ∈ s.liveSupporters q) (hf : (s.st p).state ≠ .free) :
    s.ready q = false := by
  have h : s.readyByGroups q = false := List.all_eq_false.mpr ⟨p, hp, by simpa using hf⟩
  simp [State.ready, h]

theorem State.admitOne_never {x : StState} (hx : x ≠ .waking) (h : ((s.admitOne a).st b).state = x) :
    (s.st b).state = x := by
  by_cases hb : b = a
  · subst hb
    by_cases known : hasRecord b
    · exact absurd (h.symm.trans (s.admitOne_state b known)) hx
    · rwa [State.st_none _ b known, ← State.st_none s b known] at h
  · rwa [s.st_admitOne_other a b hb] at h

theorem State.st_admitWalk_blocked {p q : Nat} (l : List Nat) (hp : p ∈ s.liveSupporters q)
    (hf : (s.st p).state ≠ .free) : (s.admitWalk l).st q = s.st q := by
  induction l generalizing s with
  | nil => rfl
  | cons a l ih =>
    unfold State.admitWalk
    split
    · next hr =>
      have ne : q ≠ a := by
        rintro rfl
        rw [State.not_ready hp hf] at hr
        cases hr
      split
      · rw [ih, s.st_admitOne_other a q ne]
        · rwa [State.liveSupporters_congr (s.admit_kept a).cfg]
        · exact fun h => hf (State.admitOne_never (by decide) h)
      · rfl
    · exact ih hp hf

theorem State.st_admissionPass_blocked {p q : Nat} (hp : p ∈ s.liveSupporters q) (hf : (s.st p).state ≠ .free) :
    s.admissionPass.st q = s.st q := by
  unfold State.admissionPass
  split
  · rfl
  · exact State.st_admitWalk_blocked _ hp hf

/-! ## The group write (R138, R139, R155) -/

theorem State.writeGroup_kept (i : Nat) (g : Group) :
    State.Granted (s.setGroup i g) (s.writeGroup i g) ∧ (s.writeGroup i g).starved = s.starved.setIfInBounds i false := by
  have keeps := State.foldl_kept beliefOrder _ (fun t a => t.afterEntry_kept a) ((s.setGroup i g).queuedUnder g)
    (s.setGroup i g)
  have walks := State.Walked.foldl _ (fun t a => t.afterEntry_walked a) ((s.setGroup i g).queuedUnder g) (s.setGroup i g)
  rw [State.writeGroup]
  generalize ((s.setGroup i g).queuedUnder g).foldl State.afterEntry (s.setGroup i g) = v at keeps walks ⊢
  have undoKeeps := State.foldl_kept beliefOrder _ State.undoAdmission_kept (v.undoneBy g) v
  have undoWalks := State.Walked.foldl _ State.undoAdmission_walked (v.undoneBy g) v
  have kept := (keeps.trans beliefOrder undoKeeps).trans beliefOrder (State.admissionPass_kept _)
  have quiet := (State.admissionPass_quiet ((v.undoneBy g).foldl State.undoAdmission v)).trans (State.finish_quiet _)
  exact ⟨kept.granted.trans (State.finish_granted _), quiet.starved.trans (walks.trans undoWalks).starved⟩

/-- A QUORUM or EMPTY entry undoes no admission and walks no queue. -/
theorem State.writeGroup_plain (i : Nat) {g : Group} (hg : ∀ ps qs, g ≠ .support ps qs) :
    s.writeGroup i g = (s.setGroup i g).admissionPass.finish := by
  cases g with
  | support ps qs => exact absurd rfl (hg ps qs)
  | empty => rfl
  | quorum ms k r lo hi => rfl

theorem State.mem_supporters {p q : Nat} :
    p ∈ s.supporters q ↔ hasRecord p ∧ ∃ g ∈ s.cfg.groups.toList, p ∈ g.supportersOf q := by
  simp [State.supporters, State.groupList, mem_addresses]

/-- The supporters a written entry gives. -/
theorem State.liveSupporters_setGroup {i p q : Nat} {ps qs : List Nat} (hi : i < 32) (hp : p ∈ ps) (hq : q ∈ qs)
    (known : hasRecord p) (hc : (s.pol p).cls ≠ .absent) :
    p ∈ (s.setGroup i (.support ps qs)).liveSupporters q := by
  refine List.mem_filter.mpr ⟨State.mem_supporters.mpr ⟨known, .support ps qs, ?_, ?_⟩, ?_⟩
  · have hl : i < (s.cfg.groups.setIfInBounds i (.support ps qs)).toList.length := by simpa using hi
    have e : (s.cfg.groups.setIfInBounds i (.support ps qs)).toList[i] = .support ps qs := by simp
    have m := List.getElem_mem hl
    rwa [e] at m
  · simp [Group.supportersOf, hq, hp]
  · have e : (s.setGroup i (.support ps qs)).pol p = s.pol p := by cases p <;> rfl
    simpa [e] using hc

/-- A WAKE_QUEUED or FAULTED station. -/
def StState.undone (x : StState) : Prop := x = .wakeQueued ∨ x = .faulted

theorem State.afterEntry_undone (a : Nat) (h : s.queuesMatch) (hb : (s.st b).state.undone) :
    ((s.afterEntry a).st b).state.undone := by
  have woken := ((State.afterEntry_fared a h).st b).woken (hb.elim .inl fun k => .inr (.inr k))
  rcases woken with e | e | e
  · exact .inl e
  · have was := (s.afterEntry_walked a).state b .waking (by decide) (by decide) e
    rcases hb with k | k <;> rw [k] at was <;> cases was
  · exact .inr e

theorem State.undoAdmission_undone (h : s.queuesMatch) (ha : (s.st a).state = .waking)
    (hb : b = a ∨ (s.st b).state.undone) : ((s.undoAdmission a).st b).state.undone := by
  have known : hasRecord a := hasRecord_of_state s a (by simp [ha])
  unfold State.undoAdmission
  dsimp only
  refine State.afterEntry_undone a ?_ ?_
  · exact State.queuesMatch_wait h a _ _ known (by rw [ha]; exact ⟨by decide, by decide⟩) rfl
  · rw [State.st_enqueue]
    by_cases e : b = a
    · rw [e, State.st_modSt_self _ a _ known]
      exact .inl rfl
    · rw [State.st_modSt_other _ a b _ e]
      exact hb.resolve_left e

theorem State.undoAll_undone (l : List Nat) (h : s.queuesMatch) (nodup : l.Nodup)
    (hl : ∀ a ∈ l, (s.st a).state = .waking) (hb : b ∈ l ∨ (s.st b).state.undone) :
    ((l.foldl State.undoAdmission s).st b).state.undone := by
  induction l generalizing s with
  | nil => exact hb.resolve_left (by simp)
  | cons a l ih =>
    obtain ⟨fresh, nodup⟩ := List.nodup_cons.mp nodup
    have ha := hl a (List.mem_cons_self ..)
    refine ih ((s.undoAdmission_moves (w := False) a ha).queuesMatch h) nodup (fun c hc => ?_) ?_
    · have hw := hl c (List.mem_cons_of_mem a hc)
      rw [s.st_undoAdmission_still a c (fun e => fresh (e ▸ hc)) (by simp [hw, StState.still]), hw]
    · rcases hb with hb | hb
      · exact (List.mem_cons.mp hb).elim (fun e => .inr (State.undoAdmission_undone h ha (.inl e))) .inl
      · exact .inr (State.undoAdmission_undone h ha (.inr hb))

/-- A WAKING station to which a SUPPORT entry gives a supporter that is not FREE waits again, or is FAULTED (R155). -/
theorem State.writeGroup_undoes {i p q : Nat} {ps qs : List Nat} (hi : i < 32) (hm : s.queuesMatch) (hp : p ∈ ps)
    (hq : q ∈ qs) (known : hasRecord p) (hc : (s.pol p).cls ≠ .absent) (hf : (s.st p).state ≠ .free)
    (hw : (s.st q).state = .waking) (hph : (s.st q).phase = .warn ∨ (s.st q).phase = .command)
    (busy : s.master.st ≠ .idle) : ((s.writeGroup i (.support ps qs)).st q).state.undone := by
  have live := State.liveSupporters_setGroup hi hp hq known hc
  have start : (s.setGroup i (.support ps qs)).queuesMatch := State.queuesMatch_congr hm rfl rfl rfl rfl
  have st0 (b : Nat) : (s.setGroup i (.support ps qs)).st b = s.st b := rfl
  have pol0 : (s.setGroup i (.support ps qs)).pol p = s.pol p := by cases p <;> rfl
  have busy0 : (s.setGroup i (.support ps qs)).master.st ≠ .idle := busy
  rw [← st0] at hf hw hph
  rw [← pol0] at hc
  have walks := State.Walked.foldl _ (fun t a => t.afterEntry_walked a)
    ((s.setGroup i (.support ps qs)).queuedUnder (.support ps qs)) (s.setGroup i (.support ps qs))
  have fares := State.Fared.foldl (fun t a => t.afterEntry a)
    ((s.setGroup i (.support ps qs)).queuedUnder (.support ps qs)) (fun t a h => State.afterEntry_fared a h) start
  have keeps := State.foldl_kept beliefOrder _ (fun t a => t.afterEntry_kept a)
    ((s.setGroup i (.support ps qs)).queuedUnder (.support ps qs)) (s.setGroup i (.support ps qs))
  rw [State.writeGroup]
  generalize ((s.setGroup i (.support ps qs)).queuedUnder (.support ps qs)).foldl State.afterEntry
    (s.setGroup i (.support ps qs)) = v at walks fares keeps ⊢
  have same : v.st q = (s.setGroup i (.support ps qs)).st q :=
    (fares.st q).eq_of_still (by simp [hw, StState.still]) (by simp [hw])
  have notFree : (v.st p).state ≠ .free := fun e => hf (walks.state p .free (by decide) (by decide) e)
  have listed : q ∈ v.undoneBy (.support ps qs) := by
    unfold State.undoneBy
    dsimp only
    rw [if_pos (List.any_eq_true.mpr ⟨p, hp, by simpa [keeps.pol] using ⟨hc, notFree⟩⟩)]
    have knownQ : hasRecord q := hasRecord_of_state (s.setGroup i (.support ps qs)) q (by simp [hw])
    refine List.mem_filter.mpr ⟨(mem_addresses q).mpr knownQ, ?_⟩
    rcases hph with hph | hph <;> simp [State.inPhase, same, hq, hw, hph]
  have undone := State.undoAll_undone (v.undoneBy (.support ps qs)) fares.queues (v.undoneBy_nodup _)
    (fun a ha => State.waking_of_mem_undoneBy v ha) (.inl listed)
  have undoWalks := State.Walked.foldl _ State.undoAdmission_walked (v.undoneBy (.support ps qs)) v
  have undoKeeps := State.foldl_kept beliefOrder _ State.undoAdmission_kept (v.undoneBy (.support ps qs)) v
  generalize (v.undoneBy (.support ps qs)).foldl State.undoAdmission v = w at undone undoWalks undoKeeps ⊢
  have blocked : p ∈ w.liveSupporters q := by
    rw [State.liveSupporters_congr (undoKeeps.cfg.trans keeps.cfg)]
    exact live
  rw [State.finish_of_busy, State.st_modeCheck, State.st_admissionPass_blocked blocked]
  · exact undone
  · exact fun e => notFree (undoWalks.state p .free (by decide) (by decide) e)
  · rw [(State.admissionPass_kept w).master, undoKeeps.master, keeps.master]
    exact busy0

theorem State.reqWriteGroup_of_group {i kind : Byte} {bs : List Byte} {g : Group} (hl : groupLength kind bs.length = true)
    (h : Group.ofFields kind bs = some g) :
    s.request .writeGroup (i :: kind :: bs)
      = s.judge .writeGroup true (i.toNat ≤ 31 && s.groupInRange g) (s.tryGroup i.toNat g) := by
  simp only [State.request, State.reqWriteGroup, h, hl]

theorem length_of_groupLength {kind : Byte} {n : Nat} (h : groupLength kind n = true) : n ≤ 18 := by
  unfold groupLength at h
  split at h <;> simp at h <;> omega

theorem State.tryGroup_ok {i : Nat} {g : Group}
    (hw : withinLimit (s.cfg.groups.setIfInBounds i g).toList g = true)
    (hc : hasCycle (s.cfg.groups.setIfInBounds i g).toList = false) : s.tryGroup i g = (s.writeGroup i g).ok := by
  unfold State.tryGroup
  dsimp only
  rw [if_neg (by rw [hw]; decide), if_neg (by rw [hc]; decide)]

theorem State.tryGroup_limit {i : Nat} {g : Group}
    (hw : withinLimit (s.cfg.groups.setIfInBounds i g).toList g = false) : s.tryGroup i g = s.refuse .groupLimit :=
  if_pos hw

theorem State.tryGroup_cycle {i : Nat} {g : Group}
    (hw : withinLimit (s.cfg.groups.setIfInBounds i g).toList g = true)
    (hc : hasCycle (s.cfg.groups.setIfInBounds i g).toList = true) : s.tryGroup i g = s.refuse .groupCycle := by
  unfold State.tryGroup
  dsimp only
  rw [if_neg (by rw [hw]; decide), if_pos hc]

/-- The supporters of an entry in range are stations. -/
theorem State.known_of_inRange {ps qs : List Nat} {p : Nat} (h : s.groupInRange (.support ps qs) = true) (hp : p ∈ ps) :
    hasRecord p := by
  simp only [State.groupInRange, Bool.and_eq_true] at h
  exact State.le_of_named ((((s.goodList_iff ps).mp h.1.1).2.2.1) p hp)

/-- Settles O54. -/
theorem groupWriteReplacesEntry : Obligations.GroupWriteReplacesEntry := by
  intro src tag i kind bs g s h hadm hl hg
  have judged := exec_of_judged (i := .writeGroup src tag (i :: kind :: bs)) .writeGroup h
    (by have := length_of_groupLength hl; simp; omega) (.inr hadm) rfl
    (State.reqWriteGroup_of_group (s := s.hunt .c) (i := i) hl hg)
  have range : (s.hunt .c).groupInRange g = s.groupInRange g := by cases g <;> rfl
  rw [range] at judged
  refine ⟨fun hbad => ?_, fun hi hr => ?_⟩
  · rw [judged, if_neg] <;> [rfl; skip]
    rcases hbad with hbad | hbad
    · simp [Nat.not_le.mpr hbad]
    · simp [hbad]
  · rw [if_pos (by simp [hi, hr])] at judged
    refine ⟨fun hlim => ?_, fun hlim hcyc => ?_, fun hlim hcyc hq => ?_⟩
    · rw [judged, State.tryGroup_limit (s := s.hunt .c) hlim] <;> rfl
    · rw [judged, State.tryGroup_cycle (s := s.hunt .c) hlim hcyc] <;> rfl
    · rw [State.tryGroup_ok (s := s.hunt .c) hlim hcyc] at judged
      obtain ⟨granted, starved⟩ := State.writeGroup_kept (s := s.hunt .c) i.toNat g
      have hq' := State.hunt_queuesMatch .c hq
      refine ⟨_, judged, (State.answer_cfg _ _).trans granted.cfg, (State.answer_starved _ _).trans starved,
        fun hplain a hp hw => ?_, fun ps qs e busy p hp hc hf q hqs hw hph => ?_,
        State.mreply_answeredWith (s := s.hunt .c) granted.cport granted.answers granted.lineTime granted.straps⟩
      · have start : ((s.hunt .c).setGroup i.toNat g).queuesMatch := State.queuesMatch_congr hq' rfl rfl rfl rfl
        have out : ((s.hunt .c).setGroup i.toNat g).unlisted a := start.unlisted ⟨hp, hw⟩
        rw [State.st_mreply]
        dsimp only [State.ok]
        rw [State.writeGroup_plain _ hplain, State.st_finish_unlisted ((State.admissionPass_thinned _).unlisted out),
          State.st_admissionPass_other _ _ (by rw [List.mem_append, not_or]; exact out.2)]
        rfl
      · subst e
        rw [State.st_mreply]
        exact State.writeGroup_undoes (s := s.hunt .c) (by omega) hq' hp hqs (State.known_of_inRange hr hp)
          (by simpa using hc) (by simpa using hf) (by simpa using hw) (by simpa using hph) busy

end Sys2Proof.Machine
end


section
/-! SUPPORT. Wakes of several stations: which stations a wake walk does not reach, the end of a step that grants no PARK,
SET MODE and WAKE ZONES (R134, R160, R173, R174). -/

namespace Sys2Proof.Machine

open Station (BeliefKept HoldKept beliefOrder)

variable {s t u : State} {a b : Nat} {src tag : Byte}

/-! ## The end of a step with no head to grant -/

/-- An arbitration with an empty park queue moves the master, the F-port and the delayed entries alone. -/
theorem State.arbitrate_line (n : Nat) (h : s.parkQ = []) :
    State.arbitrate n s
      = { s with
          master := (State.arbitrate n s).master, fport := (State.arbitrate n s).fport
          fwd := (State.arbitrate n s).fwd } := by
  cases n with
  | zero => rfl
  | succ n =>
    unfold State.arbitrate
    split
    · rfl
    · rw [State.startExchange_eq]; rfl
    · rw [State.startExchange_eq]
    · rw [State.startOwn_eq]
    · next a ha =>
      have m := State.head_mem_parkQ ha
      rw [h] at m
      cases m
    · rw [State.startOwn_eq]

/-- So does the end of a step at a busy master or with an empty park queue, with the mode check (R60, R174). -/
theorem State.finish_line (h : s.parkQ = [] ∨ s.master.st ≠ .idle) :
    s.finish
      = { s with
          master := s.finish.master, fport := s.finish.fport, fwd := s.finish.fwd, mode := s.modeCheck.mode } := by
  rcases h with h | h
  · unfold State.finish
    dsimp only
    have park : s.modeCheck.parkQ = [] := by rw [State.modeCheck_eq]; exact h
    split
    · have line := State.arbitrate_line (s.modeCheck.parkQ.length + 1) park
      generalize State.arbitrate (s.modeCheck.parkQ.length + 1) s.modeCheck = v at line ⊢
      rw [line, State.modeCheck_eq s]
    · rw [State.modeCheck_eq s]
  · rw [State.finish_of_busy h, State.modeCheck_eq s]

theorem State.finish_stations (h : s.parkQ = [] ∨ s.master.st ≠ .idle) : s.finish.stations = s.stations := by
  rw [State.finish_line h]

/-! ## Stations that a wake walk does not reach (R134) -/

theorem State.st_chainOne_other (q : Priority) (p : Nat) (h : b ≠ p) : (s.chainOne q p).1.st b = s.st b := by
  unfold State.chainOne
  split
  · exact s.st_joinQueue_other p b q h
  · split
    · exact s.st_moveToDemand_other p b h
    · rfl
  · rfl

theorem State.st_chainAll_other (q : Priority) (l : List Nat) (h : b ∉ l) : (s.chainAll q l).1.st b = s.st b := by
  induction l generalizing s with
  | nil => rfl
  | cons p l ih =>
    obtain ⟨ne, h⟩ := not_or.mp (mt List.mem_cons.mpr h)
    exact (ih h).trans (State.st_chainOne_other q p ne)

/-- The stations a scheduled walk adds are supporters that were PARKED. -/
theorem State.mem_chainAll_scheduled (l : List Nat) (h : b ∈ (s.chainAll .scheduled l).2) :
    b ∈ l ∧ (s.st b).state = .parked := by
  induction l generalizing s with
  | nil => cases h
  | cons p l ih =>
    have later (m : b ∈ ((s.chainOne .scheduled p).1.chainAll .scheduled l).2) : b ∈ p :: l ∧ (s.st b).state = .parked :=
      ⟨List.mem_cons_of_mem p (ih m).1, (s.chainOne_walked .scheduled p).state b _ (by decide) (by decide) (ih m).2⟩
    simp only [State.chainAll] at h
    split at h
    · next ho =>
      rcases List.mem_cons.mp h with rfl | m
      · refine ⟨List.mem_cons_self .., ?_⟩
        unfold State.chainOne at ho
        split at ho
        · assumption
        · simp at ho
        · simp at ho
      · exact later m
    · exact later h

theorem State.chainOne_scheduled_demandQ (p : Nat) : (s.chainOne .scheduled p).1.demandQ = s.demandQ := by
  unfold State.chainOne
  split
  · exact (s.joinQueue_queues p .scheduled).2.1
  · simp
  · rfl

theorem State.chainAll_scheduled_demandQ (l : List Nat) : (s.chainAll .scheduled l).1.demandQ = s.demandQ := by
  induction l generalizing s with
  | nil => rfl
  | cons p l ih => exact ih.trans (State.chainOne_scheduled_demandQ p)

theorem State.faultOne_thinned (s : State) (a : Nat) (c : FaultCause) : s.Thinned (s.faultOne a c) := by
  obtain ⟨hp, hd, hq⟩ := s.faultOne_queues a c
  exact ⟨hp ▸ List.filter_sublist, hd ▸ List.filter_sublist, hq ▸ List.filter_sublist⟩

theorem State.spreadFaults_thinned (n : Nat) (l : List Nat) (s : State) : s.Thinned (s.spreadFaults n l) := by
  induction n generalizing s l with
  | zero => exact .refl s
  | succ n ih =>
    cases l with
    | nil => exact .refl s
    | cons p l =>
      have all (vs : List Nat) (t : State) : t.Thinned (vs.foldl (fun t q => t.faultOne q .supportFault) t) := by
        induction vs generalizing t with
        | nil => exact .refl t
        | cons v vs ih => exact (t.faultOne_thinned v _).trans (ih _)
      exact (all _ s).trans (ih _ _)

theorem State.faultSpread_thinned (s : State) (a : Nat) (c : FaultCause) : s.Thinned (s.faultSpread a c) :=
  (s.faultOne_thinned a c).trans (State.spreadFaults_thinned _ _ _)

/-- A set of stations that a scheduled walk does not leave: with each it holds those of its supporters that are PARKED. -/
def State.encloses (s : State) (P : Nat → Prop) : Prop :=
  ∀ x y, P x → y ∈ s.liveSupporters x → (s.st y).state = .parked → P y

theorem State.encloses.next {P : Nat → Prop} (h : s.encloses P) (hc : t.cfg = s.cfg)
    (hp : ∀ y, (t.st y).state = .parked → (s.st y).state = .parked) : t.encloses P := fun x y hx hy hs =>
  h x y hx (by rwa [State.liveSupporters_congr hc] at hy) (hp y hs)

/-- A station waits in the scheduled queue where it does not stand in the demand queue. -/
theorem State.queueOf_scheduled (h : a ∉ s.demandQ) : s.queueOf a = .scheduled := by
  unfold State.queueOf
  rw [if_neg (by simpa using h)]

/-- A PARKED station outside a set that encloses the walk keeps its record. -/
theorem State.st_chainWalk_unreached {P : Nat → Prop} (n : Nat) (l : List Nat) (s : State) (hq : s.queuesMatch)
    (closed : s.encloses P) (hl : ∀ x ∈ l, P x ∧ x ∉ s.demandQ) (hb : ¬ P b) (hp : (s.st b).state = .parked) :
    (s.chainWalk n l).st b = s.st b := by
  induction n generalizing s l with
  | zero => rfl
  | succ n ih =>
    cases l with
    | nil => rfl
    | cons a l =>
      obtain ⟨pa, da⟩ := hl a (List.mem_cons_self ..)
      have hl' (x : Nat) (hx : x ∈ l) := hl x (List.mem_cons_of_mem a hx)
      unfold State.chainWalk
      split
      · exact ih l s hq closed hl' hp
      · split
        · have same : (s.faultSpread a .supportFault).st b = s.st b :=
            s.st_faultSpread_still a b _ (fun e => hb (e ▸ pa)) (by simp [hp])
          have walked := s.faultSpread_walked a .supportFault
          have thin := s.faultSpread_thinned a .supportFault
          rw [ih l _ ((s.faultSpread_moves (w := False) a _).queuesMatch hq)
            (closed.next (s.faultSpread_kept a _).cfg fun y => walked.state y _ (by decide) (by decide))
            (fun x hx => ⟨(hl' x hx).1, fun m => (hl' x hx).2 (thin.demandQ.subset m)⟩) (by rwa [same]), same]
        · rw [State.queueOf_scheduled da]
          have same : (s.chainAll .scheduled (s.liveSupporters a)).1.st b = s.st b :=
            State.st_chainAll_other _ _ fun m => hb (closed a b pa m hp)
          have walked := State.chainAll_walked .scheduled (s.liveSupporters a) s
          rw [ih _ _ ((s.chainAll_moves (w := False) .scheduled _).queuesMatch hq)
            (closed.next (s.chainAll_kept .scheduled _).cfg fun y => walked.state y _ (by decide) (by decide))
            (fun x hx => ?_) (by rwa [same]), same]
          rw [State.chainAll_scheduled_demandQ]
          rcases List.mem_append.mp hx with hx | hx
          · exact hl' x hx
          · obtain ⟨m, parked⟩ := State.mem_chainAll_scheduled _ hx
            refine ⟨closed a x pa m parked, fun d => ?_⟩
            have waits := hq.mem_waiting.mp (List.mem_append_left _ d)
            rw [parked] at waits
            cases waits

/-! ## Scheduled wakes (R142, R160, R174) -/

theorem State.takeWake_walk {q : Priority} (h : (s.st a).state = .parked) (hq : s.queuesMatch)
    (hb : (((s.joinQueue a q).afterEntry a).st b).state ≠ .wakeQueued) :
    (s.takeWake a q).st b = ((s.joinQueue a q).afterEntry a).st b := by
  have walked := State.afterEntry_fared a (State.joinQueue_fared q hq h).queues
  rw [State.takeWake_of_parked q h, State.st_admissionPass_other _ _ fun m => hb (walked.queues.mem_waiting.mp m)]

/-- A scheduled wake leaves every station alone that is neither PARKED nor waiting. -/
theorem State.st_takeWake_scheduled_still (a : Nat) (hq : s.queuesMatch) (hb : (s.st b).state.still) :
    (s.takeWake a .scheduled).st b = s.st b := by
  by_cases ha : (s.st a).state = .parked
  · have ne : b ≠ a := fun e => hb.1 (e ▸ ha)
    have joined : (s.joinQueue a .scheduled).st b = s.st b := s.st_joinQueue_other a b _ ne
    have same : ((s.joinQueue a .scheduled).afterEntry a).st b = s.st b := by
      rw [State.st_afterEntry_still a (by rwa [joined]), joined]
    rw [State.takeWake_walk ha hq (by rw [same]; exact hb.2), same]
  · rw [State.takeWake_scheduled ha]

/-- A scheduled wake leaves every PARKED station alone that its walk does not reach. -/
theorem State.st_takeWake_unreached {P : Nat → Prop} (a : Nat) (hq : s.queuesMatch) (closed : s.encloses P) (ha : P a)
    (hb : ¬ P b) (hp : (s.st b).state = .parked) : (s.takeWake a .scheduled).st b = s.st b := by
  by_cases hs : (s.st a).state = .parked
  · have ne : b ≠ a := fun e => hb (e ▸ ha)
    have joined : (s.joinQueue a .scheduled).st b = s.st b := s.st_joinQueue_other a b _ ne
    have walked := s.joinQueue_walked a .scheduled
    have same : ((s.joinQueue a .scheduled).afterEntry a).st b = s.st b := by
      rw [State.afterEntry, State.st_chainWalk_unreached 256 [a] _ (State.joinQueue_fared .scheduled hq hs).queues
        (closed.next (s.joinQueue_kept a .scheduled).cfg fun y => walked.state y _ (by decide) (by decide))
        (fun x hx => ?_) hb (by rwa [joined]), joined]
      rw [List.mem_singleton.mp hx, (s.joinQueue_queues a .scheduled).2.1]
      refine ⟨ha, fun m => ?_⟩
      have waits := hq.mem_waiting.mp (List.mem_append_left _ (by simpa using m))
      rw [hs] at waits
      cases waits
    rw [State.takeWake_walk hs hq (by rw [same, hp]; decide), same]
  · rw [State.takeWake_scheduled hs]

theorem State.takeWakes_fared (l : List Nat) (hq : s.queuesMatch) : s.Fared (s.takeWakes .scheduled l) :=
  .foldl _ l (fun _ a h => State.takeWake_scheduled_fared a h) hq

theorem State.takeWakes_woken (l : List Nat) (hq : s.queuesMatch) (ha : a ∈ l)
    (hs : (s.st a).state = .parked ∨ (s.st a).state.woken) : ((s.takeWakes .scheduled l).st a).state.woken := by
  induction l generalizing s with
  | nil => cases ha
  | cons b l ih =>
    have first := State.takeWake_scheduled_fared b hq
    have rest := State.takeWakes_fared l first.queues
    by_cases e : a = b
    · subst e
      refine (rest.st a).woken ?_
      rcases hs with hs | hs
      · exact (State.takeWake_woken .scheduled hq hs).1
      · exact (first.st a).woken hs
    · refine ih first.queues ((List.mem_cons.mp ha).resolve_left e) ?_
      rcases hs with hs | hs
      · cases first.st a with
        | stays k => exact .inl (by rw [k, hs])
        | wakes _ w _ _ _ => exact .inr w
        | leaves was _ => rw [hs] at was; cases was
      · exact .inr ((first.st a).woken hs)

theorem State.st_takeWakes_still (l : List Nat) (hq : s.queuesMatch) (hb : (s.st b).state.still) :
    (s.takeWakes .scheduled l).st b = s.st b := by
  induction l generalizing s with
  | nil => rfl
  | cons a l ih =>
    have same := State.st_takeWake_scheduled_still a hq hb
    exact (ih (State.takeWake_scheduled_fared a hq).queues (by rwa [same])).trans same

theorem State.st_takeWakes_unreached {P : Nat → Prop} (l : List Nat) (hq : s.queuesMatch) (closed : s.encloses P)
    (hl : ∀ a ∈ l, P a) (hb : ¬ P b) (hp : (s.st b).state = .parked) :
    (s.takeWakes .scheduled l).st b = s.st b := by
  induction l generalizing s with
  | nil => rfl
  | cons a l ih =>
    have same := State.st_takeWake_unreached a hq closed (hl a (List.mem_cons_self ..)) hb hp
    have first := State.takeWake_scheduled_fared a hq
    refine (ih first.queues (closed.next (s.takeWake_kept a _).cfg fun y hy => ?_)
      (fun x hx => hl x (List.mem_cons_of_mem a hx)) (by rwa [same])).trans same
    rw [first.outlasts.parked y hy] at hy
    exact hy

/-- The walks reach no station that supports none. -/
theorem State.encloses_of_unsupporting (h : s.supported a = []) : s.encloses fun x => hasRecord x ∧ x ≠ a := by
  rintro x y ⟨known, -⟩ hy -
  obtain ⟨knownY, g, hg, m⟩ := State.mem_supporters.mp (List.mem_filter.mp hy).1
  refine ⟨knownY, ?_⟩
  rintro rfl
  have listed : x ∈ s.supported y := by
    refine List.mem_filter.mpr ⟨(mem_addresses x).mpr known, ?_⟩
    simp only [List.contains_iff_mem, List.mem_flatMap]
    refine ⟨g, hg, ?_⟩
    cases g with
    | support ps qs =>
      simp only [Group.supportersOf] at m
      split at m
      · next hx => simpa [Group.supportedBy, m] using hx
      · cases m
    | empty => cases m
    | quorum => cases m
  rw [h] at listed
  cases listed

theorem State.mem_parkedStations (s : State) (a : Nat) : a ∈ s.parkedStations ↔ (s.st a).state = .parked := by
  simp only [State.parkedStations, List.mem_filter, mem_addresses, decide_eq_true_eq]
  exact and_iff_right_of_imp fun h => hasRecord_of_state s a (by simp [h])

/-! ## Toward PASS (R174) -/

/-- What the way from ACTIVE toward PASS does before the step ends. -/
structure State.Drains (s t : State) : Prop where
  kept : State.Kept BeliefKept { s with mode := .draining } t
  queues : t.queuesMatch
  parkQ : t.parkQ = []
  queued : ∀ a, (s.st a).state = .parkQueued → (t.st a).state = .free
  parked : ∀ a, (s.st a).state = .parked → (t.st a).state.woken

theorem State.startDraining_drains (h : s.queuesMatch) : s.Drains s.startDraining := by
  have start : State.queuesMatch { s with mode := .draining } := State.queuesMatch_congr h rfl rfl rfl rfl
  have st0 (a : Nat) : State.st { s with mode := .draining } a = s.st a := rfl
  have empties := State.leaveParkAll_fared s.parkQ start
  have emptied : ∀ a, (s.st a).state = .parkQueued → ((State.leaveParkAll { s with mode := .draining } s.parkQ).st a).state
      = .free := fun a ha => State.leaveParkAll_free s.parkQ start (by rwa [st0]) (h.mem_parkQ.mpr ha)
  have others : ∀ a, (s.st a).state = .parked →
      (State.leaveParkAll { s with mode := .draining } s.parkQ).st a = s.st a := fun a ha =>
    State.st_leaveParkAll_other s.parkQ start (by rw [st0, ha]; decide) (.inr (by rw [st0, ha]; decide))
  have kept := State.leaveParkAll_kept { s with mode := .draining } s.parkQ
  rw [State.startDraining]
  generalize State.leaveParkAll { s with mode := .draining } s.parkQ = v at empties emptied others kept ⊢
  have wakes := State.takeWakes_fared v.parkedStations empties.queues
  have empty : v.parkQ = [] := by
    refine List.eq_nil_iff_forall_not_mem.mpr fun a m => ?_
    have was : (s.st a).state = .parkQueued := by
      have now_ := empties.queues.mem_parkQ.mp m
      cases empties.st a with
      | stays k => rw [k] at now_; exact now_
      | wakes _ w _ _ _ => rcases w with w | w | w <;> rw [w] at now_ <;> cases now_
      | leaves was _ => exact was
    have free := emptied a was
    rw [empties.queues.mem_parkQ.mp m] at free
    cases free
  refine ⟨kept.trans beliefOrder (v.takeWakes_kept _ _), wakes.queues, ?_, fun a ha => ?_, fun a ha => ?_⟩
  · exact List.sublist_nil.mp (empty ▸ wakes.parkQ)
  · have free := emptied a ha
    rw [State.st_takeWakes_still _ empties.queues (by rw [free]; exact ⟨by decide, by decide⟩), free]
  · have same := others a ha
    exact State.takeWakes_woken _ empties.queues ((v.mem_parkedStations a).mpr (by rw [same, ha]))
      (.inl (by rw [same, ha]))

theorem State.reqSetMode_field (m : Byte) : s.request .setMode [m]
    = s.judge .setMode true (m.toNat ≤ 1) (s.toMode (m = 1)).ok := rfl

theorem State.reqWakeZones_field (m : Byte) : s.request .wakeZones [m]
    = s.judge .wakeZones true true (s.wakeZones m.toNat).ok := rfl

theorem State.anyHeld_congr (h : t.stations = s.stations) : t.anyHeld = s.anyHeld := by
  have held : t.held = s.held := funext fun a => by simp only [State.held, State.st_congr s t h]
  rw [State.anyHeld, held]
  rfl

theorem State.wakeZones_kept (mask : Nat) : s.Granted (s.wakeZones mask) :=
  (s.takeWakes_kept .scheduled _).granted.trans (State.finish_granted _)

/-- Settles O56. -/
theorem modeAndWakeZonesWakeParked : Obligations.ModeAndWakeZonesWakeParked := by
  intro src tag m s h hadm
  have mode := exec_of_judged (i := .setMode src tag [m]) .setMode h (by simp) (.inr hadm) rfl
    (State.reqSetMode_field m)
  refine ⟨fun hm => ?_, fun hm => ?_, fun hm ha => ?_, fun hm ha hq => ?_, fun hq => ?_⟩
  · rw [mode, if_neg (by simp; omega)]
    rfl
  · subst hm
    exact mode
  · subst hm
    rw [mode, if_pos (by decide), State.toMode, if_neg (by decide), if_neg (by simpa using ha)]
    rfl
  · subst hm
    rw [if_pos (by decide), State.toMode, if_neg (by decide), if_pos (by simpa using ha)] at mode
    obtain ⟨kept, queues, parkQ, queued, parked⟩ := State.startDraining_drains (State.hunt_queuesMatch .c hq)
    have line := State.finish_line (.inl parkQ)
    have granted := State.finish_granted (s.hunt .c).startDraining
    have same (a : Nat) : (s.hunt .c).startDraining.finish.st a = (s.hunt .c).startDraining.st a :=
      State.st_congr _ _ (State.finish_stations (.inl parkQ)) a
    refine ⟨_, mode, ?_⟩
    dsimp only [State.ok]
    simp only [State.st_mreply, same]
    refine ⟨?_, ?_, fun a hp => ⟨queued a (by simpa using hp), ?_⟩, fun a hp => parked a (by simpa using hp), ?_, ?_⟩
    · have held : ((s.hunt .c).startDraining.finish.mreply src tag Req.setMode.code .ok []).anyHeld
          = (s.hunt .c).startDraining.anyHeld :=
        State.anyHeld_congr ((State.answer_stations _ _).trans (State.finish_stations (.inl parkQ)))
      have mode_ : ((s.hunt .c).startDraining.finish.mreply src tag Req.setMode.code .ok []).mode
          = if (s.hunt .c).startDraining.anyHeld then .draining else .pass := by
        rw [State.mreply, State.answer_mode, line]
        dsimp only
        unfold State.modeCheck
        rw [kept.mode]
        cases (s.hunt .c).startDraining.anyHeld
        · rfl
        · exact kept.mode
      refine mode_.trans ?_
      simp only [held]
    · rw [State.mreply, State.answer_parkQ, line]
      exact parkQ
    · exact (kept.st a).credit
    · exact State.mreply_answeredWith (s := s.hunt .c) (granted.cport.trans kept.cport)
        (granted.answers.trans kept.answers) (granted.lineTime.trans kept.lineTime) (granted.straps.trans kept.straps)
    · refine (State.hunt_settings .c).trans (State.settingsKept.trans (t := { s.hunt .c with mode := .draining })
        ⟨rfl, rfl, rfl, rfl, rfl, rfl, rfl, rfl, rfl, rfl, rfl⟩ ?_)
      exact kept.settingsKept.trans (granted.settingsKept.trans (State.mreply_settings _ _ _))
  · have judged := exec_of_judged (i := .wakeZones src tag [m]) .wakeZones h (by simp) (.inr hadm) rfl
      (State.reqWakeZones_field m)
    rw [if_pos rfl] at judged
    have hq' := State.hunt_queuesMatch .c hq
    have granted := State.wakeZones_kept (s := s.hunt .c) m.toNat
    have busy := State.finish_stations (s := (s.hunt .c).takeWakes .scheduled
      ((s.hunt .c).parkedStations.filter fun a => m.toNat.testBit ((s.hunt .c).pol a).zone))
    refine ⟨_, judged, ?_⟩
    dsimp only [State.ok]
    simp only [State.st_mreply]
    have listed (a : Nat) : a ∈ (s.hunt .c).parkedStations.filter (fun a => m.toNat.testBit ((s.hunt .c).pol a).zone)
        ↔ (s.st a).state = .parked ∧ m.toNat.testBit (s.pol a).zone = true := by
      rw [List.mem_filter, State.mem_parkedStations, State.st_hunt, State.pol_hunt]
    have settled : s.settingsKept ((s.hunt .c).wakeZones m.toNat) :=
      (State.hunt_settings .c).trans granted.settingsKept
    rw [State.wakeZones] at granted settled ⊢
    generalize (s.hunt .c).parkedStations.filter (fun a => m.toNat.testBit ((s.hunt .c).pol a).zone) = l
      at listed granted settled busy ⊢
    have wakes := State.takeWakes_fared l hq'
    have ended := State.finish_fared wakes.queues
    have still {a : Nat} (hb : (s.st a).state.still) :
        ((s.hunt .c).takeWakes .scheduled l).st a = s.st a := by
      rw [State.st_takeWakes_still l hq' (by simpa using hb), State.st_hunt]
    refine ⟨fun a hp hz => ?_, fun a hs ha => ?_, fun hm a hp hs => ?_, ?_, ?_⟩
    · refine (ended.st a).woken (State.takeWakes_woken l hq' ((listed a).mpr ⟨hp, hz⟩) (.inl (by simpa using hp)))
    · have out (hu : (s.st a).state.unqueued) (same : ((s.hunt .c).takeWakes .scheduled l).st a = s.st a) :
          ((s.hunt .c).takeWakes .scheduled l).finish.st a = s.st a := by
        rw [State.st_finish_unlisted (wakes.queues.unlisted (by rwa [same])), same]
      rcases ha with ⟨hp, hz⟩ | ha
      · refine out (by simp [hp, StState.unqueued]) ?_
        rw [State.st_takeWakes_unreached (P := fun x => hasRecord x ∧ x ≠ a) l hq'
          (State.encloses_of_unsupporting (s := s.hunt .c) hs) (fun b hb => ?_) (by simp) (by simpa using hp),
          State.st_hunt]
        obtain ⟨parked, zone⟩ := (listed b).mp hb
        refine ⟨hasRecord_of_state s b (by simp [parked]), ?_⟩
        rintro rfl
        rw [hz] at zone
        cases zone
      · simp only [List.mem_cons, List.not_mem_nil, or_false, not_or] at ha
        exact out ⟨ha.2.1, ha.2.2⟩ (still ⟨ha.1, ha.2.2⟩)
    · have kept := (s.hunt .c).takeWakes_kept .scheduled l
      have busyNow := busy (.inr (by rw [kept.master]; exact hm))
      have same : ((s.hunt .c).takeWakes .scheduled l).finish.st a = s.st a := by
        rw [State.st_congr _ _ busyNow, still (by simp [hp, StState.still])]
      refine ⟨same, ?_⟩
      rw [State.mreply, State.answer_parkQ]
      exact ended.queues.mem_parkQ.mpr (by rw [same, hp])
    · exact State.mreply_answeredWith (s := s.hunt .c) granted.cport granted.answers granted.lineTime granted.straps
    · exact settled.trans (State.mreply_settings _ _ _)

end Sys2Proof.Machine
end


section
/-! SUPPORT. The night scanner: which entry a selection polls, and its requests (R175 to R179). -/

namespace Sys2Proof.Machine

variable {s t u : State} {a b : Nat} {src tag : Byte} {i j n : Nat}

/-! ## Selection (R177) -/

theorem State.scanSlot_eq (s : State) : s.scanSlot = s.slotAt s.scan.pos := rfl

theorem State.absentEntry_iff (s : State) (j : Nat) :
    s.absentEntry j = true ↔ (s.pol (s.slotAt j)).cls = .absent ∨ s.slotAt j = s.straps.addr := by
  simp [State.absentEntry]

/-- The count of skips after entry `j` is passed over (R177). -/
theorem State.skipCount_succ (h : i ≤ j) :
    s.skipCount i (j + 1)
      = if s.freshEntry j then satAdd Config.max16 (s.skipCount i j) 1 else s.skipCount i j := by
  have range : List.range' i (j + 1 - i) = List.range' i (j - i) ++ [j] := by
    rw [show j + 1 - i = (j - i) + 1 by omega, List.range'_concat]
    simp; omega
  simp only [State.skipCount, range, List.countP_append, List.countP_singleton]
  cases s.freshEntry j
  · simp
  · simp only [satAdd, Config.max16, if_true]
    rw [if_neg (by omega)]
    split <;> omega

theorem State.skipCount_self (s : State) (i : Nat) : s.skipCount i i = s.scan.freshSkips := by
  simp [State.skipCount]

/-- An entry that is passed over, in a scan that goes on past it. -/
theorem State.scanSelect_skip (fuel : Nat) (hpos : s.scan.pos < s.cfg.scan.len)
    (hrun : s.scan.running ≠ .single) (h : s.absentEntry s.scan.pos = true ∨ s.freshEntry s.scan.pos = true) :
    State.scanSelect (fuel + 1) s
      = State.scanSelect fuel (s.setScan { s.scan with
          pos := s.scan.pos + 1
          freshSkips := if s.freshEntry s.scan.pos then satAdd Config.max16 s.scan.freshSkips 1
            else s.scan.freshSkips }) := by
  conv_lhs => unfold State.scanSelect
  dsimp only
  rw [if_neg (Nat.not_le.mpr hpos), State.scanSlot_eq]
  by_cases ha : s.absentEntry s.scan.pos = true
  · have hf : s.freshEntry s.scan.pos = false := by simp [State.freshEntry, ha]
    rw [if_pos ((s.absentEntry_iff _).mp ha), State.scanSkip, if_neg hrun, hf]
  · have fresh := h.resolve_left ha
    have hf : s.fresh (s.slotAt s.scan.pos) = true := by
      simp only [State.freshEntry, Bool.and_eq_true] at fresh
      exact fresh.2
    rw [if_neg (by rwa [s.absentEntry_iff] at ha), if_pos hf, State.scanSkip, if_neg hrun, fresh]

/-- The scanner at a later entry, every one before it passed over. -/
def State.scanAt (s : State) (j : Nat) : State :=
  s.setScan { s.scan with pos := j, freshSkips := s.skipCount s.scan.pos j }

theorem State.scanSelect_skips (fuel : Nat) (hrun : s.scan.running ≠ .single) (hj : j ≤ s.cfg.scan.len)
    (h : s.skips s.scan.pos j) :
    State.scanSelect (fuel + (j - s.scan.pos)) s = State.scanSelect fuel (s.scanAt j) := by
  obtain ⟨hle, hskip⟩ := h
  obtain ⟨k, rfl⟩ := Nat.exists_eq_add_of_le hle
  clear hle
  rw [Nat.add_sub_cancel_left]
  induction k generalizing fuel with
  | zero => simp [State.scanAt, State.skipCount_self, State.setScan]
  | succ k ih =>
    rw [show fuel + (k + 1) = (fuel + 1) + k by omega, ih (fuel + 1) (by omega) fun n hn hk => hskip n hn (by omega),
      State.scanSelect_skip (s := s.scanAt (s.scan.pos + k)) fuel (show s.scan.pos + k < s.cfg.scan.len by omega) hrun
        (hskip (s.scan.pos + k) (by omega) (by omega))]
    rw [State.scanAt, State.scanAt, ← Nat.add_assoc, State.skipCount_succ (Nat.le_add_right _ _)]
    rfl

theorem State.scanSelect_due (fuel : Nat) (h : s.dueEntry s.scan.pos) :
    State.scanSelect (fuel + 1) s = s.setScan { s.scan with st := .scanning, waitEnd := none } := by
  obtain ⟨hpos, ha, hf⟩ := h
  have fresh : ¬ s.fresh (s.slotAt s.scan.pos) = true := by simpa [State.freshEntry, ha] using hf
  unfold State.scanSelect
  dsimp only
  rw [if_neg (Nat.not_le.mpr hpos), State.scanSlot_eq, if_neg, if_neg fresh]
  rw [← State.absentEntry_iff, ha]
  decide

/-- From its position the scanner polls the first entry that is due. -/
theorem State.scanSelect_polls {fuel : Nat} (hf : j - s.scan.pos < fuel) (hrun : s.scan.running = .single → j = s.scan.pos)
    (h : s.skips s.scan.pos j) (hd : s.dueEntry j) :
    State.scanSelect fuel s
      = s.setScan { s.scan with
          st := .scanning, pos := j, waitEnd := none, freshSkips := s.skipCount s.scan.pos j } := by
  obtain ⟨k, rfl⟩ : ∃ k, fuel = (k + 1) + (j - s.scan.pos) := ⟨fuel - (j - s.scan.pos) - 1, by omega⟩
  by_cases hs : s.scan.running = .single
  · obtain rfl := hrun hs
    rw [Nat.sub_self, Nat.add_zero, State.scanSelect_due k hd, State.skipCount_self]
  · rw [State.scanSelect_skips (k + 1) hs (Nat.le_of_lt hd.1) h, State.scanSelect_due (s := s.scanAt j) k hd]
    rfl

/-- A SINGLE scan whose entry is passed over is over. -/
theorem State.scanSelect_single (fuel : Nat) (hpos : s.scan.pos < s.cfg.scan.len) (hrun : s.scan.running = .single)
    (h : s.skips s.scan.pos (s.scan.pos + 1)) :
    State.scanSelect (fuel + 1) s
      = s.setScan { s.scan with
          st := .idle, pos := s.scan.pos + 1, waitEnd := none, stopPending := false
          freshSkips := s.skipCount s.scan.pos (s.scan.pos + 1) } := by
  unfold State.scanSelect
  dsimp only
  rw [if_neg (Nat.not_le.mpr hpos), State.scanSlot_eq, State.skipCount_succ (Nat.le_refl _), State.skipCount_self]
  by_cases ha : s.absentEntry s.scan.pos = true
  · have hf : s.freshEntry s.scan.pos = false := by simp [State.freshEntry, ha]
    rw [if_pos ((s.absentEntry_iff _).mp ha), State.scanSkip, if_pos hrun, hf]
    rfl
  · have fresh := (h.2 _ (Nat.le_refl _) (Nat.lt_succ_self _)).resolve_left ha
    have hf : s.fresh (s.slotAt s.scan.pos) = true := by
      simp only [State.freshEntry, Bool.and_eq_true] at fresh
      exact fresh.2
    rw [if_neg (by rwa [s.absentEntry_iff] at ha), if_pos hf, State.scanSkip, if_pos hrun, fresh]
    rfl

/-- The entries left of a pass, where every one of them is passed over. -/
theorem State.scanSelect_passEnd {fuel : Nat} (hf : s.cfg.scan.len - s.scan.pos < fuel)
    (hrun : s.scan.running ≠ .single) (h : s.skips s.scan.pos (max s.scan.pos s.cfg.scan.len)) :
    ∃ k, fuel = k + 1 + (s.cfg.scan.len - s.scan.pos)
      ∧ State.scanSelect fuel s = State.scanSelect (k + 1) (s.scanAt (max s.scan.pos s.cfg.scan.len)) := by
  refine ⟨fuel - (s.cfg.scan.len - s.scan.pos) - 1, by omega, ?_⟩
  rcases Nat.le_total s.cfg.scan.len s.scan.pos with hle | hle
  · have here : s.scanAt s.scan.pos = s := by simp [State.scanAt, State.skipCount_self, State.setScan]
    rw [Nat.max_eq_left hle, here]
    congr 1
    omega
  · rw [Nat.max_eq_right hle] at h ⊢
    rw [← State.scanSelect_skips _ hrun (Nat.le_refl _) h]
    congr 1
    omega

/-- A SEQUENCE at the end of the list is over. -/
theorem State.scanSelect_sequence (fuel : Nat) (hpos : s.cfg.scan.len ≤ s.scan.pos) (hrun : s.scan.running = .sequence) :
    State.scanSelect (fuel + 1) s
      = s.setScan { s.scan with st := .idle, waitEnd := none, stopPending := false } := by
  unfold State.scanSelect
  dsimp only
  rw [if_pos hpos]
  simp only [Scanner.idled, hrun]

/-- A REPEAT at the end of the list waits out its period. -/
theorem State.scanSelect_waits (fuel : Nat) (hpos : s.cfg.scan.len ≤ s.scan.pos) (hrun : s.scan.running = .repeating)
    (hnow : s.mono < s.scan.passStart + s.cfg.scan.period * 1000) :
    State.scanSelect (fuel + 1) s
      = s.setScan { s.scan with
          st := .waiting, waitEnd := some (s.scan.passStart + s.cfg.scan.period * 1000) } := by
  unfold State.scanSelect
  dsimp only
  rw [if_pos hpos]
  simp only [hrun]
  exact if_pos hnow

/-- A REPEAT whose period has run begins a new pass at once. -/
theorem State.scanSelect_again (fuel : Nat) (hpos : s.cfg.scan.len ≤ s.scan.pos) (hrun : s.scan.running = .repeating)
    (hnow : s.scan.passStart + s.cfg.scan.period * 1000 ≤ s.mono) :
    State.scanSelect (fuel + 1) s
      = State.scanSelect fuel (s.setScan { s.scan with passStart := s.mono, pos := s.cfg.scan.startIdx }) := by
  conv_lhs => unfold State.scanSelect
  dsimp only
  rw [if_pos hpos]
  simp only [hrun]
  exact if_neg (Nat.not_lt.mpr hnow)

/-! ## The scanner's requests (R175, R176, R179) -/

theorem State.setScan_settings (c : Scanner) : s.settingsKept (s.setScan c) :=
  ⟨rfl, rfl, rfl, rfl, rfl, rfl, rfl, rfl, rfl, rfl, rfl⟩

/-- SCAN START of an idle scanner leaves the scanner that its selection gives (R176). -/
theorem exec_scanStart {n : Scanner} (h : s.managed src = true) (hadm : s.admits = true) (hlen : 1 ≤ s.cfg.scan.len)
    (hi : s.scan.st = .idle) (hn : (s.hunt .c).startScan s.cfg.scan.mode = (s.hunt .c).setScan n) :
    ∃ t, exec (.scanStart src tag []) s = .next t ∧ t.scan = n
      ∧ (s.hunt .c).answeredWith t ⟨src, Sys2Proof.byte s.straps.addr, tag, .mreply [0x42, 0]⟩ ∧ s.settingsKept t := by
  have judged := exec_of_judged (i := .scanStart src tag []) .scanStart h (by simp) (.inr hadm) rfl rfl
  rw [if_pos (by simpa using hlen), if_pos (show (s.hunt .c).scan.st = .idle from hi)] at judged
  have granted := State.finish_granted ((s.hunt .c).setScan n)
  refine ⟨_, judged, ?_⟩
  dsimp only [State.ok]
  rw [show (s.hunt .c).cfg.scan.mode = s.cfg.scan.mode from rfl, hn]
  refine ⟨?_, ?_, ?_⟩
  · rw [State.mreply, State.answer_scan, granted.scan]
    rfl
  · exact State.mreply_answeredWith (s := s.hunt .c) granted.cport granted.answers granted.lineTime granted.straps
  · exact (State.hunt_settings .c).trans
      ((State.setScan_settings n).trans (granted.settingsKept.trans (State.mreply_settings _ _ _)))

/-- SCAN_WAIT_END, its time reached, leaves the scanner that its selection gives. -/
theorem exec_scanWaitEnd {n : Scanner} {e : Nat} (ho : s.online = true) (hw : s.scan.st = .waiting)
    (he : s.scan.waitEnd = some e) (hr : e ≤ s.mono) (hn : s.scanNext = s.setScan n) :
    ∃ t, exec .scanWaitEnd s = .next t ∧ t.scan = n ∧ t.cport = s.cport ∧ s.settingsKept t := by
  have granted := State.finish_granted (s.setScan n)
  refine ⟨(s.setScan n).finish, ?_, granted.scan, granted.cport,
    (State.setScan_settings n).trans granted.settingsKept⟩
  show execScanWaitEnd s = _
  rw [execScanWaitEnd, State.whenOnline_of_online _ ho, if_pos ⟨hw, (State.reached_iff _ _).mpr ⟨e, he, hr⟩⟩, hn]

theorem State.reqWriteScanList_list (len first count : Byte) (run : List Byte) :
    s.request .writeScanList (0 :: len :: first :: count :: run) = s.scanListForm (len :: first :: count :: run) := rfl

theorem State.reqWriteScanList_params (rest : List Byte) :
    s.request .writeScanList (1 :: rest) = s.scanParamForm rest := rfl

/-- A scan write is taken in while the scanner is idle only (R175). -/
theorem State.writeScan_mreply (c : ScanCfg) (code : Byte) :
    (s.writeScan c).state.mreply src tag code (s.writeScan c).res (s.writeScan c).data
      = if s.scan.st = .idle then (s.setScanCfg c).mreply src tag code .ok [] else s.mreply src tag code .busy [] := by
  rw [State.writeScan]
  split <;> rfl

theorem ScanMode.ofCode_none {md : Byte} (h : 2 < md.toNat) : ScanMode.ofCode md = none := by
  unfold ScanMode.ofCode
  split
  case h_4 => rfl
  all_goals omega

theorem ScanMode.ofCode_some {md : Byte} (h : md.toNat ≤ 2) : ∃ m, ScanMode.ofCode md = some m := by
  obtain hm | hm | hm : md.toNat = 0 ∨ md.toNat = 1 ∨ md.toNat = 2 := by omega
  · exact ⟨.single, by simp only [ScanMode.ofCode, hm]⟩
  · exact ⟨.sequence, by simp only [ScanMode.ofCode, hm]⟩
  · exact ⟨.repeating, by simp only [ScanMode.ofCode, hm]⟩

theorem State.stopScan_idle (h : s.scan.st = .idle) : s.stopScan = s := by simp only [State.stopScan, h]

theorem State.stopScan_now (h : s.scan.st = .waiting ∨ s.scanOffers = true) :
    s.stopScan = s.setScan s.scan.idled := by
  cases hs : s.scan.st with
  | idle => simp [State.scanOffers, hs] at h
  | waiting => simp only [State.stopScan, hs]
  | scanning => simp only [State.stopScan, hs, if_pos (h.resolve_left (by simp [hs]))]

theorem State.stopScan_later (h : s.scan.st = .scanning) (ho : s.scanOffers = false) :
    s.stopScan = s.setScan { s.scan with stopPending := true } := by
  simp only [State.stopScan, h, ho]
  rfl

theorem exec_scanStop (h : s.managed src = true) :
    exec (.scanStop src tag []) s = .next ((s.hunt .c).stopScan.mreply src tag 0x43 .ok []) :=
  exec_of_judged (i := .scanStop src tag []) (range := true) (act := (s.hunt .c).stopScan.ok) .scanStop h (by simp)
    (.inl rfl) rfl rfl

/-- The list form of WRITE SCAN LIST. -/
theorem exec_scanListForm (h : s.managed src = true) (hadm : s.admits = true) (len first count : Byte)
    (run : List Byte) (hc : run.length = count.toNat) (hr : run.length ≤ 27) :
    let slots := placeRun s.cfg.scan.slots first.toNat (run.map BitVec.toNat)
    exec (.writeScanList src tag (0 :: len :: first :: count :: run)) s
      = .next
          (if count.toNat ≤ 24 ∧ 1 ≤ len.toNat ∧ len.toNat ≤ 32 ∧ first.toNat ≤ 31 ∧ first.toNat + run.length ≤ 32
              ∧ (∀ a ∈ run, s.named a.toNat = true) ∧ 0 ∉ slots.toList.take len.toNat
              ∧ s.cfg.scan.startIdx < len.toNat then
            if s.scan.st = .idle then
              ((s.hunt .c).setScanCfg { s.cfg.scan with slots := slots, len := len.toNat }).mreply src tag 0x41 .ok []
            else (s.hunt .c).mreply src tag 0x41 .busy []
           else (s.hunt .c).mreply src tag 0x41 .range []) := by
  intro slots
  have judged := exec_of_judged (i := .writeScanList src tag (0 :: len :: first :: count :: run)) .writeScanList h
    (by simp; omega) (.inr hadm) rfl
    ((State.reqWriteScanList_list len first count run).trans
      (by rw [State.scanListForm, decide_eq_true hc]))
  rw [judged, State.writeScan_mreply]
  refine congrArg Host.Outcome.next (if_congr ?_ rfl rfl)
  have noGap : (slots.toList.take len.toNat).all (fun a => a != 0) = true ↔ 0 ∉ slots.toList.take len.toNat := by
    rw [List.all_eq_true]
    refine ⟨fun all zero => by simpa using all 0 zero, fun none a ha => ?_⟩
    simp only [bne_iff_ne]
    rintro rfl
    exact none ha
  have named : run.all (fun a => (s.hunt .c).named a.toNat) = true ↔ ∀ a ∈ run, s.named a.toNat = true := by
    rw [List.all_eq_true]
    rfl
  simp only [Bool.and_eq_true, decide_eq_true_eq, named, and_assoc, ← noGap]
  constructor
  · rintro ⟨h1, h2, h3, h4, h5, h6, h7, h8⟩
    exact ⟨h1, h2, h3, h4, h6, h5, h7, h8⟩
  · rintro ⟨h1, h2, h3, h4, h6, h5, h7, h8⟩
    exact ⟨h1, h2, h3, h4, h5, h6, h7, h8⟩

/-- The parameter form of WRITE SCAN LIST, its mode and its flag in range. -/
theorem exec_scanParamForm (h : s.managed src = true) (hadm : s.admits = true) {md au : Byte} {m : ScanMode} {b : Bool}
    (hm : ScanMode.ofCode md = some m) (hb : flagOf au = some b) (st sp1 sp0 pe1 pe0 fw : Byte) :
    exec (.writeScanList src tag [1, md, st, sp1, sp0, pe1, pe0, fw, au]) s
      = .next
          (if st.toNat ≤ 31 ∧ Sys2Proof.beVal [sp1, sp0] ≤ 1000 ∧ 1 ≤ Sys2Proof.beVal [pe1, pe0]
              ∧ Sys2Proof.beVal [pe1, pe0] ≤ 3600 ∧ fw.toNat ≤ 60
              ∧ (s.cfg.scan.len = 0 ∨ st.toNat < s.cfg.scan.len) then
            if s.scan.st = .idle then
              ((s.hunt .c).setScanCfg
                { s.cfg.scan with
                  mode := m, startIdx := st.toNat, spacing := Sys2Proof.beVal [sp1, sp0]
                  period := Sys2Proof.beVal [pe1, pe0], freshWindow := fw.toNat, autoStart := b }).mreply
                src tag 0x41 .ok []
            else (s.hunt .c).mreply src tag 0x41 .busy []
           else (s.hunt .c).mreply src tag 0x41 .range []) := by
  rw [exec_of_judged (i := .writeScanList src tag [1, md, st, sp1, sp0, pe1, pe0, fw, au]) .writeScanList h
    (by simp) (.inr hadm) rfl
    ((State.reqWriteScanList_params _).trans (by simp only [State.scanParamForm, hm, hb]; rfl)),
    State.writeScan_mreply]
  refine congrArg Host.Outcome.next (if_congr ?_ rfl rfl)
  simp only [Bool.and_eq_true, Bool.or_eq_true, decide_eq_true_eq, and_assoc]
  rfl

/-- The parameter form with a mode or a flag outside its codes. -/
theorem exec_scanParamForm_bad (h : s.managed src = true) (hadm : s.admits = true) {md au : Byte}
    (hout : 2 < md.toNat ∨ 1 < au.toNat) (st sp1 sp0 pe1 pe0 fw : Byte) :
    exec (.writeScanList src tag [1, md, st, sp1, sp0, pe1, pe0, fw, au]) s
      = .next ((s.hunt .c).mreply src tag 0x41 .range []) := by
  have form : (s.hunt .c).scanParamForm [md, st, sp1, sp0, pe1, pe0, fw, au]
      = (s.hunt .c).judge .writeScanList true false (s.hunt .c).ok := by
    rcases hout with hout | hout
    · simp only [State.scanParamForm, ScanMode.ofCode_none hout]
    · cases hm : ScanMode.ofCode md <;> simp only [State.scanParamForm, flagOf_eq_none hout, hm]
  rw [exec_of_judged (i := .writeScanList src tag [1, md, st, sp1, sp0, pe1, pe0, fw, au]) .writeScanList h
    (by simp) (.inr hadm) rfl ((State.reqWriteScanList_params _).trans form)]
  rfl

/-- Settles O58. -/
theorem scannerRequests : Obligations.ScannerRequests := by
  refine ⟨fun src tag s h => ⟨fun hadm len first count run hc hr => ?list, fun hadm md st sp1 sp0 pe1 pe0 fw au => ?params,
    fun hadm => ⟨fun hl => ?startEmpty, fun hl hi => ?startBusy, fun hl hm hi => ⟨fun j hs hk hd => ?startPolls,
      fun hs hp hk => ?startSingle⟩⟩, fun hi => ?stopIdle, fun hw => ?stopNow, fun hp ho => ?stopLater⟩,
    fun s e ho hw he => ⟨fun hr => ?waitSooner, fun hr hl hrun => ⟨fun j hk hd => ?waitPolls, fun hk =>
      ⟨fun hq => ?waitOver, fun hq hn => ?waitAgain, fun hq hn => ⟨fun j hk' hd => ?passPolls, fun hp hx hk' => ?passSkips⟩⟩⟩⟩⟩
  case list =>
    have form := exec_scanListForm h hadm (tag := tag) len first count run hc hr
    exact ⟨fun bad => form.trans (by rw [if_neg bad]), fun good => form.trans (by rw [if_pos good]; rfl)⟩
  case params =>
    refine ⟨fun bad => ?_, fun m b hm hb good => ?_⟩
    · by_cases hout : 2 < md.toNat ∨ 1 < au.toNat
      · exact exec_scanParamForm_bad h hadm hout st sp1 sp0 pe1 pe0 fw
      · rw [not_or, Nat.not_lt, Nat.not_lt] at hout
        obtain ⟨m, hm⟩ := ScanMode.ofCode_some hout.1
        rw [exec_scanParamForm h hadm hm (flagOf_eq_some hout.2),
          if_neg ((bad.resolve_left (by omega)).resolve_left (by omega))]
    · rw [exec_scanParamForm h hadm hm hb, if_pos good]
      rfl
  case startEmpty =>
    rw [exec_of_judged (i := .scanStart src tag []) .scanStart h (by simp) (.inr hadm) rfl rfl]
    exact congrArg _ (if_neg (by rw [decide_eq_true_eq]; exact Nat.not_le.mpr (by rw [Nat.lt_one_iff]; exact hl)))
  case startBusy =>
    have judged := exec_of_judged (i := .scanStart src tag []) .scanStart h (by simp) (.inr hadm) rfl rfl
    rw [if_pos (by simpa using hl), if_neg (show ¬ (s.hunt .c).scan.st = .idle from hi)] at judged
    exact judged
  case startPolls =>
    refine exec_scanStart h hadm hl hi ?_
    exact State.scanSelect_polls
      (s := (s.hunt .c).setScan { s.scan with
        pos := s.cfg.scan.startIdx, passStart := s.mono, stopPending := false, waitEnd := none
        running := s.cfg.scan.mode })
      (by have below : j < s.cfg.scan.len := hd.1
          show j - s.cfg.scan.startIdx < 80
          omega) hs hk hd
  case startSingle =>
    refine exec_scanStart h hadm hl hi ?_
    have ended := State.scanSelect_single
      (s := (s.hunt .c).setScan { s.scan with
        pos := s.cfg.scan.startIdx, passStart := s.mono, stopPending := false, waitEnd := none
        running := s.cfg.scan.mode })
      79 hp hs hk
    rw [State.startScan, State.scanNext]
    refine ended.trans ?_
    rw [show s.cfg.scan.mode = .single from hs]
    rfl
  case stopIdle => rw [exec_scanStop h, State.stopScan_idle (s := s.hunt .c) hi]
  case stopNow =>
    rw [exec_scanStop h, State.stopScan_now (s := s.hunt .c) hw]
    rfl
  case stopLater =>
    rw [exec_scanStop h, State.stopScan_later (s := s.hunt .c) hp ho]
    rfl
  case waitSooner =>
    show execScanWaitEnd s = _
    rw [execScanWaitEnd, State.whenOnline_of_online _ ho, if_neg]
    rintro ⟨-, reached⟩
    obtain ⟨n, hn, le⟩ := (State.reached_iff _ _).mp reached
    rw [he] at hn
    cases hn
    omega
  case waitPolls =>
    refine exec_scanWaitEnd ho hw he hr ?_
    exact State.scanSelect_polls (by have := hd.1; omega) (fun single => absurd single hrun) hk hd
  case waitOver =>
    obtain ⟨k, -, ended⟩ := State.scanSelect_passEnd (fuel := 80) (by omega) hrun hk
    refine exec_scanWaitEnd ho hw he hr (ended.trans ?_)
    exact State.scanSelect_sequence (s := s.scanAt _) k (Nat.le_max_right _ _) hq
  case waitAgain =>
    obtain ⟨k, -, ended⟩ := State.scanSelect_passEnd (fuel := 80) (by omega) hrun hk
    refine exec_scanWaitEnd ho hw he hr (ended.trans ?_)
    rw [State.scanSelect_waits (s := s.scanAt _) k (Nat.le_max_right _ _) hq hn, ← hw]
    rfl
  case passPolls =>
    obtain ⟨k, hf, ended⟩ := State.scanSelect_passEnd (fuel := 80) (by omega) hrun hk
    refine exec_scanWaitEnd ho hw he hr (ended.trans ?_)
    rw [State.scanSelect_again (s := s.scanAt _) k (Nat.le_max_right _ _) hq hn]
    have below : j < s.cfg.scan.len := hd.1
    exact State.scanSelect_polls (s := (s.scanAt (max s.scan.pos s.cfg.scan.len)).setScan _)
      (by show j - s.cfg.scan.startIdx < k
          omega) (fun single => absurd single hrun) hk' hd
  case passSkips =>
    obtain ⟨k, hf, ended⟩ := State.scanSelect_passEnd (fuel := 80) (by omega) hrun hk
    refine exec_scanWaitEnd ho hw he hr (ended.trans ?_)
    rw [State.scanSelect_again (s := s.scanAt _) k (Nat.le_max_right _ _) hq hn]
    let w := (s.scanAt (max s.scan.pos s.cfg.scan.len)).setScan
      { (s.scanAt (max s.scan.pos s.cfg.scan.len)).scan with passStart := s.mono, pos := s.cfg.scan.startIdx }
    have all : max s.cfg.scan.startIdx s.cfg.scan.len = s.cfg.scan.len := Nat.max_eq_right hx
    obtain ⟨k', -, ended'⟩ := State.scanSelect_passEnd (s := w) (fuel := k)
      (by show s.cfg.scan.len - s.cfg.scan.startIdx < k
          omega) hrun (by show s.skips s.cfg.scan.startIdx (max s.cfg.scan.startIdx s.cfg.scan.len)
                          rwa [all])
    refine ended'.trans ?_
    rw [State.scanSelect_waits (s := w.scanAt _) k' (Nat.le_max_right _ _) hq
      (by show s.mono < s.mono + s.cfg.scan.period * 1000
          omega), ← hw]
    rw [show max w.scan.pos w.cfg.scan.len = s.cfg.scan.len from all]
    rfl

end Sys2Proof.Machine
end


section
/-! SUPPORT. The end of a sounding: the warnings it satisfies and the zone it leaves (R150, R152, R154). -/

namespace Sys2Proof.Machine

variable {s t u : State} {a b z v : Nat}

theorem State.zone_setZone_self (s : State) (r : Zone) (h : z < 8) : (s.setZone z r).zone z = r := by
  simp [State.zone, State.setZone, h]

theorem State.zone_setZone_other (s : State) (r : Zone) (h : v ≠ z) : (s.setZone z r).zone v = s.zone v := by
  simp [State.zone, State.setZone, Vector.getElem?_setIfInBounds_ne (Ne.symm h)]

theorem zone_lt_of_sounding {y : Sounding} (h : (s.zone z).sounding = some y) : z < 8 := by
  by_contra out
  simp [State.zone, Vector.getElem?_eq_none (Nat.not_lt.mp out)] at h

theorem State.mem_warned (s : State) (z a : Nat) :
    a ∈ s.warned z ↔ (s.st a).state = .waking ∧ (s.st a).phase = .warn ∧ (s.pol a).zone = z := by
  rw [State.warned, List.mem_filter]
  simp only [Bool.and_eq_true, decide_eq_true_eq, and_assoc]
  refine ⟨fun h => h.2, fun h => ⟨(mem_addresses a).mpr (hasRecord_of_state s a (by simp [h.1])), h⟩⟩

theorem State.modSt_eq (s : State) (a : Nat) (f : Station → Station) :
    s.modSt a f = { s with stations := (s.modSt a f).stations } := by
  cases a <;> rfl

/-- The warnings of a list of stations satisfied at `t`: the records alone change. -/
theorem State.satisfyAll_eq (l : List Nat) (t : Nat) (s : State) :
    l.foldl (fun u a => u.satisfy a t) s
      = { s with stations := (l.foldl (fun u a => u.satisfy a t) s).stations } := by
  induction l generalizing s with
  | nil => rfl
  | cons x l ih =>
    rw [List.foldl_cons, ih, State.satisfy, State.modSt_eq]

theorem State.st_satisfyAll_other (l : List Nat) (t : Nat) (s : State) (h : a ∉ l) :
    (l.foldl (fun u a => u.satisfy a t) s).st a = s.st a := by
  induction l generalizing s with
  | nil => rfl
  | cons x l ih =>
    rw [List.mem_cons, not_or] at h
    rw [List.foldl_cons, ih _ h.2, State.satisfy, s.st_modSt_other x a _ h.1]

theorem State.st_satisfyAll_self (l : List Nat) (t : Nat) (s : State) (nodup : l.Nodup) (h : a ∈ l) (hr : hasRecord a) :
    (l.foldl (fun u a => u.satisfy a t) s).st a
      = { s.st a with phase := .command, attempts := 0, satisfiedAt := some t } := by
  induction l generalizing s with
  | nil => cases h
  | cons x l ih =>
    rw [List.nodup_cons] at nodup
    rw [List.foldl_cons]
    rcases List.mem_cons.mp h with rfl | h
    · rw [State.st_satisfyAll_other _ _ _ nodup.1, State.satisfy, s.st_modSt_self a _ hr]
    · have ne : a ≠ x := fun e => nodup.1 (e ▸ h)
      rw [ih _ nodup.2 h, State.satisfy, s.st_modSt_other x a _ ne]

theorem State.warned_nodup (s : State) (z : Nat) : (s.warned z).Nodup := addresses_nodup.filter _

theorem State.endSounding_eq (s : State) (z t : Nat) :
    s.endSounding z t
      = { s with stations := (s.endSounding z t).stations, zones := s.zones.setIfInBounds z ⟨none, t + 30000⟩ } := by
  unfold State.endSounding
  rw [State.satisfyAll_eq]
  rfl

/-- The stations that wait in WARN for the zone are satisfied, and no other changes. -/
theorem State.st_endSounding (s : State) (z t a : Nat) :
    (s.endSounding z t).st a
      = if (s.st a).state = .waking ∧ (s.st a).phase = .warn ∧ (s.pol a).zone = z then
          { s.st a with phase := .command, attempts := 0, satisfiedAt := some t }
        else s.st a := by
  unfold State.endSounding
  simp only [← State.mem_warned]
  split
  case isTrue h =>
    rw [State.st_satisfyAll_self _ _ _ (s.warned_nodup z) h
      (hasRecord_of_state s a (by simp [((s.mem_warned z a).mp h).1])), State.st_setZone]
  case isFalse h => rw [State.st_satisfyAll_other _ _ _ h, State.st_setZone]

theorem State.zoneOutput_iff {y : Sounding} (ho : s.online = true) (h : (s.zone z).sounding = some y) :
    s.zoneOutput z = true
      ↔ s.mono < y.ends
        ∧ match y.pattern with
          | .steady => True
          | .slow => (s.mono - y.start) % 1000 < 500
          | .fast => (s.mono - y.start) % 250 < 125 := by
  simp only [State.zoneOutput, h, ho, Bool.true_and, Bool.and_eq_true, State.now]
  refine and_congr decide_eq_true_iff ?_
  cases y.pattern with
  | steady => exact ⟨fun _ => trivial, fun _ => rfl⟩
  | slow => exact decide_eq_true_iff.trans (by omega)
  | fast => exact decide_eq_true_iff.trans (by omega)

theorem exec_soundingEnd {y : Sounding} (ho : s.online = true) (h : (s.zone z).sounding = some y) :
    exec (.soundingEnd z) s = .next (if y.ends ≤ s.mono then (s.endSounding z y.ends).finish else s) := by
  show execSoundingEnd z s = _
  rw [execSoundingEnd, State.whenOnline_of_online _ ho, State.soundingOver, h]
  by_cases he : y.ends ≤ s.mono <;> simp [State.now, he]

/-- Settles O46. -/
theorem soundingEndSatisfiesWarnings : Obligations.SoundingEndSatisfiesWarnings := by
  refine ⟨fun z s h => by simp [State.zoneOutput, h], fun z s y ho h => ⟨State.zoneOutput_iff ho h, fun he => ?_,
    fun he hq => ?_⟩⟩
  · rw [exec_soundingEnd ho h, if_neg (Nat.not_le.mpr he)]
  · have queues : (s.endSounding z y.ends).queuesMatch := (s.endSounding_moves (w := True) z y.ends).queuesMatch hq
    have granted := State.finish_granted (s.endSounding z y.ends)
    have kept := s.endSounding_kept z y.ends
    refine ⟨_, by rw [exec_soundingEnd ho h, if_pos he], fun a ha => ?_, fun hi => ?_, granted.cport.trans kept.cport,
      kept.settingsKept.trans granted.settingsKept⟩
    · have state : ((s.endSounding z y.ends).st a).state = .waking := by
        rw [State.st_endSounding]
        split <;> exact ha
      rw [State.st_finish_unlisted (queues.unlisted (by rw [state]; exact ⟨by decide, by decide⟩)),
        State.st_endSounding]
      simp only [ha, true_and]
    · have line := State.finish_line (s := s.endSounding z y.ends) (by rw [State.endSounding_eq]; exact hi)
      have zones (v : Nat) : (s.endSounding z y.ends).finish.zone v = (s.setZone z ⟨none, y.ends + 30000⟩).zone v := by
        rw [line, State.endSounding_eq]
        rfl
      have own := (zones z).trans (s.zone_setZone_self _ (zone_lt_of_sounding h))
      exact ⟨own, by simp [State.zoneOutput, own], fun v hv => (zones v).trans (s.zone_setZone_other _ hv)⟩

end Sys2Proof.Machine
end


section
/-! SUPPORT. An entry to FAULTED: its record, its flags and the stations that follow it (R82, R102, R137). -/

namespace Sys2Proof.Machine

open Station (BeliefKept HoldKept beliefOrder)

variable {s t u : State} {a b q : Nat} {c : FaultCause}

/-! ## The flags that faults raise -/

/-- No flag of a fault is cleared. -/
structure State.Alarmed (s t : State) : Prop where
  stationFault : s.flags.stationFault = true → t.flags.stationFault = true
  parkLimit : s.flags.parkLimit = true → t.flags.parkLimit = true

theorem State.Alarmed.of_flags (h : t.flags = s.flags) : s.Alarmed t := ⟨fun k => h ▸ k, fun k => h ▸ k⟩

theorem State.Alarmed.refl (s : State) : s.Alarmed s := .of_flags rfl

theorem State.Alarmed.trans (h : s.Alarmed t) (k : t.Alarmed u) : s.Alarmed u :=
  ⟨fun x => k.stationFault (h.stationFault x), fun x => k.parkLimit (h.parkLimit x)⟩

theorem State.raise_alarmed (s : State) (x : Flag) : s.Alarmed (s.raise x) := by
  constructor <;> intro h <;> cases x <;> simp [State.raise, Attention.raised, h]

theorem State.failLimitTest_alarmed (s : State) (a : Nat) : s.Alarmed (s.failLimitTest a) := by
  unfold State.failLimitTest
  dsimp only
  split
  · exact .trans (.of_flags (s.modSt_quiet a _).flags) (State.raise_alarmed _ _)
  · exact .refl s

/-- The record and the flag of a station that enters FAULTED. -/
def State.faulting (s : State) (a : Nat) (c : FaultCause) : State :=
  ((s.dequeue a).modSt a (Station.faultWith s.now (s.pol a).rated c)).raise .stationFault

theorem State.faultOne_of_park (h : (s.st a).state = .parking ∨ (s.st a).state = .parked) :
    s.faultOne a c = (s.faulting a c).failLimitTest a := by
  unfold State.faultOne
  rcases h with h | h <;> simp only [h] <;> rfl

theorem State.faultOne_of_wake (h : (s.st a).state ≠ .parking) (k : (s.st a).state ≠ .parked) :
    s.faultOne a c = s.faulting a c := by
  unfold State.faultOne
  dsimp only
  split
  · exact absurd ‹_› h
  · exact absurd ‹_› k
  · rfl

theorem State.st_faulting (c : FaultCause) (h : hasRecord a) :
    (s.faulting a c).st a = Station.faultWith s.now (s.pol a).rated c (s.st a) := by
  rw [State.faulting, State.st_raise, State.st_modSt_self _ a _ h, State.st_dequeue]

theorem State.faulting_raised (s : State) (a : Nat) (c : FaultCause) : (s.faulting a c).flags.stationFault = true := by
  simp [State.faulting, State.raise, Attention.raised]

theorem State.faulting_alarmed (s : State) (a : Nat) (c : FaultCause) : s.Alarmed (s.faulting a c) :=
  .trans (.of_flags ((s.dequeue_quiet a).flags ▸ ((s.dequeue a).modSt_quiet a _).flags)) (State.raise_alarmed _ _)

theorem State.faultOne_alarmed (s : State) (a : Nat) (c : FaultCause) : s.Alarmed (s.faultOne a c) := by
  by_cases h : (s.st a).state = .parking ∨ (s.st a).state = .parked
  · rw [State.faultOne_of_park h]
    exact (s.faulting_alarmed a c).trans (State.failLimitTest_alarmed _ _)
  · rw [not_or] at h
    rw [State.faultOne_of_wake h.1 h.2]
    exact s.faulting_alarmed a c

theorem State.faultOne_raised (s : State) (a : Nat) (c : FaultCause) : (s.faultOne a c).flags.stationFault = true := by
  by_cases h : (s.st a).state = .parking ∨ (s.st a).state = .parked
  · rw [State.faultOne_of_park h]
    exact (State.failLimitTest_alarmed _ _).stationFault (s.faulting_raised a c)
  · rw [not_or] at h
    rw [State.faultOne_of_wake h.1 h.2]
    exact s.faulting_raised a c

theorem State.faultAll_alarmed (l : List Nat) (s : State) :
    s.Alarmed (l.foldl (fun t q => t.faultOne q .supportFault) s) := by
  induction l generalizing s with
  | nil => exact .refl s
  | cons x l ih => exact (s.faultOne_alarmed x _).trans (ih _)

theorem State.spreadFaults_alarmed (n : Nat) (l : List Nat) (s : State) : s.Alarmed (s.spreadFaults n l) := by
  induction n generalizing s l with
  | zero => exact .refl s
  | succ n ih =>
    cases l with
    | nil => exact .refl s
    | cons p l => exact (State.faultAll_alarmed _ s).trans (ih _ _)

/-! ## The stations that follow (R137) -/

theorem State.faultAll_thinned (l : List Nat) (s : State) :
    s.Thinned (l.foldl (fun t q => t.faultOne q .supportFault) s) := by
  induction l generalizing s with
  | nil => exact .refl s
  | cons x l ih => exact (s.faultOne_thinned x _).trans (ih _)

theorem State.faultOne_unlisted (s : State) (a : Nat) (c : FaultCause) : (s.faultOne a c).unlisted a := by
  obtain ⟨hp, hd, hq⟩ := s.faultOne_queues a c
  refine ⟨?_, ?_, ?_⟩
  · rw [hp]; simp
  · rw [hd]; simp
  · rw [hq]; simp

/-- The record of a station that a supporter's fault takes out of its wake queue. -/
def Station.followed (q : Station) : Prop := q.state = .faulted ∧ q.fault = some .supportFault

theorem State.faultAll_follows (l : List Nat) (s : State) (nodup : l.Nodup) (hb : b ∈ l) (hr : hasRecord b) :
    ((l.foldl (fun t q => t.faultOne q .supportFault) s).st b).followed
      ∧ (l.foldl (fun t q => t.faultOne q .supportFault) s).unlisted b := by
  induction l generalizing s with
  | nil => cases hb
  | cons x l ih =>
    rw [List.nodup_cons] at nodup
    rw [List.foldl_cons]
    rcases List.mem_cons.mp hb with rfl | hb
    · rw [State.st_faultAll_other _ _ _ _ nodup.1]
      obtain ⟨x, hx⟩ := s.st_faultOne_self .supportFault hr
      exact ⟨by rw [hx]; exact ⟨rfl, rfl⟩, (State.faultAll_thinned _ _).unlisted (s.faultOne_unlisted _ _)⟩
    · exact ih _ nodup.2 hb

/-- Every WAKE_QUEUED station that the first of a work list supports follows it, and stands in no queue then. -/
theorem State.spreadFaults_follows (n : Nat) (p : Nat) (l : List Nat) (hq : q ∈ s.supported p)
    (hw : (s.st q).state = .wakeQueued) :
    ((s.spreadFaults (n + 1) (p :: l)).st q).followed ∧ (s.spreadFaults (n + 1) (p :: l)).unlisted q := by
  have known : hasRecord q := hasRecord_of_state s q (by simp [hw])
  obtain ⟨follows, unlisted⟩ := State.faultAll_follows (s.waitingOn p) s (s.waitingOn_nodup p)
    ((s.mem_waitingOn p q).mpr ⟨hq, hw⟩) known
  rw [State.spreadFaults]
  refine ⟨?_, ?_⟩
  · rw [State.st_spreadFaults_still _ _ _ _ (by rw [follows.1]; decide)]
    exact follows
  · exact (State.spreadFaults_thinned _ _ _).unlisted unlisted

theorem State.supported_congr (h : t.cfg = s.cfg) (p : Nat) : t.supported p = s.supported p := by
  simp only [State.supported, State.groupList, h]

theorem State.faultSpread_follows (c : FaultCause) (hq : q ∈ s.supported a) (hw : (s.st q).state = .wakeQueued)
    (ne : q ≠ a) : ((s.faultSpread a c).st q).followed ∧ (s.faultSpread a c).unlisted q :=
  State.spreadFaults_follows 255 a [] (by rwa [State.supported_congr (s.faultOne_kept a c).cfg])
    (by rwa [State.st_faultOne_other _ _ _ _ ne])

theorem State.st_faultSpread_self (c : FaultCause) (h : hasRecord a) : (s.faultSpread a c).st a = (s.faultOne a c).st a := by
  obtain ⟨x, hx⟩ := s.st_faultOne_self c h
  exact State.st_spreadFaults_still _ _ _ _ (by rw [hx]; exact StState.noConfusion)

/-! ## The entry -/

theorem State.enterFaulted_cases (s : State) (a : Nat) (c : FaultCause) :
    s.enterFaulted a c = s.faultSpread a c ∨ s.enterFaulted a c = (s.faultSpread a c).admissionPass := by
  unfold State.enterFaulted
  dsimp only
  split
  · exact .inr rfl
  · exact .inl rfl

/-- A station outside the queues stays as the faults left it, to the end of the step. -/
theorem State.st_enterFaulted_finish (c : FaultCause) (h : (s.faultSpread a c).unlisted b) :
    (s.enterFaulted a c).finish.st b = (s.faultSpread a c).st b := by
  rcases s.enterFaulted_cases a c with e | e
  · rw [e, State.st_finish_unlisted h]
  · rw [e, State.st_finish_unlisted ((State.admissionPass_thinned _).unlisted h),
      State.st_admissionPass_other _ _ (by rw [List.mem_append]; exact not_or.mpr h.2)]

theorem State.enterFaulted_finish_flags (s : State) (a : Nat) (c : FaultCause) :
    (s.enterFaulted a c).finish.flags = (s.faultSpread a c).flags := by
  rcases s.enterFaulted_cases a c with e | e
  · rw [e, (State.finish_quiet _).flags]
  · rw [e, (State.finish_quiet _).flags, (State.admissionPass_quiet _).flags]

/-- What an entry to FAULTED does by the end of the step. -/
structure State.Faults (s t : State) (a : Nat) (c : FaultCause) : Prop where
  self : t.st a = (s.faultOne a c).st a
  follows : ∀ q ∈ s.supported a, (s.st q).state = .wakeQueued → q ≠ a → (t.st q).followed
  alarmed : (s.faultOne a c).Alarmed t
  cport : t.cport = s.cport
  settings : s.settingsKept t
  belief : BeliefKept (s.st a) (t.st a)

theorem State.enterFaulted_faults (c : FaultCause) (h : hasRecord a) : s.Faults (s.enterFaulted a c).finish a c where
  self := by
    rw [State.st_enterFaulted_finish c ((State.spreadFaults_thinned _ _ _).unlisted (s.faultOne_unlisted a c)),
      State.st_faultSpread_self c h]
  follows q hq hw ne := by
    obtain ⟨follows, unlisted⟩ := State.faultSpread_follows c hq hw ne
    rwa [State.st_enterFaulted_finish c unlisted]
  alarmed := (State.spreadFaults_alarmed 256 [a] (s.faultOne a c)).trans
    (.of_flags (s.enterFaulted_finish_flags a c))
  cport := (State.finish_granted _).cport.trans (s.enterFaulted_kept a c).cport
  settings := (s.enterFaulted_kept a c).settingsKept.trans (State.finish_granted _).settingsKept
  belief := beliefOrder.trans ((s.enterFaulted_kept a c).st a) ((State.finish_granted _).st a)

/-! ## The phase deadlines (R122, R159) -/

theorem exec_stopTimeout (ho : s.online = true) {n : Nat} (hd : (s.st a).phaseDeadline = some n) :
    exec (.stopTimeout a) s
      = .next (if s.inPhase a .parking .coast = true ∧ n ≤ s.mono then (s.enterFaulted a .parkTimeout).finish else s) := by
  show execStopTimeout a s = _
  rw [execStopTimeout, State.whenOnline_of_online _ ho, hd]
  simp only [Bool.and_eq_true, State.reached_iff, Option.some.injEq, exists_eq_left']

theorem exec_startTimeout (ho : s.online = true) {n : Nat} (hd : (s.st a).phaseDeadline = some n) :
    exec (.startTimeout a) s
      = .next (if s.inPhase a .waking .settle = true ∧ n ≤ s.mono then (s.enterFaulted a .wakeTimeout).finish else s) := by
  show execStartTimeout a s = _
  rw [execStartTimeout, State.whenOnline_of_online _ ho, hd]
  simp only [Bool.and_eq_true, State.reached_iff, Option.some.injEq, exists_eq_left']

theorem State.inPhase_iff (x : StState) (ph : Phase) :
    s.inPhase a x ph = true ↔ (s.st a).state = x ∧ (s.st a).phase = ph := by
  simp [State.inPhase]

theorem Station.account_parkFailures (now rated : Nat) (r : Station) :
    (r.account now rated).stats.parkFailures = r.stats.parkFailures
      ∧ (r.account now rated).stats.wakeFailures = r.stats.wakeFailures
      ∧ (r.account now rated).autoExempt = r.autoExempt := by
  unfold Station.account
  split <;> exact ⟨rfl, rfl, rfl⟩

/-- What the faulted station and those it supports are by the end of the step. -/
theorem State.Faults.ended {now rated : Nat} {x : Bool} (h : s.Faults t a c)
    (self : (s.faultOne a c).st a = { Station.faultWith now rated c (s.st a) with autoExempt := x })
    (awake : (s.st a).state ≠ .wakeQueued) :
    (t.st a).state = .faulted ∧ (t.st a).fault = some c ∧ (t.st a).phase = .none
      ∧ (t.st a).phaseDeadline = none ∧ t.flags.stationFault = true
      ∧ (∀ q ∈ s.supported a, (s.st q).state = .wakeQueued →
          (t.st q).state = .faulted ∧ (t.st q).fault = some .supportFault)
      ∧ (t.st a).shadow = (s.st a).shadow ∧ (t.st a).hold = (s.st a).hold ∧ t.cport = s.cport ∧ s.settingsKept t := by
  rw [← h.self] at self
  refine ⟨by rw [self]; rfl, by rw [self]; rfl, by rw [self]; rfl, by rw [self]; rfl,
    h.alarmed.stationFault (s.faultOne_raised a c), fun q hq hw => h.follows q hq hw ?_, h.belief.shadow, h.belief.hold,
    h.cport, h.settings⟩
  rintro rfl
  exact awake hw

/-- The record of a parking station that enters FAULTED: its failure is counted, and the limit is tested (R102). -/
theorem State.faultOne_parking (c : FaultCause) (h : (s.st a).state = .parking) :
    let n := min ((s.st a).stats.parkFailures + 1) 255
    let limit := (s.pol a).failLimit ≠ 0 ∧ (s.pol a).failLimit ≤ n
    (s.faultOne a c).st a
        = { Station.faultWith s.now (s.pol a).rated c (s.st a) with autoExempt := (s.st a).autoExempt || decide limit }
      ∧ ((s.faultOne a c).st a).stats.parkFailures = n
      ∧ (limit → (s.faultOne a c).flags.parkLimit = true) := by
  intro n limit
  have known : hasRecord a := hasRecord_of_state s a (by simp [h])
  obtain ⟨account, -, exempt⟩ := Station.account_parkFailures s.now (s.pol a).rated (s.st a)
  have count : (Station.faultWith s.now (s.pol a).rated c (s.st a)).stats.parkFailures = n := by
    simp only [Station.faultWith, h, account]
    rfl
  have kept : (Station.faultWith s.now (s.pol a).rated c (s.st a)).autoExempt = (s.st a).autoExempt := by
    simp only [Station.faultWith, exempt]
  obtain ⟨record, flags⟩ := (s.faulting a c).failLimitTest_eq known
  have pol : (s.faulting a c).pol a = s.pol a :=
    State.pol_congr _ _ (by simp [State.faulting]) a
  simp only [State.st_faulting c known, pol, count] at record flags
  rw [State.faultOne_of_park (.inl h)]
  refine ⟨by rw [record, kept], by rw [record]; exact count, fun hl => ?_⟩
  rw [flags]
  simp only [Bool.or_eq_true, decide_eq_true_eq]
  exact .inr hl

/-- The record of a waking station that enters FAULTED. -/
theorem State.faultOne_waking (c : FaultCause) (h : (s.st a).state = .waking) :
    (s.faultOne a c).st a = Station.faultWith s.now (s.pol a).rated c (s.st a)
      ∧ ((s.faultOne a c).st a).stats.wakeFailures = min ((s.st a).stats.wakeFailures + 1) 255
      ∧ ((s.faultOne a c).st a).autoExempt = (s.st a).autoExempt := by
  have known : hasRecord a := hasRecord_of_state s a (by simp [h])
  obtain ⟨-, account, exempt⟩ := Station.account_parkFailures s.now (s.pol a).rated (s.st a)
  rw [State.faultOne_of_wake (by simp [h]) (by simp [h]), State.st_faulting c known]
  refine ⟨rfl, ?_, ?_⟩
  · simp only [Station.faultWith, h, account]
    rfl
  · simp only [Station.faultWith, exempt]

/-- Settles O45. -/
theorem phaseDeadlinesFault : Obligations.PhaseDeadlinesFault := by
  refine fun a n s ho hd => ⟨fun h => ?_, fun h => ?_, fun hp hn => ?_, fun hp hn => ?_⟩
  · rw [exec_stopTimeout ho hd, if_neg]
    rintro ⟨phase, due⟩
    rcases h with h | h
    · rw [phase] at h; cases h
    · omega
  · rw [exec_startTimeout ho hd, if_neg]
    rintro ⟨phase, due⟩
    rcases h with h | h
    · rw [phase] at h; cases h
    · omega
  · have state := ((s.inPhase_iff _ _).mp hp).1
    have faults := s.enterFaulted_faults .parkTimeout (hasRecord_of_state s a (by simp [state]))
    obtain ⟨self, count, limit⟩ := s.faultOne_parking .parkTimeout state
    refine ⟨_, by rw [exec_stopTimeout ho hd, if_pos ⟨hp, hn⟩], faults.ended self (by simp [state]), ?_, fun h0 hl =>
      ⟨?_, faults.alarmed.parkLimit (limit ⟨h0, hl⟩)⟩⟩
    · rw [faults.self]
      exact count
    · rw [faults.self, self]
      simp only [Bool.or_eq_true, decide_eq_true_eq]
      exact .inr ⟨h0, hl⟩
  · have state := ((s.inPhase_iff _ _).mp hp).1
    have faults := s.enterFaulted_faults .wakeTimeout (hasRecord_of_state s a (by simp [state]))
    obtain ⟨self, count, exempt⟩ := s.faultOne_waking .wakeTimeout state
    refine ⟨_, by rw [exec_startTimeout ho hd, if_pos ⟨hp, hn⟩], faults.ended self (by simp [state]), ?_, ?_⟩
    · rw [faults.self]
      exact count
    · rw [faults.self]
      exact exempt

end Sys2Proof.Machine
end


section
/-! SUPPORT. What an admission changes of a record, and the end of a step in a warm-reset drain (R146, R149, R161). -/

namespace Sys2Proof.Machine

variable {s t u : State} {a b : Nat}

/-! ## Admission of a record (R149, R151) -/

/-- What an admission makes of a WAKE_QUEUED record. -/
def Station.letIn (r q : Station) : Prop :=
  q = { r with state := .waking, phase := q.phase, attempts := 0, satisfiedAt := q.satisfiedAt }

/-- A record as it was, or admitted. -/
inductive Station.Admitted (r q : Station) : Prop
  | stays (h : q = r)
  | enters (was : r.state = .wakeQueued) (h : Station.letIn r q)

theorem Station.letIn.state {r q : Station} (h : Station.letIn r q) : q.state = .waking := congrArg Station.state h

theorem Station.Admitted.refl (r : Station) : Station.Admitted r r := .stays rfl

theorem Station.Admitted.trans {r q p : Station} (h : Station.Admitted r q) (k : Station.Admitted q p) :
    Station.Admitted r p := by
  cases h with
  | stays h => rwa [h] at k
  | enters was h =>
    cases k with
    | stays k => rw [k]; exact .enters was h
    | enters k => rw [h.state] at k; cases k

theorem Station.Admitted.demand {r q : Station} (h : Station.Admitted r q) : q.demand = r.demand := by
  cases h with
  | stays h => rw [h]
  | enters _ h =>
    rw [Station.letIn] at h
    rw [h]

theorem Station.Admitted.queued {r q : Station} (h : Station.Admitted r q) (hr : r.state ≠ .parkQueued) :
    q.state ≠ .parkQueued := by
  cases h with
  | stays h => rwa [h]
  | enters _ h => rw [h.state]; decide

theorem State.st_admitOne_self (s : State) (h : hasRecord a) : Station.letIn (s.st a) ((s.admitOne a).st a) := by
  have self : (((s.dequeue a).modSt a fun r => { r with state := .waking, phase := .warn, attempts := 0 }).st a)
      = { s.st a with state := .waking, phase := .warn, attempts := 0 } := by
    rw [State.st_modSt_self _ a _ h, State.st_dequeue]
  unfold State.admitOne Station.letIn
  rcases State.st_warnAdmitted_self
      ((s.dequeue a).modSt a fun r => { r with state := .waking, phase := .warn, attempts := 0 }) a with e | e <;>
    rw [e, self]

/-- From `s` to `t` every record that does not stand in the park queue is as it was, or admitted. -/
def State.Admits (s t : State) : Prop := ∀ b, (s.st b).state ≠ .parkQueued → Station.Admitted (s.st b) (t.st b)

theorem State.Admits.refl (s : State) : s.Admits s := fun _ _ => .refl _

theorem State.Admits.trans (h : s.Admits t) (k : t.Admits u) : s.Admits u := fun b hb =>
  (h b hb).trans (k b ((h b hb).queued hb))

theorem State.Admits.same (h : t.stations = s.stations) : s.Admits t := fun b _ => .stays (State.st_congr s t h b)

theorem State.admitOne_admits (h : (s.st a).state = .wakeQueued) : s.Admits (s.admitOne a) := fun b _ => by
  by_cases e : b = a
  · subst e
    exact .enters h (s.st_admitOne_self (hasRecord_of_state s b (by simp [h])))
  · rw [s.st_admitOne_other a b e]
    exact .refl _

theorem State.admitWalk_admits {l : List Nat} (nodup : l.Nodup) (hl : ∀ b ∈ l, (s.st b).state = .wakeQueued) :
    s.Admits (s.admitWalk l) := by
  induction l generalizing s with
  | nil => exact .refl s
  | cons a l ih =>
    obtain ⟨ha, nodup⟩ := List.nodup_cons.mp nodup
    unfold State.admitWalk
    split
    · split
      · refine (State.admitOne_admits (hl a (by simp))).trans (ih nodup fun b hb => ?_)
        rw [s.st_admitOne_other a b (fun e => ha (e ▸ hb))]
        exact hl b (by simp [hb])
      · exact .refl s
    · exact ih nodup fun b hb => hl b (by simp [hb])

theorem State.admissionPass_admits (h : s.queuesMatch) : s.Admits s.admissionPass := by
  unfold State.admissionPass
  split
  · exact .refl s
  · exact State.admitWalk_admits h.waiting_nodup fun b hb => h.mem_waiting.mp hb

theorem State.enterFree_admits (f : Station → Station) (hf : ∀ r, (f r).state = r.state) (h : s.queuesMatch)
    (ha : (s.st a).state = .parkQueued) : s.Admits (s.enterFree a f) := by
  have left : s.Admits ((s.dequeue a).modSt a fun r => f (r.freed s.now (s.pol a).rated)) := fun b hb => by
    have ne : b ≠ a := by
      rintro rfl
      exact hb ha
    rw [State.st_modSt_other _ _ _ _ ne, State.st_dequeue]
    exact .refl _
  have queues : ((s.dequeue a).modSt a fun r => f (r.freed s.now (s.pol a).rated)).queuesMatch :=
    State.queuesMatch_leave h a _ (by rw [hf]; exact ⟨StState.noConfusion, StState.noConfusion⟩)
  rcases s.enterFree_cases a f with e | e
  · rw [e]; exact left
  · rw [e]; exact left.trans (State.admissionPass_admits queues)

theorem State.leavePark_admits (a : Nat) (z : Bool) (h : s.queuesMatch) : s.Admits (s.leavePark a z) := by
  by_cases ha : (s.st a).state = .parkQueued
  · rw [State.leavePark_of_queued ha]
    exact State.enterFree_admits _ (fun r => by cases z <;> rfl) h ha
  · rw [State.leavePark_of_not_queued ha]
    exact .refl s

theorem State.startOwn_admits (c : ReqClass) (q : ReqRef) (a : Nat) (x : Body) : s.Admits (s.startOwn c q a x) :=
  .same (by rw [State.startOwn_eq])

theorem State.startExchange_admits (x : Exchange) : s.Admits (s.startExchange x) :=
  .same (by rw [State.startExchange_eq])

theorem State.arbitrate_admits (n : Nat) (h : s.queuesMatch) : s.Admits (State.arbitrate n s) := by
  induction n generalizing s with
  | zero => exact .refl s
  | succ n ih =>
    unfold State.arbitrate
    split
    · exact .refl s
    · exact .trans (t := s.markInFlight _) (.same rfl) (State.startExchange_admits _)
    · exact State.startExchange_admits _
    · exact State.startOwn_admits _ _ _ _
    · next a head =>
      split
      · have queued := h.mem_parkQ.mp (State.head_mem_parkQ head)
        refine .trans (fun b hb => ?_) (State.startOwn_admits _ _ _ _)
        have ne : b ≠ a := by
          rintro rfl
          exact hb queued
        rw [State.st_startPark_other ne]
        exact .refl _
      · exact (State.leavePark_admits a false h).trans (ih (State.leavePark_fared a false h).queues)
    · exact State.startOwn_admits _ _ _ _

theorem State.finish_admits (h : s.queuesMatch) : s.Admits s.finish := by
  have mode : s.Admits s.modeCheck := .same (by rw [State.modeCheck_eq])
  unfold State.finish
  dsimp only
  split
  · exact mode.trans (State.arbitrate_admits _ (State.modeCheck_fared h).queues)
  · exact mode

/-! ## The end of a step in a drain (R47, R63, R161) -/

theorem State.arbitrate_draining (n : Nat) (h : s.draining = true) :
    State.arbitrate n s
      = { s with
          master := (State.arbitrate n s).master, fport := (State.arbitrate n s).fport
          fwd := (State.arbitrate n s).fwd } := by
  cases n with
  | zero => rfl
  | succ n =>
    unfold State.arbitrate
    split
    · rfl
    · rw [State.startExchange_eq]; rfl
    · rw [State.startExchange_eq]
    · rw [State.startOwn_eq]
    · next a ha =>
      have g := State.arbitration_g ha
      simp only [State.pickG, h] at g
      cases g
    · rw [State.startOwn_eq]

theorem State.finish_draining (h : s.draining = true) :
    s.finish
      = { s with
          master := s.finish.master, fport := s.finish.fport, fwd := s.finish.fwd, mode := s.modeCheck.mode } := by
  unfold State.finish
  dsimp only
  split
  · have line := State.arbitrate_draining (s := s.modeCheck) (s.modeCheck.parkQ.length + 1)
      (by rw [State.modeCheck_eq]; exact h)
    generalize State.arbitrate (s.modeCheck.parkQ.length + 1) s.modeCheck = v at line ⊢
    rw [line, State.modeCheck_eq s]
  · rw [State.modeCheck_eq s]

end Sys2Proof.Machine
end


section
/-! SUPPORT. The walk of a scheduled wake from station to supporter, and WAKE_DUE_EXPIRY (R134, R137, R143, R172). -/

namespace Sys2Proof.Machine

open Station (BeliefKept HoldKept beliefOrder)

variable {s t u : State} {a b p : Nat} {seen work l : List Nat}

theorem State.chainWalk_nil (s : State) (n : Nat) : s.chainWalk n [] = s := by cases n <;> rfl

/-! ## One walk with no fault met -/

/-- From `s` to `u` the stations of `seen` have joined the tail of the scheduled queue in their order, and no other
record or queue has changed. -/
structure State.Joined (s u : State) (seen : List Nat) : Prop where
  queues : u.queuesMatch
  cfg : u.cfg = s.cfg
  schedQ : u.schedQ = s.schedQ ++ seen
  demandQ : u.demandQ = s.demandQ
  waits : ∀ b ∈ seen, (u.st b).state = .wakeQueued
  other : ∀ b, b ∉ seen → u.st b = s.st b

theorem State.Joined.nodup (h : s.Joined u seen) : seen.Nodup := by
  have all := h.queues.waiting_nodup
  rw [h.schedQ] at all
  exact ((List.nodup_append.mp (List.nodup_append.mp all).2.1).2.1)

theorem State.Joined.length_le (h : s.Joined u seen) : seen.length ≤ 127 := by
  have sub : seen ⊆ addresses := fun b hb =>
    (mem_addresses b).mpr (hasRecord_of_state u b (by simp [h.waits b hb]))
  exact (List.subperm_of_subset h.nodup sub).length_le

theorem State.Joined.not_demand (h : s.Joined u seen) (hb : b ∈ seen) : b ∉ u.demandQ := fun hd => by
  have all := h.queues.waiting_nodup
  rw [h.schedQ] at all
  exact (List.nodup_append.mp all).2.2 b hd b (List.mem_append_right _ hb) rfl

theorem State.Joined.join (h : s.Joined u seen) (hp : (s.st p).state = .parked) (hs : p ∉ seen) :
    s.Joined (u.joinQueue p .scheduled) (seen ++ [p]) := by
  have parked : (u.st p).state = .parked := by rw [h.other p hs, hp]
  obtain ⟨-, demand, sched⟩ := u.joinQueue_queues p .scheduled
  refine ⟨(State.joinQueue_fared .scheduled h.queues parked).queues, (u.joinQueue_kept p .scheduled).cfg.trans h.cfg, ?_,
    demand.trans h.demandQ, fun b hb => ?_, fun b hb => ?_⟩
  · rw [sched, if_pos rfl, h.schedQ, List.append_assoc]
  · by_cases e : b = p
    · subst e
      rw [State.st_joinQueue_self .scheduled (hasRecord_of_state u b (by simp [parked]))]
    · rw [u.st_joinQueue_other p b _ e]
      exact h.waits b ((List.mem_append.mp hb).resolve_right (by simpa using e))
  · rw [List.mem_append, not_or, List.mem_singleton] at hb
    rw [u.st_joinQueue_other p b _ hb.2, h.other b hb.1]

/-- The supporters that a walk which has seen `seen` finds among `l` (R134). -/
def State.finds (s : State) (seen l : List Nat) : List Nat :=
  l.filter fun p => (s.st p).state = .parked && !seen.contains p

theorem State.walkOrder_cons (n : Nat) (rest : List Nat) :
    s.walkOrder (n + 1) (a :: rest) seen
      = s.walkOrder n (rest ++ s.finds seen (s.liveSupporters a)) (seen ++ s.finds seen (s.liveSupporters a)) := rfl

theorem State.finds_append (h : p ∉ l) : s.finds (seen ++ [p]) l = s.finds seen l := by
  refine List.filter_congr fun x hx => ?_
  have ne : x ≠ p := fun e => h (e ▸ hx)
  simp [ne]

theorem State.chainOne_parked (h : (s.st p).state = .parked) :
    s.chainOne .scheduled p = (s.joinQueue p .scheduled, true) := by
  simp only [State.chainOne, h]

theorem State.chainOne_unparked (h : (s.st p).state ≠ .parked) : s.chainOne .scheduled p = (s, false) := by
  unfold State.chainOne
  split
  · exact absurd ‹_› h
  · exact if_neg (by simp)
  · rfl

/-- The supporters of one station join in turn. -/
theorem State.Joined.chainAll (h : s.Joined u seen) (nodup : l.Nodup) :
    (u.chainAll .scheduled l).2 = s.finds seen l
      ∧ s.Joined (u.chainAll .scheduled l).1 (seen ++ s.finds seen l) := by
  induction l generalizing u seen with
  | nil => exact ⟨rfl, by simpa [State.finds, State.chainAll] using h⟩
  | cons p l ih =>
    obtain ⟨hpl, nodup⟩ := List.nodup_cons.mp nodup
    by_cases hp : (s.st p).state = .parked ∧ p ∉ seen
    · have parked : (u.st p).state = .parked := by rw [h.other p hp.2, hp.1]
      obtain ⟨found, joined⟩ := ih (h.join hp.1 hp.2) nodup
      have cons : s.finds seen (p :: l) = p :: s.finds seen l := by simp [State.finds, hp.1, hp.2]
      rw [State.finds_append hpl] at found joined
      simp only [State.chainAll, State.chainOne_parked parked, found, cons, if_true, true_and]
      rwa [List.append_assoc] at joined
    · have unparked : (u.st p).state ≠ .parked := by
        by_cases hs : p ∈ seen
        · rw [h.waits p hs]; decide
        · rw [h.other p hs]; exact fun k => hp ⟨k, hs⟩
      have cons : s.finds seen (p :: l) = s.finds seen l := by
        refine List.filter_cons_of_neg fun k => hp ?_
        simpa using k
      obtain ⟨found, joined⟩ := ih h nodup
      simp only [State.chainAll, State.chainOne_unparked unparked, cons]
      exact ⟨found, joined⟩

theorem State.liveSupporters_nodup (s : State) (a : Nat) : (s.liveSupporters a).Nodup :=
  (addresses_nodup.filter _).filter _

/-- The walk follows its order as long as none of the stations reached has a FAULTED supporter. -/
theorem State.Joined.chainWalk (calm : ∀ b, s.chained a b → ∀ p ∈ s.liveSupporters b, (s.st p).state ≠ .faulted)
    (n m : Nat) (h : s.Joined u seen) (hw : ∀ x ∈ work, x ∈ seen ∧ s.chained a x)
    (hn : work.length + 127 ≤ n + seen.length) (hm : work.length + 127 ≤ m + seen.length) :
    s.Joined (u.chainWalk n work) (s.walkOrder m work seen) := by
  have room := h.length_le
  induction n generalizing m work seen u with
  | zero =>
    obtain rfl : work = [] := List.eq_nil_of_length_eq_zero (by omega)
    cases m <;> exact h
  | succ n ih =>
    cases work with
    | nil =>
      rw [State.chainWalk_nil]
      cases m <;> exact h
    | cons x rest =>
      rw [List.length_cons] at hn hm
      obtain ⟨m, rfl⟩ : ∃ k, m = k + 1 := ⟨m - 1, by omega⟩
      obtain ⟨seenx, reached⟩ := hw x (List.mem_cons_self ..)
      have live : u.liveSupporters x = s.liveSupporters x := State.liveSupporters_congr h.cfg x
      have unfaulted : ¬ u.faultedSupporter x = true := by
        rw [State.faultedSupporter, live, List.any_eq_true]
        rintro ⟨p, hp, hf⟩
        rw [decide_eq_true_eq] at hf
        by_cases hs : p ∈ seen
        · rw [h.waits p hs] at hf; cases hf
        · rw [h.other p hs] at hf; exact calm x reached p hp hf
      obtain ⟨found, joined⟩ := h.chainAll (s.liveSupporters_nodup x)
      have step : u.chainWalk (n + 1) (x :: rest)
          = (u.chainAll .scheduled (s.liveSupporters x)).1.chainWalk n (rest ++ s.finds seen (s.liveSupporters x)) := by
        conv_lhs => unfold State.chainWalk
        rw [if_neg (by simp [h.waits x seenx]), if_neg unfaulted, State.queueOf_scheduled (h.not_demand seenx), live,
          ← found]
      rw [step, State.walkOrder_cons]
      refine ih m joined (fun y hy => ?_) ?_ ?_ joined.length_le
      · rcases List.mem_append.mp hy with hy | hy
        · exact ⟨List.mem_append_left _ (hw y (List.mem_cons_of_mem x hy)).1, (hw y (List.mem_cons_of_mem x hy)).2⟩
        · refine ⟨List.mem_append_right _ hy, reached.tail ?_⟩
          obtain ⟨hl, hy⟩ := List.mem_filter.mp hy
          rw [Bool.and_eq_true, decide_eq_true_eq] at hy
          exact ⟨hl, hy.1⟩
      · simp only [List.length_append]; omega
      · simp only [List.length_append]; omega

/-! ## The first station of a walk -/

/-- A station that has left PARKED for a wake: queued, admitted or faulted, with no wake-due time and no park mark. -/
def Station.LeftPark (q : Station) : Prop := q.state.woken ∧ q.wakeDue = none ∧ q.parkMark = none

theorem Station.LeftPark.fared {r q : Station} (h : Station.LeftPark r) (k : Station.Fared r q) : Station.LeftPark q :=
  ⟨k.woken h.1, k.wakeDue h.1 h.2.1, k.parkMark h.1 h.2.2⟩

theorem State.joinQueue_leftPark (q : Priority) (h : hasRecord a) : Station.LeftPark ((s.joinQueue a q).st a) := by
  rw [State.st_joinQueue_self q h]
  exact ⟨.inl rfl, rfl, rfl⟩

theorem State.chainAll_leftPark (l : List Nat) (h : s.queuesMatch) (hp : p ∈ l) (parked : (s.st p).state = .parked) :
    Station.LeftPark ((s.chainAll .scheduled l).1.st p) := by
  induction l generalizing s with
  | nil => cases hp
  | cons x l ih =>
    simp only [State.chainAll]
    by_cases e : p = x
    · subst e
      rw [State.chainOne_parked parked]
      exact (s.joinQueue_leftPark .scheduled (hasRecord_of_state s p (by simp [parked]))).fared
        ((State.chainAll_fared _ _ (State.joinQueue_fared .scheduled h parked).queues).st p)
    · refine ih (State.chainOne_fared _ _ h).queues ((List.mem_cons.mp hp).resolve_left e) ?_
      rw [State.st_chainOne_other _ _ e, parked]

theorem State.afterEntry_of_faulted (hw : (s.st a).state = .wakeQueued) (hf : s.faultedSupporter a = true) :
    s.afterEntry a = s.faultSpread a .supportFault := by
  rw [State.afterEntry, State.chainWalk, if_neg (by simp [hw]), if_pos hf, State.chainWalk_nil]

theorem State.afterEntry_of_calm (hw : (s.st a).state = .wakeQueued) (hf : ¬ s.faultedSupporter a = true)
    (hd : a ∉ s.demandQ) :
    s.afterEntry a = (s.chainAll .scheduled (s.liveSupporters a)).1.chainWalk 255
      (s.chainAll .scheduled (s.liveSupporters a)).2 := by
  rw [State.afterEntry, State.chainWalk, if_neg (by simp [hw]), if_neg hf, State.queueOf_scheduled hd]
  rfl

theorem State.faultedSupporter_iff :
    s.faultedSupporter a = true ↔ ∃ p ∈ s.liveSupporters a, (s.st p).state = .faulted := by
  simp [State.faultedSupporter]

/-- The state after WAKE_DUE_EXPIRY of a PARKED station has put it in the scheduled queue. -/
def State.expired (s : State) (a : Nat) : State :=
  (s.modSt a fun r => { r with wakeDue := none }).joinQueue a .scheduled

theorem State.expired_joined (h : s.queuesMatch) (hp : (s.st a).state = .parked) : s.Joined (s.expired a) [a] := by
  have cleared : (s.modSt a fun r => { r with wakeDue := none }).queuesMatch :=
    State.queuesMatch_modSt h a _ (.inl rfl)
  have parked : ((s.modSt a fun r => { r with wakeDue := none }).st a).state = .parked := by
    rw [State.st_modSt_self _ a _ (hasRecord_of_state s a (by simp [hp]))]
    exact hp
  obtain ⟨-, demand, sched⟩ := (s.modSt a fun r => { r with wakeDue := none }).joinQueue_queues a .scheduled
  refine ⟨(State.joinQueue_fared .scheduled cleared parked).queues, ?_, ?_, ?_, fun b hb => ?_, fun b hb => ?_⟩
  · exact ((State.modSt _ a _).joinQueue_kept a .scheduled).cfg.trans (by simp)
  · exact sched.trans (by simp)
  · exact demand.trans (by simp)
  · obtain rfl := List.mem_singleton.mp hb
    rw [State.expired, State.st_joinQueue_self .scheduled (hasRecord_of_state s b (by simp [hp]))]
  · have ne : b ≠ a := fun e => hb (by simp [e])
    rw [State.expired, State.st_joinQueue_other _ a b _ ne, State.st_modSt_other _ a b _ ne]

/-- The record that joined. -/
theorem State.expired_self (hp : (s.st a).state = .parked) :
    Station.LeftPark ((s.expired a).st a) ∧ ((s.expired a).st a).demand = (s.st a).demand := by
  have known : hasRecord a := hasRecord_of_state s a (by simp [hp])
  refine ⟨State.joinQueue_leftPark .scheduled known, ?_⟩
  rw [State.expired, State.st_joinQueue_self .scheduled known, State.st_modSt_self _ a _ known]
  simp

theorem exec_wakeDueExpiry {n : Nat} (ho : s.online = true) (hd : (s.st a).wakeDue = some n) :
    exec (.wakeDueExpiry a) s = .next (if n ≤ s.mono then (s.expireWakeDue a).finish else s) := by
  show execWakeDueExpiry a s = _
  rw [execWakeDueExpiry, State.whenOnline_of_online _ ho, hd]
  simp only [State.reached_iff, Option.some.injEq, exists_eq_left']

theorem State.expireWakeDue_of_due {n : Nat} (hd : (s.st a).wakeDue = some n) (hn : n ≤ s.mono) :
    s.expireWakeDue a = (s.modSt a fun r => { r with wakeDue := none }).takeWake a .scheduled := by
  simp only [State.expireWakeDue, hd]
  exact if_pos hn

theorem State.expireWakeDue_parked {n : Nat} (hd : (s.st a).wakeDue = some n) (hn : n ≤ s.mono)
    (hp : (s.st a).state = .parked) : s.expireWakeDue a = ((s.expired a).afterEntry a).admissionPass := by
  have parked : ((s.modSt a fun r => { r with wakeDue := none }).st a).state = .parked := by
    rw [State.st_modSt_self _ a _ (hasRecord_of_state s a (by simp [hp]))]
    exact hp
  rw [State.expireWakeDue_of_due hd hn, State.takeWake_of_parked _ parked]
  rfl

/-! ## WAKE_DUE_EXPIRY -/

/-- What the walk of a station's expired wake-due time leaves, to the end of the step: `w` after the walk. -/
structure State.Expires (s w t : State) (a : Nat) : Prop where
  walk : w = (s.expired a).afterEntry a
  joined : s.Joined (s.expired a) [a]
  walked : (s.expired a).Fared w
  ended : w.Fared t
  admits : w.Admits t
  unfaulted : w.Unfaulted t
  unlisted : ∀ b, w.unlisted b → t.st b = w.st b
  belief : ∀ b, BeliefKept (s.st b) (t.st b)
  cport : t.cport = s.cport
  settings : s.settingsKept t

theorem State.expires {n : Nat} (hq : s.queuesMatch) (hd : (s.st a).wakeDue = some n) (hn : n ≤ s.mono)
    (hp : (s.st a).state = .parked) : s.Expires ((s.expired a).afterEntry a) (s.expireWakeDue a).finish a := by
  have joined := State.expired_joined hq hp
  have walked := State.afterEntry_fared a joined.queues
  have passed := State.admissionPass_fared walked.queues
  have kept := s.expireWakeDue_kept a
  have granted := State.finish_granted (s.expireWakeDue a)
  have eq := State.expireWakeDue_parked hd hn hp
  refine ⟨rfl, joined, walked, ?_, ?_, ?_, fun b hb => ?_, fun b => beliefOrder.trans (kept.st b) (granted.st b),
    granted.cport.trans kept.cport, kept.settingsKept.trans granted.settingsKept⟩
  · rw [eq]
    exact passed.trans (State.finish_fared passed.queues)
  · rw [eq]
    exact (State.admissionPass_admits walked.queues).trans (State.finish_admits passed.queues)
  · rw [eq]
    exact State.admissionPass_unfaulted.trans State.finish_unfaulted
  · rw [eq, State.st_finish_unlisted ((State.admissionPass_thinned _).unlisted hb),
      State.st_admissionPass_other _ _ (by rw [List.mem_append]; exact not_or.mpr hb.2)]

variable {w : State}

theorem State.Expires.others (h : s.Expires w t a) (hb : b ≠ a) : (s.expired a).st b = s.st b :=
  h.joined.other b (by simpa using hb)

theorem State.Expires.waits (h : s.Expires w t a) : ((s.expired a).st a).state = .wakeQueued :=
  h.joined.waits a (by simp)

theorem State.Expires.live (h : s.Expires w t a) : (s.expired a).liveSupporters a = s.liveSupporters a :=
  State.liveSupporters_congr h.joined.cfg a

/-- A FAULTED supporter faults the station (R137). -/
theorem State.Expires.faulted (h : s.Expires w t a) (hp : (s.st a).state = .parked)
    (hf : ∃ p ∈ s.liveSupporters a, (s.st p).state = .faulted) :
    (t.st a).state = .faulted ∧ (t.st a).fault = some .supportFault := by
  obtain ⟨p, hl, hf⟩ := hf
  have ne : p ≠ a := by
    rintro rfl
    rw [hp] at hf
    cases hf
  have known : hasRecord a := hasRecord_of_state s a (by simp [hp])
  have walk := h.walk.trans (State.afterEntry_of_faulted h.waits
    (State.faultedSupporter_iff.mpr ⟨p, h.live ▸ hl, by rwa [h.others ne]⟩))
  rw [h.unlisted a (by
    rw [walk]
    exact (State.spreadFaults_thinned _ _ _).unlisted ((s.expired a).faultOne_unlisted a _)),
    walk, State.st_faultSpread_self _ known]
  obtain ⟨x, hx⟩ := (s.expired a).st_faultOne_self .supportFault known
  rw [hx]
  exact ⟨rfl, rfl⟩

/-- With none FAULTED its PARKED supporters leave PARKED. -/
theorem State.Expires.supporter (h : s.Expires w t a) (hp : (s.st a).state = .parked)
    (calm : ∀ p ∈ s.liveSupporters a, (s.st p).state ≠ .faulted) (hl : p ∈ s.liveSupporters a)
    (parked : (s.st p).state = .parked) : Station.LeftPark (t.st p) := by
  by_cases e : p = a
  · subst e
    exact ((State.expired_self hp).1.fared (h.walked.st p)).fared (h.ended.st p)
  have unfaulted : ¬ (s.expired a).faultedSupporter a = true := by
    rw [State.faultedSupporter_iff, h.live]
    rintro ⟨q, hq, hf⟩
    by_cases e : q = a
    · rw [e, h.waits] at hf; cases hf
    · rw [h.others e] at hf; exact calm q hq hf
  have walk := h.walk.trans (State.afterEntry_of_calm h.waits unfaulted (h.joined.not_demand (by simp)))
  have parked' : ((s.expired a).st p).state = .parked := by rw [h.others e, parked]
  have left := State.chainAll_leftPark _ h.joined.queues (h.live.symm ▸ hl) parked'
  refine (left.fared ?_).fared (h.ended.st p)
  rw [walk]
  exact (State.chainWalk_fared _ _ (State.chainAll_fared _ _ h.joined.queues).queues).st p

/-- A PARKED station that the walk does not reach. -/
theorem State.Expires.unreached (h : s.Expires w t a) (hp : (s.st b).state = .parked) (hb : ¬ s.chained a b) :
    t.st b = s.st b := by
  have ne : b ≠ a := fun e => hb (e ▸ .refl)
  have closed : (s.expired a).encloses (s.chained a) := fun x y hx hy hs => by
    by_cases e : y = a
    · exact e ▸ .refl
    · rw [State.liveSupporters_congr h.joined.cfg] at hy
      rw [h.others e] at hs
      exact Relation.ReflTransGen.tail hx ⟨hy, hs⟩
  have same : w.st b = s.st b := by
    rw [h.walk, State.afterEntry, State.st_chainWalk_unreached 256 [a] _ h.joined.queues closed (fun x hx => ?_) hb
      (by rwa [h.others ne]), h.others ne]
    rw [List.mem_singleton.mp hx]
    exact ⟨.refl, h.joined.not_demand (by simp)⟩
  rw [h.unlisted b (h.walked.queues.unlisted (by rw [same, hp]; exact ⟨by decide, by decide⟩)), same]

/-- In a drain the walk is the whole of it (R161). -/
theorem State.Expires.drained (h : s.Expires w t a) (ht : t = (w.admissionPass).finish) (hdr : w.draining = true)
    (calm : ∀ b, s.chained a b → ∀ p ∈ s.liveSupporters b, (s.st p).state ≠ .faulted) :
    t.schedQ = s.schedQ ++ s.walkOrder 128 [a] [a] ∧ t.demandQ = s.demandQ
      ∧ ∀ b ∈ s.walkOrder 128 [a] [a], (t.st b).state = .wakeQueued := by
  have order : s.Joined w (s.walkOrder 128 [a] [a]) := by
    rw [h.walk]
    refine State.Joined.chainWalk calm 256 128 h.joined (fun x hx => ?_) (by simp) (by simp)
    exact ⟨hx, List.mem_singleton.mp hx ▸ .refl⟩
  have line : t = { w with master := t.master, fport := t.fport, fwd := t.fwd, mode := t.mode } := by
    rw [show w.admissionPass = w from if_pos hdr] at ht
    rw [ht, State.finish_draining hdr]
  have same (b : Nat) : t.st b = w.st b := State.st_congr _ _ (by rw [line]) b
  refine ⟨?_, ?_, fun b hb => by rw [same]; exact order.waits b hb⟩
  · rw [line]; exact order.schedQ
  · rw [line]; exact order.demandQ

/-- Settles O47. -/
theorem wakeDueExpiryWakesParked : Obligations.WakeDueExpiryWakesParked := by
  refine fun a n s ho hd hq => ⟨fun hn => ?_, fun hn hp => ?_, fun hn hp => ?_⟩
  · rw [exec_wakeDueExpiry ho hd, if_neg (Nat.not_le.mpr hn)]
  · have known : hasRecord a := by
      by_contra none
      rw [State.st_none s a none] at hd
      cases hd
    rw [exec_wakeDueExpiry ho hd, if_pos hn, State.expireWakeDue_of_due hd hn, State.takeWake_scheduled]
    rw [State.st_modSt_self _ a _ known]
    exact hp
  · have ends := State.expires hq hd hn hp
    have eq := State.expireWakeDue_parked hd hn hp
    have kept := s.expireWakeDue_kept a
    have left := ((State.expired_self hp).1.fared (ends.walked.st a)).fared (ends.ended.st a)
    refine ⟨_, by rw [exec_wakeDueExpiry ho hd, if_pos hn], left.2.1, left.2.2, left.1, fun alone => ?_,
      fun calm hdr => ?_, ends.faulted hp, fun calm p hl parked => ends.supporter hp calm hl parked,
      fun b hb hc => ends.unreached hb hc, fun b hb => ?_, fun busy b hc hb => ?_, (ends.belief a).hold, ends.cport,
      ends.settings⟩
    · have walk := State.afterEntry_of_no_supporters (ends.live.trans alone)
      have waits := ends.waits
      rw [← walk] at waits
      refine ⟨fun f => ?_, ?_⟩
      · have before := ends.unfaulted a f
        rw [waits] at before
        cases before
      · rw [(ends.admits a (by rw [waits]; decide)).demand, walk]
        exact (State.expired_self hp).2
    · have drains : ((s.expired a).afterEntry a).draining = true := by
        rw [((s.expired a).afterEntry_kept a).draining, State.expired, (State.joinQueue_kept _ _ _).draining]
        simpa [State.draining] using hdr
      exact ends.drained (by rw [eq]) drains calm
    · have ne : b ≠ a := by
        rintro rfl
        rw [hp] at hb
        cases hb
      refine (ends.ended.st b).woken ((ends.walked.st b).woken ?_)
      rw [ends.others ne, hb]
      exact .inl rfl
    · by_cases parked : (s.st b).state = .parked
      · exact ends.unreached parked hc
      · rw [State.st_congr _ _ (State.finish_stations (.inr (by rw [kept.master]; exact busy)))]
        have ne : b ≠ a := fun e => hc (e ▸ .refl)
        have walk : ((s.expired a).afterEntry a).st b = s.st b := by
          rw [State.st_afterEntry_still _ (by rw [ends.others ne]; exact ⟨parked, hb⟩), ends.others ne]
        rw [eq, State.st_admissionPass_other _ _ (fun m => hb ?_), walk]
        have waits := ends.walked.queues.mem_waiting.mp m
        rwa [walk] at waits

end Sys2Proof.Machine
end


section
/-! SUPPORT. An admission pass as a whole: which entries it admits, and the sounding it starts (R145 to R151). -/

namespace Sys2Proof.Machine

open Station (BeliefKept HoldKept beliefOrder)

variable {s t u : State} {a b z : Nat} {l done : List Nat}

/-! ## Readiness and room (R145, R146) -/

theorem Station.recentStarts_eq (now : Nat) (r : Station) :
    r.recentStarts now = r.starts.filter (fun n => now ≤ n + 3600000) := rfl

theorem State.minOffOver_iff :
    s.minOffOver a = true ↔ ∀ p, (s.st a).parkedSince = some p → (s.pol a).minOff * 1000 ≤ s.mono - p := by
  unfold State.minOffOver
  cases (s.st a).parkedSince with
  | none => simp
  | some p => exact ⟨fun h q hq => Option.some.inj hq ▸ of_decide_eq_true h, fun h => decide_eq_true (h p rfl)⟩

theorem State.startsBelow_iff :
    s.startsBelow a = true
      ↔ (s.pol a).startsLimit = 0
        ∨ ((s.st a).starts.filter (fun n => s.mono ≤ n + 3600000)).length < (s.pol a).startsLimit := by
  rw [State.startsBelow, Bool.or_eq_true]
  exact or_congr decide_eq_true_iff decide_eq_true_iff

theorem State.readyByGroups_iff :
    s.readyByGroups a = true ↔ ∀ p ∈ s.supporters a, (s.pol p).cls = .absent ∨ (s.st p).state = .free := by
  simp only [State.readyByGroups, State.liveSupporters, List.all_eq_true, List.mem_filter, bne_iff_ne,
    decide_eq_true_eq, and_imp]
  exact forall_congr' fun p => forall_congr' fun _ => Decidable.or_iff_not_imp_left.symm

theorem State.mayWake_iff :
    s.mayWake a = true ↔ s.minOffOver a = true ∧ s.startsBelow a = true ∧ s.readyByGroups a = true := by
  rw [State.minOffOver_iff, State.startsBelow_iff, State.readyByGroups_iff]
  unfold State.mayWake
  simp only [Bool.and_eq_true, Bool.or_eq_true, decide_eq_true_eq, Option.all_eq_true, List.all_eq_true, and_assoc]

theorem State.ready_eq : s.ready a = s.mayWake a := by
  rw [Bool.eq_iff_iff, State.mayWake_iff]
  simp [State.ready, and_assoc]

theorem State.fits_iff : s.fits a = true ↔ s.inrush + (s.pol a).weight ≤ s.cfg.params.budget ∨ s.anyWaking = false := by
  simp [State.fits]

/-- The inrush with one station more, which was not WAKING. -/
theorem State.inrush_add (known : hasRecord a) (was : (s.st a).state ≠ .waking) (is : (t.st a).state = .waking)
    (pol : ∀ b, t.pol b = s.pol b) (other : ∀ b, b ≠ a → (t.st b).state = (s.st b).state) :
    t.inrush = s.inrush + (s.pol a).weight := by
  have rest : ((addresses.erase a).map fun b => inrushOf (t.st b).state (t.pol b).weight)
      = (addresses.erase a).map fun b => inrushOf (s.st b).state (s.pol b).weight :=
    List.map_congr_left fun b hb => by rw [pol, other b ((addresses_nodup.mem_erase_iff.mp hb).1)]
  rw [State.inrush_eq_sum, State.inrush_eq_sum, ← List.sum_map_erase _ ((mem_addresses a).mpr known),
    ← List.sum_map_erase (fun b => inrushOf (s.st b).state (s.pol b).weight) ((mem_addresses a).mpr known), rest, pol]
  simp only [inrushOf, is, was, if_true, if_false]
  omega

theorem State.anyWaking_of (h : (s.st a).state = .waking) : s.anyWaking = true := s.anyWaking_iff.mpr ⟨a, h⟩

/-! ## The walk (R146) -/

/-- From `s` to `u` the WAKE_QUEUED stations of `done` have been admitted, and no other record has changed. -/
structure State.Letting (s u : State) (done : List Nat) : Prop where
  mono : u.mono = s.mono
  cfg : u.cfg = s.cfg
  demandQ : u.demandQ = s.demandQ.filter fun b => b ∉ done
  schedQ : u.schedQ = s.schedQ.filter fun b => b ∉ done
  waited : ∀ b ∈ done, (s.st b).state = .wakeQueued
  entered : ∀ b ∈ done, Station.letIn (s.st b) (u.st b)
  other : ∀ b, b ∉ done → u.st b = s.st b

theorem State.Letting.refl (s : State) : s.Letting s [] :=
  ⟨rfl, rfl, by simp, by simp, by simp, by simp, fun _ _ => rfl⟩

theorem State.Letting.state_iff (h : s.Letting u done) {x : StState} (hw : x ≠ .wakeQueued) (hx : x ≠ .waking) :
    (u.st b).state = x ↔ (s.st b).state = x := by
  by_cases hb : b ∈ done
  · rw [(h.entered b hb).state, h.waited b hb]
    exact ⟨fun e => absurd e.symm hx, fun e => absurd e.symm hw⟩
  · rw [h.other b hb]

theorem State.Letting.mayWake (h : s.Letting u done) (ha : a ∉ done) : u.mayWake a = s.mayWake a := by
  have pol (b : Nat) : u.pol b = s.pol b := State.pol_congr _ _ h.cfg b
  have supporters : u.supporters a = s.supporters a := State.supporters_congr h.cfg a
  have free (p : Nat) : (u.st p).state = .free ↔ (s.st p).state = .free := h.state_iff (by decide) (by decide)
  simp only [State.mayWake, h.other a ha, pol, supporters, h.mono, free]

theorem State.Letting.enter (h : s.Letting u done) (hw : (s.st a).state = .wakeQueued) (ha : a ∉ done) :
    s.Letting (u.admitOne a) (done ++ [a]) := by
  have known : hasRecord a := hasRecord_of_state s a (by simp [hw])
  have kept := u.admit_kept a
  have filters (q : List Nat) : (q.filter fun b => b ∉ done).filter (· != a) = q.filter fun b => b ∉ done ++ [a] := by
    rw [List.filter_filter]
    refine List.filter_congr fun b _ => ?_
    by_cases e : b = a <;> simp [e]
  refine ⟨kept.mono.trans h.mono, kept.cfg.trans h.cfg, ?_, ?_, fun b hb => ?_, fun b hb => ?_, fun b hb => ?_⟩
  · rw [State.admitOne_demandQ, h.demandQ, filters]
  · rw [State.admitOne_schedQ, h.schedQ, filters]
  · rcases List.mem_append.mp hb with hb | hb
    · exact h.waited b hb
    · rw [List.mem_singleton.mp hb, hw]
  · by_cases e : b = a
    · subst e
      have self := u.st_admitOne_self known
      rwa [h.other b ha] at self
    · rw [u.st_admitOne_other a b e]
      exact h.entered b ((List.mem_append.mp hb).resolve_right (by simpa using e))
  · rw [List.mem_append, not_or, List.mem_singleton] at hb
    rw [u.st_admitOne_other a b hb.2, h.other b hb.1]

/-- The walk admits what R146's walk over the entries lets in. -/
theorem State.Letting.walk (h : s.Letting u done) (nodup : l.Nodup)
    (hl : ∀ b ∈ l, (s.st b).state = .wakeQueued ∧ b ∉ done) :
    s.Letting (u.admitWalk l) (done ++ s.letIn u.inrush u.anyWaking l) := by
  induction l generalizing u done with
  | nil => simpa [State.admitWalk, State.letIn] using h
  | cons a l ih =>
    obtain ⟨hal, nodup⟩ := List.nodup_cons.mp nodup
    obtain ⟨hw, ha⟩ := hl a (List.mem_cons_self ..)
    have later (b : Nat) (hb : b ∈ l) := hl b (List.mem_cons_of_mem a hb)
    have pol (b : Nat) : u.pol b = s.pol b := State.pol_congr _ _ h.cfg b
    rw [State.admitWalk, State.letIn, State.ready_eq, h.mayWake ha]
    cases hm : s.mayWake a with
    | false =>
      rw [if_neg (by simp), if_pos rfl]
      exact ih h nodup later
    | true =>
      rw [if_pos rfl, if_neg (show ¬ true = false by decide)]
      have room : u.fits a = true
          ↔ u.inrush + (s.pol a).weight ≤ s.cfg.params.budget ∨ u.anyWaking = false := by
        rw [State.fits_iff, pol, h.cfg]
      by_cases hf : u.fits a = true
      · rw [if_pos hf, if_pos (room.mp hf)]
        have known : hasRecord a := hasRecord_of_state s a (by simp [hw])
        have waking := u.admitOne_state a known
        have inrush : (u.admitOne a).inrush = u.inrush + (s.pol a).weight := by
          rw [← pol]
          exact State.inrush_add known (by rw [h.other a ha, hw]; decide) waking (u.admit_kept a).pol
            fun b hb => by rw [u.st_admitOne_other a b hb]
        have rest := ih (h.enter hw ha) nodup fun b hb =>
          ⟨(later b hb).1, by
            rw [List.mem_append, not_or, List.mem_singleton]
            exact ⟨(later b hb).2, fun e => hal (e ▸ hb)⟩⟩
        rw [inrush, State.anyWaking_of waking] at rest
        rwa [List.append_assoc] at rest
      · rw [if_neg hf, if_neg (fun k => hf (room.mpr k)), List.append_nil]
        exact h

/-! ## The warning of an admission (R151) -/

theorem State.warnAdmitted_satisfied (h : (s.zoneCfg (s.pol a).zone).warnTime = 0
      ∨ ((s.zone (s.pol a).zone).sounding = none ∧ s.mono < (s.zone (s.pol a).zone).warnedUntil)) :
    s.warnAdmitted a = s.satisfy a s.mono := by
  unfold State.warnAdmitted
  dsimp only
  by_cases hw : (s.zoneCfg (s.pol a).zone).warnTime = 0
  · rw [if_pos hw]
    rfl
  · obtain ⟨hs, hn⟩ := h.resolve_left hw
    rw [if_neg hw]
    simp only [hs]
    exact if_pos hn

theorem State.warnAdmitted_joins {y : Sounding} (hw : (s.zoneCfg (s.pol a).zone).warnTime ≠ 0)
    (hs : (s.zone (s.pol a).zone).sounding = some y) : s.warnAdmitted a = s := by
  unfold State.warnAdmitted
  dsimp only
  rw [if_neg hw]
  simp only [hs]

theorem State.warnAdmitted_sounds (hw : (s.zoneCfg (s.pol a).zone).warnTime ≠ 0)
    (hs : (s.zone (s.pol a).zone).sounding = none) (hn : (s.zone (s.pol a).zone).warnedUntil ≤ s.mono) :
    s.warnAdmitted a
      = s.setZone (s.pol a).zone { s.zone (s.pol a).zone with
          sounding := some ⟨s.mono, s.mono + (s.zoneCfg (s.pol a).zone).warnTime * 1000,
            (s.zoneCfg (s.pol a).zone).pattern⟩ } := by
  unfold State.warnAdmitted
  dsimp only
  rw [if_neg hw]
  simp only [hs]
  exact if_neg (Nat.not_lt.mpr hn)

/-- From `s` to `t` no zone that sounds has changed. -/
def State.SoundsOn (s t : State) : Prop := ∀ z y, (s.zone z).sounding = some y → t.zone z = s.zone z

theorem State.SoundsOn.refl (s : State) : s.SoundsOn s := fun _ _ _ => rfl

theorem State.SoundsOn.trans (h : s.SoundsOn t) (k : t.SoundsOn u) : s.SoundsOn u := fun z y hs =>
  (k z y (by rw [h z y hs]; exact hs)).trans (h z y hs)

theorem State.SoundsOn.same (h : t.zones = s.zones) : s.SoundsOn t := fun z _ _ => by rw [State.zone, State.zone, h]

theorem State.zone_modSt (s : State) (a : Nat) (f : Station → Station) (z : Nat) : (s.modSt a f).zone z = s.zone z := by
  rw [State.zone, State.zone, State.modSt_eq]

theorem State.warnAdmitted_soundsOn (s : State) (a : Nat) : s.SoundsOn (s.warnAdmitted a) := fun z y hs => by
  by_cases hw : (s.zoneCfg (s.pol a).zone).warnTime = 0
  · rw [State.warnAdmitted_satisfied (.inl hw), State.satisfy, State.zone_modSt]
  · cases hz : (s.zone (s.pol a).zone).sounding with
    | some x => rw [State.warnAdmitted_joins hw hz]
    | none =>
      have ne : z ≠ (s.pol a).zone := by
        rintro rfl
        rw [hz] at hs
        cases hs
      by_cases hn : s.mono < (s.zone (s.pol a).zone).warnedUntil
      · rw [State.warnAdmitted_satisfied (.inr ⟨hz, hn⟩), State.satisfy, State.zone_modSt]
      · rw [State.warnAdmitted_sounds hw hz (Nat.not_lt.mp hn), s.zone_setZone_other _ ne]

theorem State.admitOne_soundsOn (s : State) (a : Nat) : s.SoundsOn (s.admitOne a) :=
  .trans (t := (s.dequeue a).modSt a fun r => { r with state := .waking, phase := .warn, attempts := 0 })
    (fun z _ _ => State.zone_modSt (s.dequeue a) a _ z) (State.warnAdmitted_soundsOn _ a)

theorem State.admitWalk_soundsOn (l : List Nat) (s : State) : s.SoundsOn (s.admitWalk l) := by
  induction l generalizing s with
  | nil => exact .refl s
  | cons a l ih =>
    unfold State.admitWalk
    split
    · split
      · exact (s.admitOne_soundsOn a).trans (ih _)
      · exact .refl s
    · exact ih s

theorem State.admissionPass_soundsOn (s : State) : s.SoundsOn s.admissionPass := by
  unfold State.admissionPass
  split
  · exact .refl s
  · exact State.admitWalk_soundsOn _ s

theorem State.leavePark_soundsOn (s : State) (a : Nat) (z : Bool) : s.SoundsOn (s.leavePark a z) := by
  by_cases h : (s.st a).state = .parkQueued
  · rw [State.leavePark_of_queued h]
    have left (f : Station → Station) : s.SoundsOn ((s.dequeue a).modSt a f) := fun z _ _ =>
      State.zone_modSt (s.dequeue a) a f z
    rcases s.enterFree_cases a (fun r => if z then { r with credit := 0 } else r) with e | e
    · rw [e]; exact left _
    · rw [e]; exact (left _).trans (State.admissionPass_soundsOn _)
  · rw [State.leavePark_of_not_queued h]
    exact .refl s

theorem State.arbitrate_soundsOn (n : Nat) (s : State) : s.SoundsOn (State.arbitrate n s) := by
  have own (s : State) (c : ReqClass) (q : ReqRef) (a : Nat) (x : Body) : s.SoundsOn (s.startOwn c q a x) :=
    .same (by rw [State.startOwn_eq])
  have exchange (s : State) (x : Exchange) : s.SoundsOn (s.startExchange x) := .same (by rw [State.startExchange_eq])
  induction n generalizing s with
  | zero => exact .refl s
  | succ n ih =>
    unfold State.arbitrate
    split
    · exact .refl s
    · exact .trans (t := s.markInFlight _) (.same rfl) (exchange _ _)
    · exact exchange _ _
    · exact own _ _ _ _ _
    · next a _ =>
      split
      · exact .trans (t := s.startPark a) (fun z _ _ => State.zone_modSt (s.dequeue a) a _ z) (own _ _ _ _ _)
      · exact (s.leavePark_soundsOn a false).trans (ih _)
    · exact own _ _ _ _ _

theorem State.finish_soundsOn (s : State) : s.SoundsOn s.finish := by
  have mode : s.SoundsOn s.modeCheck := .same (by rw [State.modeCheck_eq])
  unfold State.finish
  dsimp only
  split
  · exact mode.trans (State.arbitrate_soundsOn _ _)
  · exact mode

/-- A record taken into WAKING, its warning still to be arranged (R149). -/
def State.entering (s : State) (a : Nat) : State :=
  (s.dequeue a).modSt a fun r => { r with state := .waking, phase := .warn, attempts := 0 }

theorem State.admitOne_eq : s.admitOne a = (s.entering a).warnAdmitted a := rfl

theorem State.entering_same (s : State) (a : Nat) :
    s.entering a = { s.dequeue a with stations := (s.entering a).stations } := State.modSt_eq _ _ _

theorem State.entering_pol (s : State) (a : Nat) : (s.entering a).pol a = s.pol a :=
  State.pol_congr _ _ (by rw [State.entering_same]; rfl) a

theorem State.entering_zone (s : State) (a z : Nat) :
    (s.entering a).zone z = s.zone z ∧ (s.entering a).zoneCfg z = s.zoneCfg z ∧ (s.entering a).mono = s.mono := by
  rw [State.entering_same]
  exact ⟨rfl, rfl, rfl⟩

theorem State.st_entering (h : hasRecord a) : ((s.entering a).st a).phase = .warn := by
  rw [State.entering, State.st_modSt_self _ a _ h]

/-- The three ways an admission is warned (R151). -/
theorem State.admitOne_warning (h : hasRecord a) (hz : (s.pol a).zone < 8) :
    let z := (s.pol a).zone
    let w := (s.zoneCfg z).warnTime
    (w = 0 ∨ ((s.zone z).sounding = none ∧ s.mono < (s.zone z).warnedUntil) →
        ((s.admitOne a).st a).phase = .command ∧ ((s.admitOne a).st a).satisfiedAt = some s.mono)
      ∧ (w ≠ 0 → ∀ y, (s.zone z).sounding = some y →
          ((s.admitOne a).st a).phase = .warn ∧ (s.admitOne a).zone z = s.zone z)
      ∧ (w ≠ 0 → (s.zone z).sounding = none → (s.zone z).warnedUntil ≤ s.mono →
          ((s.admitOne a).st a).phase = .warn
          ∧ (s.admitOne a).zone z
              = { s.zone z with sounding := some ⟨s.mono, s.mono + w * 1000, (s.zoneCfg z).pattern⟩ }) := by
  intro z w
  obtain ⟨zone, cfg, mono⟩ := s.entering_zone a z
  have pol := s.entering_pol a
  rw [State.admitOne_eq]
  refine ⟨fun k => ?_, fun hw y hs => ?_, fun hw hs hn => ?_⟩
  · rw [State.warnAdmitted_satisfied (by rw [pol]; show _ = 0 ∨ _; rw [cfg, zone, mono]; exact k), State.satisfy,
      State.st_modSt_self _ a _ h, mono]
    exact ⟨rfl, rfl⟩
  · rw [State.warnAdmitted_joins (y := y) (by rw [pol, cfg]; exact hw) (by rw [pol, zone]; exact hs)]
    exact ⟨State.st_entering h, zone⟩
  · rw [State.warnAdmitted_sounds (by rw [pol, cfg]; exact hw) (by rw [pol, zone]; exact hs)
      (by rw [pol, zone, mono]; exact hn), pol, State.st_setZone, State.zone_setZone_self _ _ hz]
    exact ⟨State.st_entering h, by rw [zone, cfg, mono]⟩

/-! ## PROTECTION_TIME (R145, R147) -/

theorem exec_protectionTime (ho : s.online = true) :
    exec (.protectionTime a) s = .next (if s.protectionOver a = true then s.admissionPass.finish else s) := by
  show execProtectionTime a s = _
  rw [execProtectionTime, State.whenOnline_of_online _ ho]

theorem State.protectionOver_iff :
    s.protectionOver a = true
      ↔ (s.st a).state = .wakeQueued
        ∧ ((∀ p, (s.st a).parkedSince = some p → (s.pol a).minOff * 1000 ≤ s.mono - p)
          ∨ (s.pol a).startsLimit = 0
          ∨ ((s.st a).starts.filter (fun n => s.mono ≤ n + 3600000)).length < (s.pol a).startsLimit) := by
  rw [State.protectionOver, Bool.and_eq_true, Bool.or_eq_true, State.minOffOver_iff, State.startsBelow_iff,
    decide_eq_true_eq]

theorem State.admissionPass_settings : s.settingsKept s.admissionPass.finish :=
  s.admissionPass_kept.settingsKept.trans (State.finish_granted _).settingsKept

/-- A ready station at the head of the demand queue, with room, is admitted first. -/
theorem State.admissionPass_head {rest : List Nat} (hd : s.draining = false) (hq : s.demandQ = a :: rest)
    (ready : s.ready a = true) (fits : s.fits a = true) :
    s.admissionPass = (s.admitOne a).admitWalk (rest ++ s.schedQ) := by
  rw [State.admissionPass, if_neg (by simp [hd]), hq, List.cons_append, State.admitWalk, if_pos ready, if_pos fits]

/-- Settles O44. -/
theorem admissionStartsWake : Obligations.AdmissionStartsWake := by
  refine ⟨?_, fun a s ho => ⟨fun hr hd hq hm => ?_, fun hr => ?_⟩⟩
  · intro a rest s ho hd hq hl hoff hstarts hfree hfits hz z w
    have nodup := hq.waiting_nodup
    rw [hl, List.cons_append, List.nodup_cons] at nodup
    have waits : (s.st a).state = .wakeQueued := hq.mem_waiting.mp (by simp [hl])
    have known : hasRecord a := hasRecord_of_state s a (by simp [waits])
    have over_ : s.protectionOver a = true := State.protectionOver_iff.mpr ⟨waits, .inl hoff⟩
    have pass := State.admissionPass_head hd hl
      (State.ready_eq.trans (State.mayWake_iff.mpr ⟨State.minOffOver_iff.mpr hoff, State.startsBelow_iff.mpr hstarts,
        State.readyByGroups_iff.mpr hfree⟩)) (State.fits_iff.mpr hfits)
    have first := State.admitOne_fared hq waits
    have queues := (State.admissionPass_fared hq).queues
    have self := s.st_admitOne_self known
    have walked : s.admissionPass.st a = (s.admitOne a).st a := by
      rw [pass, State.st_admitWalk_other _ _ _ nodup.1]
    have unlisted : s.admissionPass.unlisted a := queues.unlisted
      (by rw [walked, self.state]; exact ⟨by decide, by decide⟩)
    have same : s.admissionPass.finish.st a = (s.admitOne a).st a := by
      rw [State.st_finish_unlisted unlisted, walked]
    have ended := (State.finish_thinned s.admissionPass).unlisted unlisted
    have sounds : (s.admitOne a).SoundsOn s.admissionPass.finish := by
      rw [pass]
      exact (State.admitWalk_soundsOn _ _).trans (State.finish_soundsOn _)
    obtain ⟨satisfied, joins, starts⟩ := State.admitOne_warning known hz
    refine ⟨_, by rw [exec_protectionTime ho, if_pos over_], by rw [same, self.state], ?_, ended.2.1, ended.2.2,
      ?_, fun hw y hs => ?_, fun hw hs hn => ?_, State.admissionPass_settings⟩
    · rw [same, self]
    · rw [same]
      exact satisfied
    · obtain ⟨phase, zone⟩ := joins hw y hs
      rw [same, sounds _ y (by rw [zone]; exact hs)]
      exact ⟨phase, zone⟩
    · obtain ⟨phase, zone⟩ := starts hw hs hn
      rw [same, sounds _ _ (by rw [zone])]
      exact ⟨phase, zone⟩
  · have letting := (State.Letting.refl s).walk (l := s.demandQ ++ s.schedQ) hq.waiting_nodup
      fun b hb => ⟨hq.mem_waiting.mp hb, by simp⟩
    have pass : s.admissionPass = s.admitWalk (s.demandQ ++ s.schedQ) := if_neg (by simp [hd])
    rw [List.nil_append, ← pass] at letting
    have line := State.finish_line (s := s.admissionPass) (by
      rcases hm with hm | hm
      · exact .inr (by rw [s.admissionPass_kept.master]; exact hm)
      · exact .inl (List.eq_nil_of_subset_nil (hm ▸ (State.admissionPass_thinned s).parkQ.subset)))
    have same (b : Nat) : s.admissionPass.finish.st b = s.admissionPass.st b := State.st_congr _ _ (by rw [line]) b
    refine ⟨_, by rw [exec_protectionTime ho, if_pos (State.protectionOver_iff.mpr hr)], ?_, ?_, fun b hb => ?_,
      fun b hb => ?_, State.admissionPass_settings⟩
    · rw [line]; exact letting.demandQ
    · rw [line]; exact letting.schedQ
    · rw [same]; exact letting.entered b hb
    · rw [same]; exact letting.other b hb
  · rw [exec_protectionTime ho, if_neg (by rwa [State.protectionOver_iff])]

end Sys2Proof.Machine
end


section
/-! SUPPORT. Ends of exchanges: a reply, or its deadline, and what the owner of the request is given (R49 to R54, R58,
R61). -/

namespace Sys2Proof.Machine

open Station (BeliefKept HoldKept beliefOrder)

variable {s t u : State} {a b n d : Nat} {x : Exchange} {f : Frame} {e : Entry}

/-! ## The two ends -/

theorem Exchange.not_mgmt_of_fits (h : x.fits f = true) : isMgmt f = false := by
  unfold Exchange.fits at h
  unfold isMgmt
  cases hb : f.body with
  | mgmt bs => simp [hb] at h
  | _ => rfl

theorem State.fieldFrame_reply (hm : s.master.st = .awaitReply x d) (hx : x.fits f = true) :
    s.fieldFrame f = s.takeReply x f := by
  have body := Exchange.not_mgmt_of_fits hx
  unfold State.fieldFrame
  split
  · next bs hb => exact absurd (isMgmt_of_body hb) (by simp [body])
  · simp only [hm, hx]
    rfl

/-- The state in which an exchange has ended and its gap begun (R53). -/
def State.gapped (s : State) (x : Exchange) : State :=
  { s with master := { s.master with st := .gap x (s.lineTime + 3 * s.charTime) } }

theorem exec_reply (h : s.hearsField f = true) (hm : s.master.st = .awaitReply x d) (hx : x.fits f = true) :
    exec (.reply f) s = .next ((((s.hunt .f).gapped x).observeReply f).outcome x (some f)).finish := by
  show Host.Outcome.next (s.arrive .f f) = _
  rw [State.arrive_field h, State.fieldFrame_reply (s := s.hunt .f) hm hx]
  rfl

theorem exec_reply_quiet (h : s.hearsField f = true) (hm : s.master.st = .awaitReply x d) (hx : x.fits f = true)
    (quiet : ∀ r, f.body ≠ .status r) :
    exec (.reply f) s = .next (((s.hunt .f).gapped x).outcome x (some f)).finish := by
  have unseen : ((s.hunt .f).gapped x).observeReply f = (s.hunt .f).gapped x := by
    unfold State.observeReply
    split
    · exact absurd ‹_› (quiet _)
    · rfl
  rw [exec_reply h hm hx, unseen]

/-- The state in which a reply deadline has ended an exchange (R49). -/
def State.missed (s : State) (x : Exchange) : State :=
  { s with
    master :=
      { s.master with
        st := .gap x (s.lineTime + 3 * s.charTime)
        replyTimeouts := min (s.master.replyTimeouts + 1) 65535 } }

theorem exec_replyDeadline (ho : s.online = true) (hm : s.master.st = .awaitReply x d) :
    exec .replyDeadline s = .next (if d ≤ s.lineTime then ((s.missed x).outcome x none).finish else s) := by
  show execReplyDeadline s = _
  rw [execReplyDeadline, State.whenOnline_of_online _ ho, State.deadlineOver, hm]
  by_cases hd : d ≤ s.lineTime
  · simp only [hd, if_true]
    rfl
  · simp only [hd, if_false]

theorem State.finish_in_gap {g : Nat} (h : s.master.st = .gap x g) : s.finish = s.modeCheck :=
  State.finish_of_busy (by rw [h]; exact MasterState.noConfusion)

theorem State.modeCheck_held (h : s.held a = true) : s.modeCheck = s := State.modeCheck_of_held h

theorem State.held_of_inPhase {y : StState} {ph : Phase} (h : s.inPhase a y ph = true)
    (hy : y.gateHeld = true) : s.held a = true := by
  rw [State.held, ((s.inPhase_iff y ph).mp h).1, hy]

/-! ## The owners' outcomes (R29, R40, R58, R61, R119, R156) -/

theorem State.outcome_park (hx : x.req = .gate a .park) (r : Option Frame) : s.outcome x r = s.parkOutcome a r := by
  simp only [State.outcome, hx]

theorem State.outcome_wake (hx : x.req = .gate a .wake) (r : Option Frame) : s.outcome x r = s.wakeOutcome a r := by
  simp only [State.outcome, hx]

theorem State.outcome_followUp (hx : x.req = .gate a .followUp) (r : Option Frame) :
    s.outcome x r = s.followUpOutcome a r.isSome := by
  simp only [State.outcome, hx]

theorem State.outcome_scan (hx : x.req = .scan a) (r : Option Frame) : s.outcome x r = s.scanOutcome a r.isSome := by
  simp only [State.outcome, hx]

theorem State.outcome_entry (hx : x.req = .entry n) (r : Option Frame) :
    s.outcome x r = s.entryOutcome x.frame.dst.toNat n r := by
  simp only [State.outcome, hx]

theorem State.outcome_delayed {k : DelayKey} (hx : x.req = .delayed k) (r : Option Frame) :
    s.outcome x r = s.delayedOutcome k r := by
  simp only [State.outcome, hx]

theorem State.parkOutcome_late (r : Option Frame) (h : s.inPhase a .parking .command = false) :
    s.parkOutcome a r = s := by
  exact if_neg (by simp [h])

theorem State.parkOutcome_ack {c : Byte} (h : s.inPhase a .parking .command = true) (hb : f.body = .ack c) :
    s.parkOutcome a (some f) = s.parkAcked a := by
  rw [State.parkOutcome, if_pos h]
  simp only [hb]

theorem State.parkOutcome_nak {c : Byte} (h : s.inPhase a .parking .command = true) (hb : f.body = .nak c) :
    s.parkOutcome a (some f) = s.parkRefused a := by
  rw [State.parkOutcome, if_pos h]
  simp only [hb]

theorem State.parkOutcome_missed (h : s.inPhase a .parking .command = true) :
    s.parkOutcome a none = if (s.st a).attempts < 2 then s.countTry a else s.enterFaulted a .parkNoReply := by
  rw [State.parkOutcome, if_pos h]
  exact if_congr (Nat.add_lt_add_iff_right (k := 1) (m := 2)) rfl rfl

theorem State.wakeOutcome_late (r : Option Frame) (h : s.inPhase a .waking .command = false) :
    s.wakeOutcome a r = s := by
  exact if_neg (by simp [h])

theorem State.wakeOutcome_ack {c : Byte} (h : s.inPhase a .waking .command = true) (hb : f.body = .ack c) :
    s.wakeOutcome a (some f) = s.wakeAcked a := by
  rw [State.wakeOutcome, if_pos h]
  simp only [hb]

theorem State.wakeOutcome_nak {c : Byte} (h : s.inPhase a .waking .command = true) (hb : f.body = .nak c) :
    s.wakeOutcome a (some f) = s.enterFaulted a .wakeRefused := by
  rw [State.wakeOutcome, if_pos h]
  simp only [hb]

theorem State.wakeOutcome_missed (h : s.inPhase a .waking .command = true) :
    s.wakeOutcome a none = if (s.st a).attempts < 2 then s.countTry a else s.enterFaulted a .wakeNoReply := by
  rw [State.wakeOutcome, if_pos h]
  exact if_congr (Nat.add_lt_add_iff_right (k := 1) (m := 2)) rfl rfl

/-- A change of one record that stays held: no mode check follows. -/
theorem State.finish_modSt_held {y : StState} {g : Nat} (fn : Station → Station) (hm : s.master.st = .gap x g)
    (hs : (s.st a).state = y) (hy : y.gateHeld = true) (hf : (fn (s.st a)).state = (s.st a).state) :
    (s.modSt a fn).finish = s.modSt a fn := by
  have held : (s.modSt a fn).held a = true := by
    have state : ((s.modSt a fn).st a).state = (s.st a).state := by
      rcases s.st_modSt_cases a fn a with ⟨-, -, e⟩ | ⟨-, e⟩
      · rw [e, hf]
      · rw [e]
    rw [State.held, state, hs, hy]
  rw [State.finish_in_gap (x := x) (g := g) (by simpa using hm), State.modeCheck_of_held held]

/-! ## PARK and WAKE (R119, R156) -/

theorem Station.account_refusals (now rated : Nat) (r : Station) :
    (r.account now rated).stats.parkRefusals = r.stats.parkRefusals := by
  unfold Station.account
  split <;> rfl

/-- Settles O33. -/
theorem replyToParkOrWake : Obligations.ReplyToParkOrWake := by
  intro f s x d a h hm hx quiet u
  have reply : exec (.reply f) s = .next (u.outcome x (some f)).finish := exec_reply_quiet h hm hx quiet
  have gap : u.master.st = .gap x (s.lineTime + 3 * s.charTime) := rfl
  refine ⟨fun hr => ?_, fun hr => ?_⟩
  · rw [State.outcome_park hr] at reply
    refine ⟨fun hp => ?_, fun hp => ⟨fun c hc => ?_, fun c hc => ?_⟩⟩
    · rw [reply, State.parkOutcome_late (s := u) _ hp, State.finish_in_gap gap]
    · rw [reply, State.parkOutcome_ack (s := u) hp hc]
      exact congrArg _ (State.finish_modSt_held (s := u) _ gap ((s.inPhase_iff _ _).mp hp).1 rfl rfl)
    · rw [State.parkOutcome_nak (s := u) hp hc] at reply
      have state : (u.st a).state = .parking := ((s.inPhase_iff _ _).mp hp).1
      have known : hasRecord a := hasRecord_of_state u a (by simp [state])
      have master : (u.parkRefused a).master = u.master :=
        (State.enterFree_kept (s := u) Station.holdOrder (fun _ _ k => k.toHoldKept) a _
          (by exact fun _ => ⟨rfl, rfl, rfl, rfl⟩)).master
      have mode := State.finish_in_gap (s := u.parkRefused a) (master.symm ▸ gap)
      refine ⟨_, reply, ?_⟩
      have record : ((u.parkRefused a).finish.st a) = (u.parkRefused a).st a := by
        rw [mode, State.modeCheck_eq]
        rfl
      rw [record, State.parkRefused, State.enterFree_st _ _ _ known]
      refine ⟨rfl, rfl, rfl, ?_, ?_, ?_, ?_, ?_⟩
      · simp only [Station.freed, state]
        rfl
      · show min (((u.st a).account u.now (u.pol a).rated).stats.parkRefusals + 1) 65535 = _
        rw [Station.account_refusals]
        rfl
      · exact (Station.freed_kept _ _ _).shadow
      · exact (Station.freed_kept _ _ _).hold
      · rw [← State.parkRefused, mode, State.modeCheck_eq]
        exact master
  · rw [State.outcome_wake hr] at reply
    refine ⟨fun hp => ?_, fun hp => ⟨fun c hc => ?_, fun c hc => ?_⟩⟩
    · rw [reply, State.wakeOutcome_late (s := u) _ hp, State.finish_in_gap gap]
    · rw [reply, State.wakeOutcome_ack (s := u) hp hc]
      exact congrArg _ (State.finish_modSt_held (s := u) _ gap ((s.inPhase_iff _ _).mp hp).1 rfl rfl)
    · rw [State.wakeOutcome_nak (s := u) hp hc] at reply
      have state : (u.st a).state = .waking := ((s.inPhase_iff _ _).mp hp).1
      have faults := State.enterFaulted_faults (s := u) .wakeRefused (hasRecord_of_state u a (by simp [state]))
      obtain ⟨self, count, -⟩ := State.faultOne_waking (s := u) .wakeRefused state
      obtain ⟨faulted, cause, phase, -, flag, -, shadow, hold, -, -⟩ := faults.ended self (by simp [state])
      refine ⟨_, reply, faulted, cause, phase, ?_, flag, shadow, hold, ?_⟩
      · rw [faults.self]
        exact count
      · have master := (u.enterFaulted_kept a .wakeRefused).master
        rw [State.finish_in_gap (x := x) (master.symm ▸ gap), State.modeCheck_eq]
        exact master

end Sys2Proof.Machine
end


section
/-! SUPPORT. Outcomes of entries and scan polls, and the reply deadline (R29, R30, R49, R61, R178, R179). -/

namespace Sys2Proof.Machine

open Station (BeliefKept HoldKept beliefOrder)

variable {s t u : State} {a b n d j : Nat} {x : Exchange} {f : Frame} {e : Entry}

/-! ## Posted and held entries (R29, R30) -/

theorem State.entryOutcome_ack {c : Byte} (he : s.findEntry a n = some e) (hb : f.body = .ack c) :
    s.entryOutcome a n (some f) = s.removeEntry a n := by
  simp only [State.entryOutcome, he, hb]

theorem State.entryOutcome_nak {c : Byte} (he : s.findEntry a n = some e) (hb : f.body = .nak c) :
    s.entryOutcome a n (some f) = (s.removeEntry a n).lose e .refused c := by
  simp only [State.entryOutcome, he, hb]

theorem State.entryOutcome_missed (he : s.findEntry a n = some e) :
    s.entryOutcome a n none
      = if e.attempts < 2 then s.countAttempt a n else (s.removeEntry a n).lose e .noReply 0 := by
  simp only [State.entryOutcome, he]
  exact if_congr (Nat.add_lt_add_iff_right (k := 1) (m := 2)) rfl rfl

/-- What the removal of an entry changes. -/
structure State.Removed (s t : State) (a n : Nat) : Prop where
  rest : t = { s with fwd := { s.fwd with posted := s.fwd.posted.filter (fun y => y.seq ≠ n) }, stations := t.stations }
  hold : (t.st a).hold = (s.st a).hold.filter (fun y => y.seq ≠ n)
  same : ∀ b, { t.st b with hold := [] } = { s.st b with hold := [] }
  other : ∀ b, b ≠ a → t.st b = s.st b

theorem State.removeEntry_removed (s : State) (a n : Nat) : s.Removed (s.removeEntry a n) a n := by
  let u : State := { s with fwd := { s.fwd with posted := s.fwd.posted.filter (fun y => y.seq ≠ n) } }
  let drop (r : Station) : Station := { r with hold := r.hold.filter (fun y => y.seq ≠ n) }
  have cases_ (b : Nat) : (b = a ∧ hasRecord a ∧ (s.removeEntry a n).st b = drop (s.st a))
      ∨ (b ≠ a ∨ ¬ hasRecord a) ∧ (s.removeEntry a n).st b = s.st b := u.st_modSt_cases a drop b
  refine ⟨State.modSt_eq u a drop, ?_, fun b => ?_, fun b hb => ?_⟩
  · rcases cases_ a with ⟨-, -, e⟩ | ⟨out, e⟩
    · rw [e]
    · rw [e, s.st_none a (out.resolve_left (by simp))]
      rfl
  · rcases cases_ b with ⟨rfl, -, e⟩ | ⟨-, e⟩ <;> rw [e]
  · rcases cases_ b with ⟨rfl, -, -⟩ | ⟨-, e⟩
    · exact absurd rfl hb
    · exact e

theorem State.lose_eq (s : State) (e : Entry) (c : LostCause) (z : Byte) :
    s.lose e c z
      = { s with
          fwd :=
            { s.fwd with
              lastLost := ⟨e.dst.toNat, e.tag, e.what.action, c, z⟩
              cnt := { s.fwd.cnt with lost := min (s.fwd.cnt.lost + 1) 65535 } }
          flags := { s.flags with postedLost := true } } := rfl

theorem State.modeCheck_st (s : State) (a : Nat) : s.modeCheck.st a = s.st a := by
  rw [State.modeCheck_eq]
  rfl

theorem State.modeCheck_settings (s : State) : s.settingsKept s.modeCheck := by
  rw [State.modeCheck_eq]
  exact ⟨rfl, rfl, rfl, rfl, rfl, rfl, rfl, rfl, rfl, rfl, rfl⟩

/-- The end of an entry's exchange in which the entry goes, with the losses and the flags that stand then. -/
theorem State.Removed.ended {g : Nat} (h : s.Removed t a n) (hm : s.master.st = .gap x g) (l : LastLost) (c : FwdCounters)
    (k : Attention) :
    let v := ({ t with fwd := { t.fwd with lastLost := l, cnt := c }, flags := k } : State).finish
    v.fwd = { s.fwd with posted := s.fwd.posted.filter (fun y => y.seq ≠ n), lastLost := l, cnt := c } ∧ v.flags = k
      ∧ (∀ b, v.st b = t.st b) ∧ v.master = s.master ∧ v.cport = s.cport ∧ v.answers = s.answers
      ∧ s.settingsKept v := by
  have rest := h.rest
  generalize t.stations = ss at rest
  subst rest
  intro v
  have eq := State.finish_in_gap (x := x) (g := g)
    (s := { s with
      fwd := { s.fwd with posted := s.fwd.posted.filter (fun y => y.seq ≠ n), lastLost := l, cnt := c }
      flags := k, stations := ss }) hm
  rw [State.modeCheck_eq] at eq
  have hv : v = _ := eq
  rw [hv]
  exact ⟨rfl, rfl, fun _ => rfl, rfl, rfl, rfl, rfl, rfl, rfl, rfl, rfl, rfl, rfl, rfl, rfl, rfl, rfl⟩

/-- Settles O31. -/
theorem replyEndsEntryExchange : Obligations.ReplyEndsEntryExchange := by
  intro f s x d n e h hm hx hr he quiet a
  have reply := exec_reply_quiet h hm hx quiet
  rw [State.outcome_entry hr] at reply
  let u := (s.hunt .f).gapped x
  have found : u.findEntry a n = some e := he
  have removed := u.removeEntry_removed a n
  have body : (∃ c, f.body = .ack c) ∨ ∃ c, f.body = .nak c := by
    simp only [Exchange.fits, Bool.and_eq_true] at hx
    cases hb : f.body with
    | ack c => exact .inl ⟨c, rfl⟩
    | nak c => exact .inr ⟨c, rfl⟩
    | status r => exact absurd hb (quiet r)
    | _ => simp [hb] at hx
  refine ⟨_, reply, ?_⟩
  have gap : u.master.st = .gap x (s.lineTime + 3 * s.charTime) := rfl
  rcases body with ⟨c, hb⟩ | ⟨c, hb⟩
  · rw [State.entryOutcome_ack (s := u) found hb]
    obtain ⟨fwd, flags, st, master, cport, answers, settings⟩ := removed.ended gap (u.removeEntry a n).fwd.lastLost
      (u.removeEntry a n).fwd.cnt (u.removeEntry a n).flags
    have rest := removed.rest
    refine ⟨by rw [fwd]; rfl, by rw [st, removed.hold]; rfl, fun _ _ => ⟨?_, ?_, ?_⟩, fun c' hc' => ?_, master,
      by rw [fwd]; rfl, cport, answers, fun b => by rw [st]; exact removed.same b,
      fun b hb => by rw [st]; exact removed.other b hb, settings⟩
    · rw [fwd, rest]; rfl
    · rw [fwd, rest]; rfl
    · rw [flags, rest]; rfl
    · rw [hb] at hc'; cases hc'
  · rw [State.entryOutcome_nak (s := u) found hb, State.lose_eq]
    have rest := removed.rest
    obtain ⟨fwd, flags, st, master, cport, answers, settings⟩ := removed.ended gap
      ⟨e.dst.toNat, e.tag, e.what.action, .refused, c⟩ _ _
    refine ⟨by rw [fwd]; rfl, by rw [st, removed.hold]; rfl, fun c' hc' => ?_, fun c' hc' => ⟨?_, ?_, ?_⟩, master,
      by rw [fwd]; rfl, cport, answers, fun b => by rw [st]; exact removed.same b,
      fun b hb => by rw [st]; exact removed.other b hb, settings⟩
    · rw [hb] at hc'; cases hc'
    · rw [hb] at hc'
      cases hc'
      rw [fwd]
    · rw [fwd, rest]; rfl
    · rw [flags, rest]; rfl

/-! ## Scan polls (R178, R179) -/

theorem State.scanOutcome_single (h : s.scan.running = .single) :
    s.scanOutcome a true = s.setScan { s.scan with st := .idle, waitEnd := none, stopPending := false } := by
  unfold State.scanOutcome
  dsimp only
  exact if_pos h

theorem State.scanOutcome_stop (h : s.scan.running ≠ .single) (hp : s.scan.stopPending = true) :
    s.scanOutcome a true
      = s.setScan { s.scan with pos := s.scan.pos + 1, st := .idle, waitEnd := none, stopPending := false } := by
  unfold State.scanOutcome
  dsimp only
  exact (if_neg h).trans (if_pos hp)

theorem State.scanOutcome_spaced (h : s.scan.running ≠ .single) (hp : s.scan.stopPending = false)
    (hs : s.cfg.scan.spacing ≠ 0) :
    s.scanOutcome a true
      = s.setScan { s.scan with
          pos := s.scan.pos + 1, st := .waiting, waitEnd := some (s.mono + s.cfg.scan.spacing) } := by
  unfold State.scanOutcome
  dsimp only
  exact (if_neg h).trans ((if_neg (by simp [hp])).trans (if_neg hs))

theorem State.scanOutcome_next (h : s.scan.running ≠ .single) (hp : s.scan.stopPending = false)
    (hs : s.cfg.scan.spacing = 0) :
    s.scanOutcome a true = State.scanSelect 80 (s.setScan { s.scan with pos := s.scan.pos + 1 }) := by
  unfold State.scanOutcome
  dsimp only
  exact (if_neg h).trans ((if_neg (by simp [hp])).trans (if_pos hs))

/-- The end of a scan poll changes the scanner alone, the miss apart. -/
theorem State.scanOutcome_changes_scan (s : State) (a : Nat) : ∃ c, s.scanOutcome a true = s.setScan c := by
  by_cases h : s.scan.running = .single
  · exact ⟨_, State.scanOutcome_single h⟩
  cases hp : s.scan.stopPending with
  | true => exact ⟨_, State.scanOutcome_stop h hp⟩
  | false =>
    by_cases hs : s.cfg.scan.spacing = 0
    · rw [State.scanOutcome_next h hp hs]
      obtain ⟨c, hc⟩ := State.scanSelect_changes_scan 80 (s.setScan { s.scan with pos := s.scan.pos + 1 })
      exact ⟨c, hc⟩
    · exact ⟨_, State.scanOutcome_spaced h hp hs⟩

/-- The scanner moves on when its poll has ended, however the stations stand by then. -/
theorem State.scanOutcome_pollEnds {v : State} (hs : v.scan = s.scan) (hc : v.cfg = s.cfg) (hm : v.mono = s.mono) :
    s.scanPollEnds (v.scanOutcome a true).modeCheck := by
  have scan : (v.scanOutcome a true).modeCheck.scan = (v.scanOutcome a true).scan := by
    rw [State.modeCheck_eq]
  unfold State.scanPollEnds
  rw [scan, ← hs, ← hc, ← hm]
  refine ⟨fun single => ?_, fun run stop => ?_, fun run stop => ⟨fun spaced => ?_, fun next hlen j hk hd => ?_⟩⟩
  · rw [State.scanOutcome_single single]
    rfl
  · rw [State.scanOutcome_stop run stop]
    rfl
  · rw [State.scanOutcome_spaced run stop spaced]
    rfl
  · obtain ⟨m, here⟩ : ∃ m, ({ (v.scanOutcome a true).modeCheck with scan := v.scan } : State) = { v with mode := m } := by
      obtain ⟨c, changed⟩ := v.scanOutcome_changes_scan a
      exact ⟨(v.scanOutcome a true).modeCheck.mode, by rw [State.modeCheck_eq, changed]; rfl⟩
    rw [here] at hk hd ⊢
    rw [State.scanOutcome_next run stop next]
    have below : j < v.cfg.scan.len := hd.1
    rw [State.scanSelect_polls (s := v.setScan { v.scan with pos := v.scan.pos + 1 }) (j := j)
      (by show j - (v.scan.pos + 1) < 80
          omega) (fun single => absurd single run) hk hd]
    rfl

/-! ## The reply deadline (R49, R61) -/

theorem State.scanOutcome_miss (s : State) (a : Nat) :
    s.scanOutcome a false
      = (s.modSt a fun r => { r with scanMiss := min (r.scanMiss + 1) 65535 }).scanOutcome a true := rfl

theorem State.modSt_settings (s : State) (a : Nat) (g : Station → Station) : s.settingsKept (s.modSt a g) := by
  rw [State.modSt_eq]
  exact ⟨rfl, rfl, rfl, rfl, rfl, rfl, rfl, rfl, rfl, rfl, rfl⟩

/-- A follow-up without a reply is tried again, and starts over after its third time (R58). -/
theorem State.followUpOutcome_missed (h : (s.inPhase a .parking .coast || s.inPhase a .waking .settle) = true) :
    s.followUpOutcome a false = s.modSt a fun r =>
      if r.attempts < 2 then { r with attempts := r.attempts + 1 }
      else { r with attempts := 0, nextFollowUp := some (s.mono + 1000) } := by
  unfold State.followUpOutcome
  dsimp only
  rw [if_pos h]
  by_cases few : (s.st a).attempts < 2
  · rw [if_neg (by simp [Config.maxAttempts]; omega)]
    exact State.modSt_congr (by rw [if_pos few])
  · rw [if_pos (.inr (by simp [Config.maxAttempts]; omega))]
    exact State.modSt_congr (by rw [if_neg few]; rfl)

/-- Settles O35. -/
theorem replyDeadlineEndsExchange : Obligations.ReplyDeadlineEndsExchange := by
  intro s x d ho hm
  have ends := exec_replyDeadline ho hm
  refine ⟨fun hd => by rw [ends, if_neg (Nat.not_le.mpr hd)], fun hd => ?_⟩
  intro m u dst
  have missed : exec .replyDeadline s = .next (u.outcome x none).finish := by
    rw [ends, if_pos hd]
    rfl
  have gap : u.master.st = .gap x (s.lineTime + 3 * s.charTime) := rfl
  refine ⟨fun k hr => ?_, fun n e hr he => ?_, fun a => ⟨fun hr => ?_, fun hr hp => ?_, fun hr ha => ?_⟩⟩
  · rw [State.outcome_delayed hr] at missed
    exact missed.trans (congrArg _ (State.finish_in_gap (s := u.delayedOutcome k none) gap))
  · rw [State.outcome_entry hr, State.entryOutcome_missed (s := u) he] at missed
    refine ⟨fun he2 => ?_, fun he2 => ?_⟩
    · rw [if_pos he2] at missed
      exact missed.trans (congrArg _ (State.finish_in_gap (x := x) (g := s.lineTime + 3 * s.charTime)
        (by rw [State.countAttempt, State.modSt_master])))
    · rw [if_neg (Nat.not_lt.mpr he2), State.lose_eq] at missed
      have removed := u.removeEntry_removed dst n
      have rest := removed.rest
      obtain ⟨fwd, flags, st, master, cport, answers, settings⟩ := removed.ended gap
        ⟨e.dst.toNat, e.tag, e.what.action, .noReply, 0⟩
        { (u.removeEntry dst n).fwd.cnt with lost := min ((u.removeEntry dst n).fwd.cnt.lost + 1) 65535 }
        { (u.removeEntry dst n).flags with postedLost := true }
      refine ⟨_, missed, ?_, ?_, fun b hb => ?_, ?_, master, settings⟩
      · refine fwd.trans ?_
        rw [rest]
      · exact (congrArg Station.hold (st dst)).trans removed.hold
      · exact (st b).trans (removed.other b hb)
      · refine flags.trans ?_
        rw [rest]
  · obtain ⟨y, outcome, held, state⟩ : ∃ c, u.outcome x none
        = (if (s.st a).attempts < 2 then u.countTry a else u.enterFaulted a c)
          ∧ c = (if x.req = .gate a .park then .parkNoReply else .wakeNoReply)
          ∧ (s.st a).state.gateHeld = true := by
      rcases hr with ⟨hr, hp⟩ | ⟨hr, hp⟩
      · exact ⟨.parkNoReply, by rw [State.outcome_park hr]; exact State.parkOutcome_missed (s := u) hp,
          by rw [if_pos hr], State.held_of_inPhase hp rfl⟩
      · exact ⟨.wakeNoReply, by rw [State.outcome_wake hr]; exact State.wakeOutcome_missed (s := u) hp,
          by rw [if_neg (by rw [hr]; simp)], State.held_of_inPhase hp rfl⟩
    rw [outcome] at missed
    have known : hasRecord a := hasRecord_of_state s a fun k => by rw [k] at state; cases state
    refine ⟨fun few => ?_, fun many => ?_⟩
    · rw [if_pos few] at missed
      exact missed.trans (congrArg _ (State.finish_modSt_held (s := u) _ gap rfl state rfl))
    · rw [if_neg (Nat.not_lt.mpr many)] at missed
      have faults := State.enterFaulted_faults (s := u) y known
      obtain ⟨z, self⟩ := State.st_faultOne_self (s := u) y known
      have master := (u.enterFaulted_kept a y).master
      refine ⟨_, missed, ?_, ?_, ?_, faults.alarmed.stationFault (State.faultOne_raised _ _ _), faults.belief.hold, ?_,
        faults.settings⟩
      · rw [faults.self, self]; rfl
      · rw [faults.self, self]; rfl
      · rw [faults.self, self, ← held]; rfl
      · rw [State.finish_in_gap (x := x) (master.symm ▸ gap), State.modeCheck_eq]
        exact master
  · rw [State.outcome_followUp hr] at missed
    refine missed.trans (congrArg _ ?_)
    have again := State.followUpOutcome_missed (s := u) hp
    show (u.followUpOutcome a false).finish = _
    rw [again]
    refine State.finish_modSt_held (s := u) _ gap rfl (State.held_of_followUp hp) ?_
    split <;> rfl
  · rw [State.outcome_scan hr] at missed
    have known : hasRecord a := (stationAddress_iff a).mp ha
    let v := u.modSt a fun r => { r with scanMiss := min (r.scanMiss + 1) 65535 }
    obtain ⟨c, changed⟩ := v.scanOutcome_changes_scan a
    have finished : (u.scanOutcome a false).finish = (v.scanOutcome a true).modeCheck :=
      State.finish_in_gap (x := x) (g := s.lineTime + 3 * s.charTime)
        (by rw [State.scanOutcome_miss, changed]; exact congrArg Master.st (State.modSt_master _ _ _))
    have st (b : Nat) : (v.scanOutcome a true).modeCheck.st b = v.st b := by
      rw [State.modeCheck_st, changed]
      rfl
    refine ⟨_, missed.trans (congrArg _ finished), ?_, fun b hb => ?_, ?_, ?_, ?_⟩
    · rw [st, State.st_modSt_self _ _ _ known]
      rfl
    · rw [st, State.st_modSt_other _ _ _ _ hb]
      rfl
    · have ended := State.scanOutcome_pollEnds (s := u) (v := v) (a := a) (by simp [v]) (by simp [v]) (by simp [v])
      exact ended
    · rw [State.modeCheck_eq, changed]
      exact State.modSt_master _ _ _
    · refine State.settingsKept.trans (t := v) ?_ ((changed ▸ State.setScan_settings c).trans (State.modeCheck_settings _))
      exact State.modSt_settings _ _ _

end Sys2Proof.Machine
end


section
/-! SUPPORT. The end of a gap: what each grant of an arbitration sends, and the withdrawn grant (R53, R55, R60, R62,
R118). -/

namespace Sys2Proof.Machine

open Station (BeliefKept HoldKept beliefOrder)

variable {s t u : State} {a b n d g : Nat} {x : Exchange} {m : Mode}

/-! ## The mode aside -/

/-- The state with another gate mode. -/
def State.inMode (s : State) (m : Mode) : State := { s with mode := m }

theorem State.inMode_arbitration : (s.inMode m).arbitration = s.arbitration := rfl

theorem State.modSt_inMode (a : Nat) (f : Station → Station) : (s.inMode m).modSt a f = (s.modSt a f).inMode m := by
  cases a <;> rfl

theorem State.warnAdmitted_inMode (a : Nat) : (s.inMode m).warnAdmitted a = (s.warnAdmitted a).inMode m := by
  by_cases hw : (s.zoneCfg (s.pol a).zone).warnTime = 0
  · rw [State.warnAdmitted_satisfied (s := s.inMode m) (.inl hw), State.warnAdmitted_satisfied (.inl hw)]
    exact State.modSt_inMode a _
  · cases hz : (s.zone (s.pol a).zone).sounding with
    | some y => rw [State.warnAdmitted_joins (s := s.inMode m) hw hz, State.warnAdmitted_joins hw hz]
    | none =>
      by_cases hn : s.mono < (s.zone (s.pol a).zone).warnedUntil
      · rw [State.warnAdmitted_satisfied (s := s.inMode m) (.inr ⟨hz, hn⟩), State.warnAdmitted_satisfied (.inr ⟨hz, hn⟩)]
        exact State.modSt_inMode a _
      · rw [State.warnAdmitted_sounds (s := s.inMode m) hw hz (Nat.not_lt.mp hn),
          State.warnAdmitted_sounds hw hz (Nat.not_lt.mp hn)]
        rfl

theorem State.admitOne_inMode (a : Nat) : (s.inMode m).admitOne a = (s.admitOne a).inMode m := by
  rw [State.admitOne_eq, State.admitOne_eq, ← State.warnAdmitted_inMode]
  exact congrArg (State.warnAdmitted · a) (State.modSt_inMode (s := s.dequeue a) a _)

theorem State.admitWalk_inMode (l : List Nat) : (s.inMode m).admitWalk l = (s.admitWalk l).inMode m := by
  induction l generalizing s with
  | nil => rfl
  | cons a l ih =>
    rw [State.admitWalk, State.admitWalk, State.admitOne_inMode, ih, ih]
    have ready : (s.inMode m).ready a = s.ready a := rfl
    have fits : (s.inMode m).fits a = s.fits a := rfl
    rw [ready, fits]
    split
    · split <;> rfl
    · rfl

theorem State.admissionPass_inMode : (s.inMode m).admissionPass = s.admissionPass.inMode m := by
  rw [State.admissionPass, State.admissionPass, State.admitWalk_inMode]
  have drain : (s.inMode m).draining = s.draining := rfl
  rw [drain]
  split <;> rfl

/-- The record and the queues of a station that enters FREE, the admission pass of R147 apart. -/
def State.freeing (s : State) (a : Nat) (f : Station → Station) : State :=
  (s.dequeue a).modSt a fun r => f (r.freed s.now (s.pol a).rated)

theorem State.enterFree_eq (f : Station → Station) :
    s.enterFree a f
      = if (s.st a).state = .waking ∨ (s.st a).state = .wakeQueued ∨ (s.freeing a f).supportsQueued a then
          (s.freeing a f).admissionPass
        else s.freeing a f := rfl

theorem State.freeing_inMode (f : Station → Station) : (s.inMode m).freeing a f = (s.freeing a f).inMode m :=
  State.modSt_inMode (s := s.dequeue a) a _

theorem State.enterFree_inMode (f : Station → Station) : (s.inMode m).enterFree a f = (s.enterFree a f).inMode m := by
  have state : ((s.inMode m).st a).state = (s.st a).state := rfl
  have supports (v : State) : (v.inMode m).supportsQueued a = v.supportsQueued a := rfl
  rw [State.enterFree_eq, State.enterFree_eq, State.freeing_inMode, State.admissionPass_inMode, state, supports]
  split <;> rfl

theorem State.leavePark_inMode (a : Nat) (z : Bool) : (s.inMode m).leavePark a z = (s.leavePark a z).inMode m := by
  have state : ((s.inMode m).st a).state = (s.st a).state := rfl
  rw [State.leavePark, State.leavePark, state, State.enterFree_inMode]
  split <;> rfl

theorem State.modeCheck_inMode (s : State) : s.modeCheck = s.inMode s.modeCheck.mode := State.modeCheck_eq s

/-! ## GAP_END (R53) -/

/-- The state in which a gap has ended. -/
def State.rested (s : State) : State := { s with master := { s.master with st := .idle } }

theorem exec_gapEnd {e : Nat} (ho : s.online = true) (hm : s.master.st = .gap x e) :
    exec .gapEnd s = .next (if e ≤ s.lineTime then s.rested.finish else s) := by
  show execGapEnd s = _
  rw [execGapEnd, State.whenOnline_of_online _ ho]
  simp only [State.gapOver, hm, decide_eq_true_eq]
  rfl

theorem State.finish_rested (ho : s.online = true) :
    s.rested.finish = State.arbitrate (s.parkQ.length + 1) (s.rested.inMode s.rested.modeCheck.mode) := by
  unfold State.finish
  dsimp only
  rw [State.modeCheck_inMode, if_pos (by simp [State.mayGrant, State.inMode, State.rested, ho])]
  rfl

theorem State.arbitrate_none (n : Nat) (h : s.arbitration = none) : State.arbitrate n s = s := by
  cases n with
  | zero => rfl
  | succ n => simp only [State.arbitrate, h]

theorem State.offer_fport (f : Frame) (hp : t.fport = s.fport) (hl : t.lineTime = s.lineTime) (hs : t.straps = s.straps) :
    (t.offer .f f).fport = (s.offer .f f).fport := by
  have port : t.port .f = s.port .f := hp
  have ends : t.sendEnd f = s.sendEnd f := by simp only [State.sendEnd, hl, State.charTime, hs]
  unfold State.offer
  rw [port, ends]
  dsimp only
  split <;> rfl

/-- What a grant sends: the exchange, its frame at the F-port, and the pass counts of R60. -/
def State.sends (s : State) (c : ReqClass) (q : ReqRef) (f : Frame) (tag : Byte) (g p : Nat) (t : State) : Prop :=
  t.master = { s.master with st := .sending ⟨c, q, f⟩, gateTag := tag, gPass := g, sPass := p }
    ∧ t.fport = (s.offer .f f).fport

/-- A request of the gate's own, sent from a state with the port and the times of `s` (R55). -/
theorem State.startOwn_sends (c : ReqClass) (q : ReqRef) (b : Body) (hm : t.master = s.rested.master)
    (hp : t.fport = s.fport) (hl : t.lineTime = s.lineTime) (hs : t.straps = s.straps) :
    (t.startOwn c q a b).fport
        = (s.offer .f ⟨byte a, byte s.straps.addr, s.master.gateTag, b⟩).fport
      ∧ (t.startOwn c q a b).master
        = { ({ s.rested.master with gateTag := s.master.gateTag + 1 } : Master).passed c with
            st := .sending ⟨c, q, ⟨byte a, byte s.straps.addr, s.master.gateTag, b⟩⟩ }
      ∧ (t.startOwn c q a b).fwd = t.fwd ∧ (t.startOwn c q a b).stations = t.stations
      ∧ (t.startOwn c q a b).parkQ = t.parkQ := by
  have tag : t.master.gateTag = s.master.gateTag := by rw [hm]; rfl
  have eq := t.startOwn_eq c q a b
  refine ⟨?_, ?_, by rw [eq], by rw [eq], by rw [eq]⟩
  · unfold State.startOwn State.startExchange
    dsimp only
    rw [tag, hs]
    exact State.offer_fport _ hp hl hs
  · rw [eq, hm, hs]
    rfl

/-- A request or an entry, sent (R49). -/
theorem State.startExchange_sends (y : Exchange) (hp : t.fport = s.fport) (hl : t.lineTime = s.lineTime)
    (hs : t.straps = s.straps) :
    (t.startExchange y).fport = (s.offer .f y.frame).fport
      ∧ (t.startExchange y).master = { t.master.passed y.cls with st := .sending y }
      ∧ (t.startExchange y).fwd = t.fwd ∧ (t.startExchange y).stations = t.stations := by
  have eq := t.startExchange_eq y
  refine ⟨?_, by rw [eq], by rw [eq], by rw [eq]⟩
  unfold State.startExchange
  exact State.offer_fport _ hp hl hs

/-- What a granted head of the park queue sends, and its record then (R118). -/
theorem State.startPark_same (s : State) (a : Nat) :
    (s.startPark a).fport = s.fport ∧ (s.startPark a).lineTime = s.lineTime ∧ (s.startPark a).straps = s.straps
      ∧ (s.startPark a).master = s.master ∧ (s.startPark a).fwd = s.fwd
      ∧ (s.startPark a).parkQ = s.parkQ.filter (· != a) := by
  have eq : s.startPark a = { s.dequeue a with stations := (s.startPark a).stations } := by
    rw [State.startPark]
    exact State.modSt_eq _ _ _
  rw [eq]
  exact ⟨rfl, rfl, rfl, rfl, rfl, rfl⟩

theorem State.st_startPark_self (h : hasRecord a) :
    (s.startPark a).st a
      = { s.st a with state := .parking, phase := .command, attempts := 0, firstSent := some s.lineTime } :=
  (State.st_modSt_self (s.dequeue a) a _ h).trans (by rw [State.st_dequeue])

section
variable (n : Nat)

theorem State.arbitrate_r {y : Delayed} (h : s.arbitration = some (.r y)) :
    State.arbitrate (n + 1) s = (s.markInFlight y.key).startExchange ⟨.r, .delayed y.key, y.frame⟩ := by
  simp only [State.arbitrate, h]

theorem State.arbitrate_p {y : Entry} (h : s.arbitration = some (.p y)) :
    State.arbitrate (n + 1) s = s.startExchange ⟨.p, .entry y.seq, y.frame⟩ := by
  simp only [State.arbitrate, h]

theorem State.arbitrate_request {q : GateReq} (h : s.arbitration = some (.g (.request a q))) :
    State.arbitrate (n + 1) s = s.startOwn .g (.gate a q) a q.body := by
  simp only [State.arbitrate, h]

theorem State.arbitrate_scan (h : s.arbitration = some (.s a)) :
    State.arbitrate (n + 1) s = s.startOwn .s (.scan a) a .poll := by
  simp only [State.arbitrate, h]

theorem State.arbitrate_head (h : s.arbitration = some (.g (.head a))) (hr : s.recheck a = true) :
    State.arbitrate (n + 1) s = (s.startPark a).startOwn .g (.gate a .park) a GateReq.park.body := by
  simp only [State.arbitrate, h, hr, if_true]

theorem State.arbitrate_withdrawn (h : s.arbitration = some (.g (.head a))) (hr : s.recheck a = false) :
    State.arbitrate (n + 1) s = State.arbitrate n (s.leavePark a false) := by
  simp only [State.arbitrate, h, hr]
  rfl
end

/-- Settles O36. -/
theorem gapEndGrants : Obligations.GapEndGrants := by
  intro s x e ho hm
  have ends := exec_gapEnd ho hm
  refine ⟨fun he => by rw [ends, if_neg (Nat.not_le.mpr he)], fun he => ?_⟩
  intro u own sends
  let v := s.rested.inMode s.rested.modeCheck.mode
  replace ends : exec .gapEnd s = .next (State.arbitrate (s.parkQ.length + 1) v) := by
    rw [ends, if_pos he, State.finish_rested ho]
  have arb : v.arbitration = u.arbitration := rfl
  refine ⟨fun h => ?_, fun d h => ?_, fun y h => ?_, fun a q h => ?_, fun a h => ?_, fun a h => ⟨fun hr ha => ?_,
    fun hr hq => ?_⟩⟩ <;> rw [← arb] at h
  · rw [ends, State.arbitrate_none _ h]
    exact congrArg _ (State.modeCheck_inMode u).symm
  · obtain ⟨port, master, fwd, stations⟩ := State.startExchange_sends (s := s) (t := v.markInFlight d.key)
      ⟨.r, .delayed d.key, d.frame⟩ rfl rfl rfl
    exact ⟨_, ends.trans (congrArg _ (State.arbitrate_r _ h)), ⟨master, port⟩, fwd, stations⟩
  · obtain ⟨port, master, fwd, stations⟩ := State.startExchange_sends (s := s) (t := v)
      ⟨.p, .entry y.seq, y.frame⟩ rfl rfl rfl
    exact ⟨_, ends.trans (congrArg _ (State.arbitrate_p _ h)), ⟨master, port⟩, fwd, stations⟩
  · obtain ⟨port, master, fwd, stations, -⟩ := State.startOwn_sends (s := s) (t := v) (a := a) .g (.gate a q) q.body
      rfl rfl rfl rfl
    refine ⟨_, ends.trans (congrArg _ (State.arbitrate_request _ h)), ?_, fwd, stations⟩
    cases q <;> exact ⟨master, port⟩
  · obtain ⟨port, master, fwd, stations, -⟩ := State.startOwn_sends (s := s) (t := v) (a := a) .s (.scan a) .poll
      rfl rfl rfl rfl
    exact ⟨_, ends.trans (congrArg _ (State.arbitrate_scan _ h)), ⟨master, port⟩, fwd, stations⟩
  · obtain ⟨port', time, straps, master', fwd', parkQ'⟩ := v.startPark_same a
    obtain ⟨port, master, fwd, stations, parkQ⟩ := State.startOwn_sends (s := s) (t := v.startPark a) (a := a) .g
      (.gate a .park) GateReq.park.body master' port' time straps
    have known := (stationAddress_iff a).mp ha
    have record := State.st_startPark_self (s := v) known
    refine ⟨_, ends.trans (congrArg _ (State.arbitrate_head _ h hr)), ⟨master, port⟩, ?_, ?_, ?_, ?_, fun b hb => ?_,
      fwd.trans fwd'⟩
    · rw [State.st_congr _ _ stations, record]
    · rw [State.st_congr _ _ stations, record]
    · rw [State.st_congr _ _ stations, record]
    · rw [parkQ, parkQ']
      simp
    · rw [State.st_congr _ _ stations, State.st_startPark_other hb]
      rfl
  · have queued : (s.st a).state = .parkQueued := hq.mem_parkQ.mp (State.head_mem_parkQ (s := v) h)
    have left := State.leavePark_of_queued (s := v) (z := false) queued
    have unlisted : (v.leavePark a false).unlisted a := by
      rw [left]
      exact State.enterFree_unlisted _ _ _
    have kept := v.leavePark_kept a
    have record := State.st_arbitrate_unlisted s.parkQ.length _ unlisted
    have listed := (State.arbitrate_thinned s.parkQ.length (v.leavePark a false)).unlisted unlisted
    refine ⟨_, ends.trans (congrArg _ (State.arbitrate_withdrawn _ h hr)), ?_, ?_, listed.1, fun empty => ?_⟩
    · rw [record, State.leavePark_free (s := v) false queued]
    · rw [record, (kept.st a).credit]
      rfl
    · have still : (v.leavePark a false).arbitration = none := by
        rw [← empty]
        exact (congrArg State.arbitration (State.leavePark_inMode (s := s.rested) a false)).trans rfl
      rw [State.arbitrate_none _ still]
      exact ⟨kept.master, kept.fport⟩

end Sys2Proof.Machine
end


section
/-! SUPPORT. Arbitration: what each class holds, what it offers first, and R60's table over them (R37, R47, R56 to R60,
R63, R117). -/

namespace Sys2Proof.Machine

variable {s t : State} {a b n : Nat} {d : Delayed} {e : Entry}

/-! ## The first of a class -/

theorem least_none {α : Type} {key : α → Nat} {l : List α} : least key l = none ↔ l = [] := by
  cases l with
  | nil => simp [least]
  | cons x xs =>
    simp only [least]
    cases least key xs with
    | none => simp
    | some y => dsimp only; split <;> simp

/-- The oldest of a class is one of it, and none is older. -/
theorem least_spec {α : Type} {key : α → Nat} {l : List α} {x : α} (h : least key l = some x) :
    x ∈ l ∧ ∀ y ∈ l, key x ≤ key y := by
  induction l generalizing x with
  | nil => cases h
  | cons z zs ih =>
    simp only [least] at h
    cases hl : least key zs with
    | none =>
      rw [hl] at h
      cases h
      rw [least_none.mp hl]
      simp
    | some y =>
      obtain ⟨mem, le⟩ := ih hl
      rw [hl] at h
      dsimp only at h
      split at h
      · next hzy =>
        cases h
        refine ⟨List.mem_cons_self .., fun w hw => ?_⟩
        rcases List.mem_cons.mp hw with rfl | hw
        · exact Nat.le_refl _
        · exact Nat.le_trans hzy (le w hw)
      · next hzy =>
        cases h
        refine ⟨List.mem_cons_of_mem _ mem, fun w hw => ?_⟩
        rcases List.mem_cons.mp hw with rfl | hw
        · exact Nat.le_of_lt (Nat.lt_of_not_le hzy)
        · exact le w hw

/-- Of pairs in rising order of their first part, `least` gives the first of those with the smallest second part. -/
theorem least_snd_eq {l : List (Nat × Nat)} {x : Nat × Nat} (sorted : l.Pairwise fun p q => p.1 < q.1) (hx : x ∈ l)
    (h : ∀ y ∈ l, x.2 < y.2 ∨ (x.2 = y.2 ∧ x.1 ≤ y.1)) : least Prod.snd l = some x := by
  induction l with
  | nil => cases hx
  | cons z zs ih =>
    obtain ⟨first, sorted⟩ := List.pairwise_cons.mp sorted
    simp only [least]
    rcases List.mem_cons.mp hx with rfl | hx
    · cases hl : least Prod.snd zs with
      | none => rfl
      | some y =>
        dsimp only
        rw [if_pos]
        rcases h y (List.mem_cons_of_mem _ (least_spec hl).1) with k | ⟨k, -⟩ <;> omega
    · rw [ih sorted hx fun y hy => h y (List.mem_cons_of_mem _ hy)]
      dsimp only
      rw [if_neg]
      have before := first x hx
      rcases h z (List.mem_cons_self ..) with k | ⟨-, k⟩ <;> omega

/-- Station `a` is the first in time, the lower address first where two times are equal. -/
def firstOf (time : Nat → Option Nat) (a : Nat) : Prop :=
  ∃ n, time a = some n ∧ ∀ b k, time b = some k → n < k ∨ (n = k ∧ a ≤ b)

theorem earliest_eq {time : Nat → Option Nat} (ha : hasRecord a) (h : firstOf time a) : earliest time = some a := by
  obtain ⟨n, hn, le⟩ := h
  have sorted : (addresses.filterMap fun a => (time a).map fun t => (a, t)).Pairwise fun p q => p.1 < q.1 := by
    rw [List.pairwise_filterMap]
    refine (List.pairwise_lt_range' (s := 1) (n := 127)).imp fun {x y} hxy p hp q hq => ?_
    simp only [Option.map_eq_some_iff] at hp hq
    obtain ⟨_, _, rfl⟩ := hp
    obtain ⟨_, _, rfl⟩ := hq
    exact hxy
  have eq := least_snd_eq (x := (a, n)) sorted
    (List.mem_filterMap.mpr ⟨a, (mem_addresses a).mpr ha, by rw [hn]; rfl⟩) fun y hy => by
      obtain ⟨b, -, hb⟩ := List.mem_filterMap.mp hy
      obtain ⟨k, hk, rfl⟩ := Option.map_eq_some_iff.mp hb
      exact le b k hk
  rw [earliest, eq]
  rfl

theorem earliest_none {time : Nat → Option Nat} (h : ∀ b, time b = none) : earliest time = none := by
  have empty : (addresses.filterMap fun a => (time a).map fun t => (a, t)) = [] := by
    rw [List.filterMap_eq_nil_iff]
    intro b _
    rw [h b]
    rfl
  rw [earliest, empty]
  rfl

/-! ## R60's table -/

theorem State.arbitration_of_g {o : Offer} (hp : s.master.gPass = 4) (h : s.pickG = some o) :
    s.arbitration = some (.g o) := by
  simp [State.arbitration, hp, h]

theorem State.arbitration_of_s (hg : s.master.gPass ≠ 4 ∨ s.pickG = none) (hp : s.master.sPass = 8)
    (h : s.pickS = some a) : s.arbitration = some (.s a) := by
  have out : ¬ ((s.pickG.map Grant.g).isSome = true ∧ s.master.gPass = 4) := by
    rintro ⟨k, l⟩
    rcases hg with hg | hg
    · exact hg l
    · rw [hg] at k; cases k
  unfold State.arbitration
  dsimp only
  rw [if_neg out, if_pos ⟨by rw [h]; rfl, hp⟩, h]
  rfl

/-- With neither pass count full the classes are asked in turn. -/
theorem State.arbitration_in_turn (hg : s.master.gPass ≠ 4 ∨ s.pickG = none)
    (hs : s.master.sPass ≠ 8 ∨ s.pickS = none) :
    s.arbitration
      = ((least Delayed.seq s.classR).map Grant.r).or
          (((least Entry.seq s.classP).map Grant.p).or ((s.pickG.map Grant.g).or (s.pickS.map Grant.s))) := by
  unfold State.arbitration
  dsimp only
  rw [if_neg, if_neg]
  · rintro ⟨k, l⟩
    rcases hs with hs | hs
    · exact hs l
    · rw [hs] at k; cases k
  · rintro ⟨k, l⟩
    rcases hg with hg | hg
    · exact hg l
    · rw [hg] at k; cases k

theorem exists_least {α : Type} (key : α → Nat) {l : List α} (h : l ≠ []) : ∃ x, least key l = some x :=
  Option.ne_none_iff_exists'.mp fun k => h (least_none.mp k)

/-! ## What the classes hold (R37, R47, R56) -/

/-- A posted or sendable held entry for station `a` is older than order number `n`. -/
def State.older (s : State) (a n : Nat) : Prop :=
  (∃ e ∈ s.fwd.posted, (e.dst.toNat = a ∨ e.dst.toNat = 0) ∧ e.seq < n)
    ∨ (s.held a = false ∧ ∃ e ∈ (s.st a).hold, e.seq < n)

theorem State.mem_sendable : e ∈ s.sendable a ↔ s.held a = false ∧ e ∈ (s.st a).hold := by
  unfold State.sendable
  cases s.held a <;> simp

theorem State.postedBefore_iff : s.postedBefore a n = true ↔ s.older a n := by
  simp only [State.postedBefore, State.older, Entry.standsFor, Entry.broadcast, Bool.or_eq_true, List.any_eq_true,
    Bool.and_eq_true, decide_eq_true_eq, State.mem_sendable]
  refine or_congr Iff.rfl ⟨?_, ?_⟩
  · rintro ⟨e, ⟨hh, he⟩, hn⟩
    exact ⟨hh, e, he, hn⟩
  · rintro ⟨hh, e, he, hn⟩
    exact ⟨e, ⟨hh, he⟩, hn⟩

theorem Delayed.outstanding_iff : d.outstanding = true ↔ d.st = .queued ∨ d.st = .inFlight := by
  unfold Delayed.outstanding
  cases d.st <;> simp

theorem byte_toNat_inj {x y : Byte} : x.toNat = y.toNat ↔ x = y := ⟨BitVec.eq_of_toNat_eq, fun h => h ▸ rfl⟩

/-- No entry and no delayed request for the entry's station is older. -/
def State.unhindered (s : State) (e : Entry) : Prop :=
  ¬ s.older e.dst.toNat e.seq
    ∧ ∀ d ∈ s.fwd.delayed, d.key.dst = e.dst → (d.st = .queued ∨ d.st = .inFlight) → e.seq ≤ d.seq

theorem State.entryEligible_iff : s.entryEligible e = true ↔ s.unhindered e := by
  simp only [State.entryEligible, State.unhindered, Bool.and_eq_true, Bool.not_eq_true', ← Bool.not_eq_true,
    State.postedBefore_iff, State.delayedBefore, List.any_eq_true, decide_eq_true_eq, Delayed.outstanding_iff,
    byte_toNat_inj]
  refine and_congr_right fun _ => ⟨fun h d hd hk ho => ?_, ?_⟩
  · by_contra lt
    exact h ⟨d, hd, ⟨hk, ho⟩, Nat.lt_of_not_le lt⟩
  · rintro h ⟨d, hd, ⟨hk, ho⟩, lt⟩
    exact absurd (h d hd hk ho) (Nat.not_le.mpr lt)

theorem State.broadcastEligible_iff :
    s.broadcastEligible e = true
      ↔ (∀ y ∈ s.fwd.posted, e.seq ≤ y.seq) ∧ (∀ a, s.held a = false → ∀ y ∈ (s.st a).hold, e.seq ≤ y.seq)
        ∧ ∀ d ∈ s.fwd.delayed, (d.st = .queued ∨ d.st = .inFlight) → e.seq ≤ d.seq := by
  simp only [State.broadcastEligible, Bool.and_eq_true, Bool.not_eq_true', List.any_eq_false, decide_eq_true_eq,
    Nat.not_lt, and_assoc, Delayed.outstanding_iff]
  refine and_congr_right fun _ => and_congr ⟨fun h a hh y hy => ?_, fun h a _ => ?_⟩
    ⟨fun h d hd ho => Nat.le_of_not_lt fun k => h d hd ⟨ho, k⟩, fun h d hd k => absurd (h d hd k.1) (Nat.not_le.mpr k.2)⟩
  · have known : hasRecord a := by
      by_contra none
      rw [s.st_none a none] at hy
      cases hy
    have all := h a ((mem_addresses a).mpr known)
    simp only [List.any_eq_true, decide_eq_true_eq, not_exists, not_and] at all
    exact Nat.le_of_not_lt (all y (State.mem_sendable.mpr ⟨hh, hy⟩))
  · simp only [List.any_eq_true, decide_eq_true_eq, not_exists, not_and]
    intro y hy
    obtain ⟨hh, hy⟩ := State.mem_sendable.mp hy
    exact Nat.not_lt.mpr (h a hh y hy)

theorem State.mem_classR (hd : s.draining = false) :
    d ∈ s.classR ↔ d ∈ s.fwd.delayed ∧ d.st = .queued ∧ ¬ s.older d.key.dst.toNat d.seq := by
  simp [State.classR, hd, ← State.postedBefore_iff]

theorem State.mem_classP (hd : s.draining = false) :
    e ∈ s.classP
      ↔ (e ∈ s.fwd.posted ∧ e.dst.toNat ≠ 0 ∧ s.unhindered e)
        ∨ (∃ a, s.held a = false ∧ e ∈ (s.st a).hold ∧ s.unhindered e)
        ∨ (e ∈ s.fwd.posted ∧ e.dst.toNat = 0 ∧ (∀ y ∈ s.fwd.posted, e.seq ≤ y.seq)
            ∧ (∀ a, s.held a = false → ∀ y ∈ (s.st a).hold, e.seq ≤ y.seq)
            ∧ ∀ d ∈ s.fwd.delayed, (d.st = .queued ∨ d.st = .inFlight) → e.seq ≤ d.seq) := by
  rw [State.classP, if_neg (by simp [hd]), List.mem_append, List.mem_filter, List.mem_flatMap,
    ← State.broadcastEligible_iff]
  have posted : (e ∈ s.fwd.posted ∧ (if e.broadcast = true then s.broadcastEligible e else s.entryEligible e) = true)
      ↔ (e ∈ s.fwd.posted ∧ e.dst.toNat ≠ 0 ∧ s.unhindered e)
        ∨ (e ∈ s.fwd.posted ∧ e.dst.toNat = 0 ∧ s.broadcastEligible e = true) := by
    by_cases hb : e.dst.toNat = 0
    · simp [Entry.broadcast, hb]
    · simp [Entry.broadcast, hb, State.entryEligible_iff]
  have held : (∃ a ∈ addresses, e ∈ (s.sendable a).filter s.entryEligible)
      ↔ ∃ a, s.held a = false ∧ e ∈ (s.st a).hold ∧ s.unhindered e := by
    simp only [List.mem_filter, State.mem_sendable, State.entryEligible_iff, and_assoc]
    refine ⟨fun ⟨a, _, h⟩ => ⟨a, h⟩, fun ⟨a, hh, he, hu⟩ => ⟨a, (mem_addresses a).mpr ?_, hh, he, hu⟩⟩
    by_contra none
    rw [s.st_none a none] at he
    cases he
  rw [posted, held, or_assoc, or_comm (a := e ∈ s.fwd.posted ∧ e.dst.toNat = 0 ∧ s.broadcastEligible e = true)]

theorem State.mem_classP_draining (hd : s.draining = true) :
    e ∈ s.classP
      ↔ e ∈ s.fwd.posted
        ∧ (∀ y ∈ s.fwd.posted, y.seq < e.seq → e.dst.toNat ≠ 0 ∧ y.dst.toNat ≠ 0 ∧ y.dst ≠ e.dst)
        ∧ ∀ d ∈ s.fwd.delayed, d.st = .inFlight → d.seq < e.seq → e.dst.toNat ≠ 0 ∧ d.key.dst ≠ e.dst := by
  rw [State.classP, if_pos hd, List.mem_filter]
  refine and_congr_right fun _ => ?_
  simp only [State.drainEligible, Bool.and_eq_true, Bool.not_eq_true', List.any_eq_false, decide_eq_true_eq,
    Bool.or_eq_true, Entry.broadcast, Entry.standsFor, byte_toNat_inj]
  refine and_congr (forall₂_congr fun y _ => ?_) (forall₂_congr fun d _ => ?_)
  · by_cases hb : e.dst.toNat = 0 <;> by_cases hz : y.dst.toNat = 0 <;> by_cases hy : y.dst = e.dst <;> simp [hb, hz, hy]
  · by_cases hb : e.dst.toNat = 0 <;> by_cases hy : d.key.dst = e.dst <;> simp [hb, hy]

/-! ## What class G offers first (R57, R58, R117) -/

/-- When the warnings of the WAKEs in phase COMMAND were satisfied. -/
def State.wakeTime (s : State) (a : Nat) : Option Nat :=
  if (s.st a).state = .waking ∧ (s.st a).phase = .command then some ((s.st a).satisfiedAt.getD 0) else none

/-- When the follow-ups that are due were due. -/
def State.followTime (s : State) (a : Nat) : Option Nat :=
  if (s.st a).state = .parking ∧ (s.st a).phase = .coast ∨ (s.st a).state = .waking ∧ (s.st a).phase = .settle then
    (s.st a).nextFollowUp.filter (fun n => n ≤ s.mono)
  else none

/-- When the PARKs in phase COMMAND were first sent. -/
def State.retryTime (s : State) (a : Nat) : Option Nat :=
  if (s.st a).state = .parking ∧ (s.st a).phase = .command then some ((s.st a).firstSent.getD 0) else none

theorem State.pickWake_eq : s.pickWake = earliest s.wakeTime := by
  unfold State.pickWake State.wakeTime
  simp only [State.inPhase_iff]

theorem State.pickFollowUp_eq : s.pickFollowUp = earliest s.followTime := by
  unfold State.pickFollowUp State.followUpTime State.followTime
  simp only [Bool.or_eq_true, State.inPhase_iff]
  rfl

theorem State.pickRetry_eq : s.pickRetry = earliest s.retryTime := by
  unfold State.pickRetry State.retryTime
  simp only [State.inPhase_iff]

theorem State.wakeTime_known (h : s.wakeTime a = some n) : hasRecord a := by
  unfold State.wakeTime at h
  split at h
  · next k => exact hasRecord_of_state s a (by simp [k.1])
  · cases h

theorem State.followTime_known (h : s.followTime a = some n) : hasRecord a := by
  unfold State.followTime at h
  split at h
  · next k => exact hasRecord_of_state s a (by rcases k with k | k <;> simp [k.1])
  · cases h

theorem State.retryTime_known (h : s.retryTime a = some n) : hasRecord a := by
  unfold State.retryTime at h
  split at h
  · next k => exact hasRecord_of_state s a (by simp [k.1])
  · cases h

theorem State.pickG_wake (hd : s.draining = false) (h : firstOf s.wakeTime a) :
    s.pickG = some (.request a .wake) := by
  obtain ⟨n, hn, -⟩ := id h
  rw [State.pickG, if_neg (by simp [hd]), State.pickWake_eq, earliest_eq (State.wakeTime_known hn) h]

theorem State.pickG_followUp (hd : s.draining = false) (hw : ∀ b, s.wakeTime b = none) (h : firstOf s.followTime a) :
    s.pickG = some (.request a .followUp) := by
  obtain ⟨n, hn, -⟩ := id h
  rw [State.pickG, if_neg (by simp [hd]), State.pickWake_eq, earliest_none hw, State.pickFollowUp_eq,
    earliest_eq (State.followTime_known hn) h]

theorem State.pickG_retry (hd : s.draining = false) (hw : ∀ b, s.wakeTime b = none) (hf : ∀ b, s.followTime b = none)
    (h : firstOf s.retryTime a) : s.pickG = some (.request a .park) := by
  obtain ⟨n, hn, -⟩ := id h
  rw [State.pickG, if_neg (by simp [hd]), State.pickWake_eq, earliest_none hw, State.pickFollowUp_eq,
    earliest_none hf, State.pickRetry_eq, earliest_eq (State.retryTime_known hn) h]

theorem State.pickG_park (hd : s.draining = false) (hw : ∀ b, s.wakeTime b = none) (hf : ∀ b, s.followTime b = none)
    (hr : ∀ b, s.retryTime b = none) : s.pickG = s.mayPark.map .head := by
  rw [State.pickG, if_neg (by simp [hd]), State.pickWake_eq, earliest_none hw, State.pickFollowUp_eq,
    earliest_none hf, State.pickRetry_eq, earliest_none hr]

/-- No SET is pending for a station (R37). -/
theorem State.setPending_iff :
    s.setPending a = false
      ↔ (∀ e ∈ s.fwd.posted, e.dst.toNat ≠ a ∧ e.dst.toNat ≠ 0) ∧ (s.held a = true ∨ (s.st a).hold = [])
        ∧ ∀ d ∈ s.fwd.delayed, d.key.dst.toNat = a → d.key.kind = .set → ¬ (d.st = .queued ∨ d.st = .inFlight) := by
  simp only [State.setPending, Bool.or_eq_false_iff, List.any_eq_false, Entry.broadcast, Bool.or_eq_true,
    decide_eq_true_eq, not_or, Bool.and_eq_true, Delayed.outstanding_iff, and_assoc, not_and]
  refine and_congr_right fun _ => and_congr_left fun _ => ?_
  unfold State.sendable
  cases s.held a <;> simp

theorem State.mayPark_cons {rest : List Nat} (h : s.parkQ = a :: rest) :
    s.mayPark
      = if s.parkCount < s.cfg.params.parkLimit ∧ s.setPending a = false ∧ (s.st a).lock = none then some a
        else none := by
  simp only [State.mayPark, h]

/-! ## Class S (R59) -/

/-- A scan poll's exchange is under way. -/
def State.polling (s : State) : Prop :=
  ∃ x, x.cls = .s ∧ (s.master.st = .sending x ∨ ∃ n, s.master.st = .awaitReply x n)

theorem State.polling_iff : s.polling ↔ s.master.underWay.any (fun x => x.cls = .s) = true := by
  unfold State.polling Master.underWay
  cases s.master.st <;> simp

theorem State.pickS_polls (hd : s.draining = false) (hs : s.scan.st = .scanning) (hp : ¬ s.polling) :
    s.pickS = some (s.slotAt s.scan.pos) := by
  rw [State.polling_iff] at hp
  rw [State.pickS, if_pos (by simp [hd, State.scanOffers, hs, hp])]
  rfl

theorem State.pickS_none (h : s.scan.st ≠ .scanning ∨ s.polling) : s.pickS = none := by
  rw [State.polling_iff] at h
  have offers : s.scanOffers = false := by
    rcases h with h | h <;> simp [State.scanOffers, h]
  rw [State.pickS, if_neg (by simp [offers])]

/-- Settles O37. -/
theorem arbitrationFollowsTable : Obligations.ArbitrationFollowsTable := by
  intro s older outstanding unhindered first wakes follows retries maySend polling
  refine ⟨⟨fun hg o ho => State.arbitration_of_g hg ho, fun hg => ⟨fun hs a ha => State.arbitration_of_s hg hs ha,
    fun hs => ?_⟩⟩, fun hd => ⟨?_, ?_, ?_, fun e => State.mem_classP_draining hd⟩, fun hd => ⟨fun d => State.mem_classR hd,
      fun e => State.mem_classP hd, fun a ha => State.pickG_wake hd ha, fun hw => ⟨fun a ha => State.pickG_followUp hd hw ha,
        fun hf => ⟨fun a ha => State.pickG_retry hd hw hf ha, fun hr => ⟨fun hq => ?_, fun a rest hq => ?_⟩⟩⟩,
      fun hs hp => State.pickS_polls hd hs hp, fun h => State.pickS_none h⟩⟩
  · have turn := State.arbitration_in_turn hg hs
    refine ⟨fun hr => ?_, fun hr => ⟨fun hp => ?_, fun hp => ?_⟩⟩
    · obtain ⟨d, hd⟩ := exists_least Delayed.seq hr
      exact ⟨d, (least_spec hd).1, by rw [turn, hd]; rfl, (least_spec hd).2⟩
    · obtain ⟨e, he⟩ := exists_least Entry.seq hp
      exact ⟨e, (least_spec he).1, by rw [turn, least_none.mpr hr, he]; rfl, (least_spec he).2⟩
    · rw [turn, least_none.mpr hr, least_none.mpr hp]
      exact ⟨fun o ho => by rw [ho]; rfl, fun hg => by rw [hg]; rfl⟩
  · exact if_pos hd
  · exact if_pos hd
  · rw [State.pickS, if_neg (by simp [hd])]
  · rw [State.pickG_park hd hw hf hr, State.mayPark, hq]
    rfl
  · rw [State.pickG_park hd hw hf hr, State.mayPark_cons hq]
    have may : maySend a ↔ s.parkCount < s.cfg.params.parkLimit ∧ s.setPending a = false ∧ (s.st a).lock = none := by
      rw [State.setPending_iff]
      simp only [and_assoc]
      rfl
    exact ⟨fun h => by rw [if_pos (may.mp h)]; rfl, fun h => by rw [if_neg (fun k => h (may.mpr k))]; rfl⟩

end Sys2Proof.Machine
end


section
/-! SUPPORT. What start-up and the warm reset leave: a table at rest, which the step's end lets no more than the
scanner's first poll out of (R60, R176, R191, R192). -/

namespace Sys2Proof.Machine

variable {s t : State} {a : Nat}

/-! ## The end of a step with nothing to do -/

/-- No station is known, nothing waits to be sent, and the master stands idle with its passes at zero. -/
structure State.Vacated (s : State) : Prop where
  st : ∀ a, (s.st a).state = .unknown
  hold : ∀ a, (s.st a).hold = []
  parkQ : s.parkQ = []
  posted : s.fwd.posted = []
  delayed : s.fwd.delayed = []
  master : s.master.st = .idle
  gPass : s.master.gPass = 0
  sPass : s.master.sPass = 0

theorem State.Vacated.anyHeld (h : s.Vacated) : s.anyHeld = false := by
  rw [Bool.eq_false_iff]
  intro hany
  obtain ⟨a, -, ha⟩ := List.any_eq_true.mp hany
  rw [State.held, h.st a] at ha
  exact absurd ha (by decide)

theorem State.Vacated.modeCheck (h : s.Vacated) :
    s.modeCheck = { s with mode := if s.mode = .draining then .pass else s.mode } := by
  by_cases hm : s.mode = .draining
  · rw [State.modeCheck, if_pos ⟨hm, h.anyHeld⟩, if_pos hm]
  · rw [State.modeCheck, if_neg fun hc => hm hc.1, if_neg hm]

theorem State.Vacated.inMode (h : s.Vacated) (m : Mode) : State.Vacated { s with mode := m } :=
  ⟨h.st, h.hold, h.parkQ, h.posted, h.delayed, h.master, h.gPass, h.sPass⟩

theorem State.Vacated.pickG (h : s.Vacated) : s.pickG = none := by
  by_cases hd : s.draining = true
  · exact if_pos hd
  · have park : s.mayPark = none := by simp only [State.mayPark, h.parkQ]
    rw [State.pickG_park (by simpa using hd) (fun b => by simp [State.wakeTime, h.st b])
      (fun b => by simp [State.followTime, h.st b]) (fun b => by simp [State.retryTime, h.st b]), park]
    rfl

theorem State.Vacated.arbitration (h : s.Vacated) : s.arbitration = s.pickS.map .s := by
  have noR : s.classR = [] := by simp [State.classR, h.delayed]
  have noP : s.classP = [] := by simp [State.classP, h.posted, State.sendable, h.hold]
  rw [State.arbitration_in_turn (Or.inl (by rw [h.gPass]; decide)) (Or.inl (by rw [h.sPass]; decide)), noR, noP, h.pickG]
  rfl

/-- The counters of the master and the F-port, which a grant does not touch. -/
structure State.SameCounts (s t : State) : Prop where
  rx : t.fport.rx = s.fport.rx
  cnt : t.fport.cnt = s.fport.cnt
  stray : t.master.stray = s.master.stray
  unsolicited : t.master.unsolicited = s.master.unsolicited
  timeouts : t.master.replyTimeouts = s.master.replyTimeouts
  mgmt : t.master.fMgmt = s.master.fMgmt

theorem State.startOwn_sameCounts (q : ReqRef) (b : Body) :
    s.startOwn .s q a b = { s with
      master := (s.startOwn .s q a b).master, fport := (s.startOwn .s q a b).fport }
    ∧ s.SameCounts (s.startOwn .s q a b) := by
  unfold State.startOwn State.startExchange
  dsimp only
  rw [State.offer_field_eq]
  refine ⟨rfl, ?_⟩
  constructor <;> simp only [State.offer] <;> cases hrx : s.fport.rx <;> simp [State.setMaster, State.port, State.setPort, hrx, Master.passed]

/-- The step's end of a table at rest: a drain of the mode is over, and an IDLE master takes the scanner's poll. -/
theorem State.Vacated.finish_eq (h : s.Vacated) :
    let u : State := { s with mode := if s.mode = .draining then .pass else s.mode }
    s.finish = u ∨ s.scan.st = .scanning ∧ ∃ b, s.finish = u.startOwn .s (.scan b) b .poll := by
  intro u
  have hu : u.Vacated := h.inMode _
  have end_ : s.finish = if u.mayGrant then State.arbitrate (u.parkQ.length + 1) u else u := by
    rw [State.finish, h.modeCheck]
  rw [end_]
  by_cases hg : u.mayGrant = true
  · rw [if_pos hg]
    rcases hp : u.pickS with _ | b
    · exact Or.inl (State.arbitrate_none _ (by rw [hu.arbitration, hp]; rfl))
    · have scanning : u.scan.st = .scanning := by
        by_contra hn
        rw [State.pickS_none (s := u) (Or.inl hn)] at hp
        cases hp
      exact Or.inr ⟨scanning, b, State.arbitrate_scan _ (by rw [hu.arbitration, hp]; rfl)⟩
  · exact Or.inl (if_neg hg)

theorem State.Vacated.finish (h : s.Vacated) :
    s.finish = { s with
      mode := if s.mode = .draining then .pass else s.mode, master := s.finish.master, fport := s.finish.fport }
    ∧ s.SameCounts s.finish := by
  rcases h.finish_eq with eq | ⟨-, b, eq⟩
  · rw [eq]
    exact ⟨rfl, rfl, rfl, rfl, rfl, rfl, rfl⟩
  · rw [eq]
    obtain ⟨only, counts⟩ := State.startOwn_sameCounts
      (s := { s with mode := if s.mode = .draining then .pass else s.mode }) (a := b) (.scan b) .poll
    exact ⟨only, counts.rx, counts.cnt, counts.stray, counts.unsolicited, counts.timeouts, counts.mgmt⟩

theorem State.Vacated.finish_quiet (h : s.Vacated) (hs : s.scan.st ≠ .scanning) :
    s.finish = { s with mode := if s.mode = .draining then .pass else s.mode } := by
  exact h.finish_eq.resolve_right fun scanning => hs scanning.1

theorem State.Vacated.setScan (h : s.Vacated) (c : Scanner) : (s.setScan c).Vacated :=
  ⟨h.st, h.hold, h.parkQ, h.posted, h.delayed, h.master, h.gPass, h.sPass⟩

/-! ## The scanner's auto-start (R176) -/

theorem State.autoScan_off (h : s.cfg.scan.autoStart = false ∨ s.cfg.scan.len = 0) : s.autoScan = s := by
  refine if_neg fun hc => ?_
  rcases h with h | h
  · rw [h] at hc
    exact absurd hc.1 (by decide)
  · exact absurd hc.2 (by omega)

theorem State.autoScan_due (h : s.cfg.scan.autoStart = true) (hd : s.dueEntry s.cfg.scan.startIdx) :
    s.autoScan = s.setScan
      ⟨.scanning, s.cfg.scan.startIdx, s.mono, none, false, .repeating, s.scan.freshSkips⟩ := by
  have hlen : 0 < s.cfg.scan.len := Nat.lt_of_le_of_lt (Nat.zero_le _) hd.1
  refine (if_pos ⟨h, hlen⟩).trans ?_
  exact State.scanSelect_due 79 (s := s.setScan _) hd

/-- A selection in a table where no station is fresh counts no skip. -/
theorem State.scanSelect_freshSkips (n : Nat) (h : ∀ a, s.fresh a = false) :
    (State.scanSelect n s).scan.freshSkips = s.scan.freshSkips := by
  induction n generalizing s with
  | zero => rfl
  | succ n ih =>
    unfold State.scanSelect
    dsimp only
    split
    · split
      · rfl
      · rfl
      · split
        · rfl
        · exact ih (s := s.setScan _) h
    · split
      · unfold State.scanSkip
        dsimp only
        split
        · rfl
        · exact ih (s := s.setScan _) h
      · rw [h]
        rfl

theorem State.autoScan_freshSkips (h : ∀ a, s.fresh a = false) :
    s.autoScan.scan.freshSkips = s.scan.freshSkips := by
  unfold State.autoScan
  split
  · exact State.scanSelect_freshSkips 80 (s := s.setScan _) h
  · rfl

/-! ## Start-up (R191) -/

theorem State.vacated_powerOnValues (s : State) : s.powerOnValues.Vacated where
  st a := by rw [State.powerOnValues_st]; rfl
  hold a := by rw [State.powerOnValues_st]; rfl
  parkQ := rfl
  posted := rfl
  delayed := rfl
  master := rfl
  gPass := rfl
  sPass := rfl

/-- Start-up keeps the image's mode: a stored one is never DRAINING. -/
theorem State.startImage_mode (h : s.image.mode ≠ .draining) : s.startImage.mode ≠ .draining := by
  unfold State.startImage
  split
  · exact h
  · exact Mode.noConfusion

theorem State.powerOnValues_mode (s : State) (h : s.image.mode ≠ .draining) :
    (if s.powerOnValues.mode = .draining then Mode.pass else s.powerOnValues.mode) = s.powerOnValues.mode :=
  if_neg (State.startImage_mode h)

/-- Start-up moves no block but the scanner, the master and the F-port away from the power-on values. -/
theorem State.startUp_eq (h : s.image.mode ≠ .draining) :
    s.startUp = { s.powerOnValues with
      scan := s.powerOnValues.autoScan.scan, master := s.startUp.master, fport := s.startUp.fport }
    ∧ s.powerOnValues.SameCounts s.startUp := by
  obtain ⟨c, hc⟩ := s.powerOnValues.autoScan_changes_scan
  have hv := s.vacated_powerOnValues.setScan c
  obtain ⟨eq, counts⟩ := hv.finish
  unfold State.startUp
  rw [hc]
  refine ⟨eq.trans ?_, counts.rx, counts.cnt, counts.stray, counts.unsolicited, counts.timeouts, counts.mgmt⟩
  change ({ s.powerOnValues with
    scan := c, mode := if s.powerOnValues.mode = .draining then .pass else s.powerOnValues.mode
    master := _, fport := _ } : State) = _
  rw [s.powerOnValues_mode h]
  rfl

theorem State.st_startUp (h : s.image.mode ≠ .draining) (a : Nat) : s.startUp.st a = .reset := by
  rw [← s.powerOnValues_st a]
  refine State.st_congr _ _ ?_ a
  rw [(State.startUp_eq h).1]

/-- With no scan to start, start-up is the power-on values alone. -/
theorem State.startUp_quiet (h : s.image.mode ≠ .draining)
    (hs : s.startTables.scan.autoStart = false ∨ s.startTables.scan.len = 0) : s.startUp = s.powerOnValues := by
  unfold State.startUp
  rw [State.autoScan_off (s := s.powerOnValues) hs, s.vacated_powerOnValues.finish_quiet (ScanState.noConfusion)]
  change ({ s.powerOnValues with mode := if s.powerOnValues.mode = .draining then .pass else s.powerOnValues.mode }
    : State) = _
  rw [s.powerOnValues_mode h]

theorem State.powerOnValues_fresh (s : State) (a : Nat) : s.powerOnValues.fresh a = false := by
  simp [State.fresh, Station.reset]

theorem State.loadsImage_iff : s.loadsImage = true ↔ s.straps.imgIgn = false ∧ s.imageValid = true := by
  simp [State.loadsImage]

/-- Settles O13: start-up is the power-on values (`State.startUp_eq`), whose scanner the auto-start sets, and of whose
master and F-port the first poll leaves the counters (R176, R191). -/
theorem startUpLoadsImageOrDefaults : Obligations.StartUpLoadsImageOrDefaults := by
  intro s off mode load policy defaults from_ lines
  have image : s.startImage = from_ := if_congr State.loadsImage_iff rfl rfl
  have invalid : (!s.loadsImage) = decide (¬ load) := by
    rw [decide_not]
    exact congrArg _ ((Bool.eq_iff_iff).mpr (State.loadsImage_iff.trans (decide_eq_true_iff).symm))
  obtain ⟨eq, counts⟩ := State.startUp_eq mode
  have tables : s.startTables = { from_.cfg with policies := from_.cfg.policies.setIfInBounds (s.straps.addr - 1) policy } := by
    unfold State.startTables
    rw [image]
    rfl
  have cfg : s.startUp.cfg = s.startTables := by rw [eq]; rfl
  have scan : s.startUp.scan = s.powerOnValues.autoScan.scan := by rw [eq]
  refine ⟨s.startUp, exec_startUp_of_offline s off, ?_⟩
  refine ⟨?_, ?_, ?_, ?_, cfg.trans tables, ?_, ?_, ?_, ?_, ?_, ?_, ?_, ?_, ?_, ?_, ?_, ?_, ?_, ?_, ?_, ?_, ?_,
    counts.rx, counts.cnt, counts.stray, counts.unsolicited, counts.timeouts, counts.mgmt, ?skips, ?quiet, ?starts,
    s.st_startUp mode⟩
  case skips =>
    rw [scan, State.autoScan_freshSkips s.powerOnValues_fresh]
    rfl
  case quiet =>
    intro hs
    rw [cfg] at hs
    rw [State.startUp_quiet mode hs]
    exact ⟨rfl, rfl, rfl⟩
  case starts =>
    intro hs hd
    rw [cfg] at hs hd
    have due : s.powerOnValues.dueEntry s.startTables.scan.startIdx := by
      rw [eq] at hd
      obtain ⟨hlt, present, -⟩ := hd
      refine ⟨hlt, present, ?_⟩
      rw [State.freshEntry, State.powerOnValues_fresh, Bool.and_false]
    rw [scan, State.autoScan_due (s := s.powerOnValues) hs due, cfg]
    rfl
  all_goals rw [eq]
  · rfl
  · rfl
  · rfl
  · rfl
  · exact congrArg Image.mode image
  · change (if s.startTables.code = _ then _ else _) = _
    rw [tables]
    rfl
  · rfl
  · change ({ Attention.clear with imageInvalid := !s.loadsImage } : Attention) = _
    rw [invalid]
    rfl
  all_goals rfl

end Sys2Proof.Machine
end


section
/-! SUPPORT. The warm reset: what it accounts, what it loses, and the values it leaves (R47, R99, R192). -/

namespace Sys2Proof.Machine

variable {s t : State} {a : Nat}

/-! ## Accounting every PARKED station (R99) -/

theorem State.accountParked_eq (s : State) (a : Nat) :
    s.accountParked a = { s with stations := (s.accountParked a).stations } := by
  unfold State.accountParked
  split
  · exact State.modSt_eq ..
  · rfl

theorem State.st_accountParked_other (s : State) {a b : Nat} (h : b ≠ a) : (s.accountParked a).st b = s.st b := by
  unfold State.accountParked
  split
  · exact s.st_account_other a b h
  · rfl

/-- What accounting a station comes to depends on its record, its policy and the time. -/
theorem State.st_accountParked_congr (hst : t.st a = s.st a) (hcfg : t.cfg = s.cfg) (hm : t.mono = s.mono) :
    (t.accountParked a).st a = (s.accountParked a).st a := by
  unfold State.accountParked
  rw [hst]
  split
  · next hp =>
    have ha : hasRecord a := hasRecord_of_state _ a (by rw [hp]; exact StState.noConfusion)
    unfold State.account
    dsimp only
    rw [State.st_modSt_self _ _ _ ha, State.st_modSt_self _ _ _ ha, hst]
    simp only [State.now, State.pol, hm, hcfg]
  · exact hst

theorem State.accountAll_eq (s : State) (l : List Nat) :
    l.foldl State.accountParked s = { s with stations := (l.foldl State.accountParked s).stations } := by
  induction l generalizing s with
  | nil => rfl
  | cons b l ih =>
    rw [List.foldl_cons, ih, State.accountParked_eq]

theorem State.st_accountAll {l : List Nat} (hl : l.Nodup) (a : Nat) :
    (l.foldl State.accountParked s).st a = if a ∈ l then (s.accountParked a).st a else s.st a := by
  induction l generalizing s with
  | nil => rfl
  | cons b l ih =>
    obtain ⟨hb, hl⟩ := List.nodup_cons.mp hl
    rw [List.foldl_cons, ih hl]
    by_cases hab : a = b
    · subst hab
      rw [if_neg hb, if_pos List.mem_cons_self]
    · have cfg : (s.accountParked b).cfg = s.cfg := by rw [State.accountParked_eq]
      have mono : (s.accountParked b).mono = s.mono := by rw [State.accountParked_eq]
      rw [State.st_accountParked_congr (s.st_accountParked_other hab) cfg mono, s.st_accountParked_other hab]
      simp [hab]

/-- Every PARKED station is accounted to now. -/
theorem State.st_accountAddresses (s : State) (a : Nat) :
    (addresses.foldl State.accountParked s).st a = (s.accountParked a).st a := by
  rw [State.st_accountAll addresses_nodup]
  split
  · rfl
  · next ha =>
    rw [mem_addresses] at ha
    rw [State.st_none _ a ha, State.st_none _ a ha]

/-- Accounting moves the park mark and the statistics alone. -/
theorem State.accountParked_kept (s : State) (a : Nat) :
    ((s.accountParked a).st a) = { s.st a with
      parkMark := ((s.accountParked a).st a).parkMark, stats := ((s.accountParked a).st a).stats } := by
  unfold State.accountParked
  split
  · next hp =>
    have ha : hasRecord a := hasRecord_of_state _ a (by rw [hp]; exact StState.noConfusion)
    unfold State.account
    dsimp only
    rw [State.st_modSt_self _ _ _ ha]
    unfold Station.account
    split <;> rfl
  · rfl

/-! ## Losing the held entries (R30, R47) -/

/-- The entries the warm reset loses: rising addresses, oldest first. -/
def State.heldEntries (s : State) : List Entry := addresses.flatMap fun a => (s.st a).hold

theorem State.loseAll_concat (s : State) (l : List Entry) (e : Entry) :
    (l ++ [e]).foldl (fun u x => u.lose x .reset 0) s
      = { s with
          fwd :=
            { s.fwd with
              lastLost := ⟨e.dst.toNat, e.tag, e.what.action, .reset, 0⟩
              cnt := { s.fwd.cnt with lost := min (s.fwd.cnt.lost + (l.length + 1)) 65535 } }
          flags := { s.flags with postedLost := true } } := by
  induction l using List.reverseRecOn generalizing e with
  | nil => rfl
  | append_singleton l x ih =>
    rw [List.foldl_append, ih, List.foldl_cons, List.foldl_nil, State.lose_eq]
    have count : min (min (s.fwd.cnt.lost + (l.length + 1)) 65535 + 1) 65535
        = min (s.fwd.cnt.lost + ((l ++ [x]).length + 1)) 65535 := by
      rw [List.length_append, List.length_singleton]
      omega
    rw [← count]

theorem State.loseAll_stations (s : State) (l : List Entry) :
    (l.foldl (fun u x => u.lose x .reset 0) s).stations = s.stations := by
  induction l generalizing s with
  | nil => rfl
  | cons x l ih => exact ih _

theorem State.loseHolds_foldl (s : State) (l : List Nat) :
    l.foldl (fun t a => (t.st a).hold.foldl (fun u e => u.lose e .reset 0) t) s
      = (l.flatMap fun a => (s.st a).hold).foldl (fun u e => u.lose e .reset 0) s := by
  induction l generalizing s with
  | nil => rfl
  | cons a l ih =>
    have same (b : Nat) : (((s.st a).hold.foldl (fun u e => u.lose e .reset 0) s).st b).hold = (s.st b).hold :=
      congrArg Station.hold (State.st_congr _ _ (s.loseAll_stations _) b)
    rw [List.foldl_cons, ih, List.flatMap_cons, List.foldl_append]
    simp only [same]

theorem State.loseHolds_none (h : s.heldEntries = []) : s.loseHolds = s :=
  (s.loseHolds_foldl addresses).trans (by rw [show (addresses.flatMap fun a => (s.st a).hold) = [] from h]; rfl)

theorem State.loseHolds_last {e : Entry} (h : s.heldEntries.getLast? = some e) :
    s.loseHolds
      = { s with
          fwd :=
            { s.fwd with
              lastLost := ⟨e.dst.toNat, e.tag, e.what.action, .reset, 0⟩
              cnt := { s.fwd.cnt with lost := min (s.fwd.cnt.lost + s.heldEntries.length) 65535 } }
          flags := { s.flags with postedLost := true } } := by
  obtain ⟨l, hl⟩ := List.getLast?_eq_some_iff.mp h
  refine (s.loseHolds_foldl addresses).trans ?_
  rw [show (addresses.flatMap fun a => (s.st a).hold) = l ++ [e] from hl, State.loseAll_concat, hl,
    List.length_append, List.length_singleton]

/-- The losses move the loss record, the loss count and POSTED_LOST alone. -/
theorem State.loseHolds_eq (s : State) :
    s.loseHolds = { s with
      fwd := { s.fwd with lastLost := s.loseHolds.fwd.lastLost, cnt := s.loseHolds.fwd.cnt }
      flags := s.loseHolds.flags } := by
  rcases h : s.heldEntries.getLast? with _ | e
  · rw [State.loseHolds_none (List.getLast?_eq_none_iff.mp h)]
  · rw [State.loseHolds_last h]

/-! ## What the reset has accounted and lost before it sets its values -/

/-- The state of a warm reset after the accounting and the losses: its records, its loss record and the flags. -/
structure State.Settled (s u : State) : Prop where
  only : u = { s with
    stations := u.stations, fwd := { s.fwd with lastLost := u.fwd.lastLost, cnt := u.fwd.cnt }, flags := u.flags }
  st : ∀ a, u.st a = (s.accountParked a).st a
  none : s.heldEntries = [] → u.fwd = s.fwd ∧ u.flags = s.flags
  last : ∀ e, s.heldEntries.getLast? = some e →
    u.fwd.cnt = { s.fwd.cnt with lost := min (s.fwd.cnt.lost + s.heldEntries.length) 65535 }
    ∧ u.fwd.lastLost = ⟨e.dst.toNat, e.tag, e.what.action, .reset, 0⟩
    ∧ u.flags = { s.flags with postedLost := true }

theorem State.heldEntries_accounted {v : State} (hst : ∀ a, v.st a = (s.accountParked a).st a) :
    v.heldEntries = s.heldEntries := by
  unfold State.heldEntries
  congr 1
  funext a
  rw [hst, State.accountParked_kept]

theorem State.settled_of_accounted {v : State} (h : v = { s with stations := v.stations })
    (hst : ∀ a, v.st a = (s.accountParked a).st a) : s.Settled v.loseHolds := by
  have held := State.heldEntries_accounted hst
  have fwd : v.fwd = s.fwd := by rw [h]
  have flags : v.flags = s.flags := by rw [h]
  refine ⟨?_, fun a => ?_, fun hn => ?_, fun e he => ?_⟩
  · have stations : v.loseHolds.stations = v.stations := by rw [v.loseHolds_eq]
    rw [stations]
    exact v.loseHolds_eq.trans (congrArg (fun u : State => { u with
      fwd := { u.fwd with lastLost := v.loseHolds.fwd.lastLost, cnt := v.loseHolds.fwd.cnt }
      flags := v.loseHolds.flags }) h)
  · rw [← hst]
    refine State.st_congr _ _ ?_ a
    rw [v.loseHolds_eq]
  · rw [State.loseHolds_none (held.trans hn)]
    exact ⟨fwd, flags⟩
  · rw [State.loseHolds_last (held ▸ he), held, ← fwd, ← flags]
    exact ⟨rfl, rfl, rfl⟩

/-! ## The warm values -/

theorem State.st_warm_of_settled {u : State} (h : s.Settled u) (a : Nat) :
    u.warmed.st a = ((s.accountParked a).st a).warm := by
  rw [State.st_warmed, h.st]

theorem State.warmDue_iff :
    s.warmDue = true ↔ s.drain = .running true ∧ s.fwd.posted = [] ∧ s.master.underWay = none := by
  simp [State.warmDue, State.drained]

theorem State.vacated_warmed {u : State} (h : s.Settled u) (hp : s.fwd.posted = []) : u.warmed.Vacated where
  st a := by rw [State.st_warmed]; rfl
  hold a := by rw [State.st_warmed]; rfl
  parkQ := rfl
  posted := by
    change u.fwd.posted = []
    rw [h.only]
    exact hp
  delayed := rfl
  master := rfl
  gPass := rfl
  sPass := rfl

/-- The warm reset moves no block but the scanner, the master and the F-port away from the warm values, and ends a
drain of the mode. -/
theorem State.warmReset_eq (h : s.warmDue = true) :
    ∃ u, s.Settled u ∧ s.warmReset = u.warmed.autoScan.finish
      ∧ s.warmReset = { u.warmed with
          scan := u.warmed.autoScan.scan, mode := if u.mode = .draining then .pass else u.mode
          master := s.warmReset.master, fport := s.warmReset.fport }
      ∧ u.warmed.SameCounts s.warmReset := by
  obtain ⟨-, posted, -⟩ := State.warmDue_iff.mp h
  have is : s.warmReset = s.warmValues.autoScan.finish := if_pos h
  rw [State.warmValues_eq] at is
  have hs : s.Settled (addresses.foldl State.accountParked s).loseHolds :=
    State.settled_of_accounted (s.accountAll_eq addresses) s.st_accountAddresses
  generalize (addresses.foldl State.accountParked s).loseHolds = u at is hs
  obtain ⟨c, hc⟩ := u.warmed.autoScan_changes_scan
  obtain ⟨eq, counts⟩ := ((State.vacated_warmed hs posted).setScan c).finish
  refine ⟨u, hs, is, ?_⟩
  rw [is, hc]
  exact ⟨eq, counts.rx, counts.cnt, counts.stray, counts.unsolicited, counts.timeouts, counts.mgmt⟩

theorem exec_warmResetApplied (ho : s.online = true) : exec .warmResetApplied s = .next s.warmReset :=
  congrArg _ (State.whenOnline_of_online _ ho)

theorem Access.warm_eq (x : Access) : x.warm = if x = .unlocked then .locked else x := by
  cases x <;> rfl

theorem State.warmed_fresh (u : State) (a : Nat) : u.warmed.fresh a = false := by
  simp [State.fresh, State.st_warmed, Station.warm, Station.reset]

theorem State.absentEntry_congr (hc : t.cfg = s.cfg) (hs : t.straps = s.straps) (j : Nat) :
    t.absentEntry j = s.absentEntry j := by
  have slot : t.slotAt j = s.slotAt j := congrArg (fun c : Tables => c.scan.slots[j]?.getD 0) hc
  rw [State.absentEntry, State.absentEntry, slot, hs, State.pol_congr _ _ hc]

/-- Settles O14: the reset accounts, loses and sets its values (`State.warmReset_eq`); what a scan starts and what its
first poll moves stay apart from them. -/
theorem warmResetGivesWarmValues : Obligations.WarmResetGivesWarmValues := by
  intro s online due lost stopped
  obtain ⟨u, hs, is, eq, counts⟩ := State.warmReset_eq due
  obtain ⟨-, posted, -⟩ := State.warmDue_iff.mp due
  have fields := hs.only
  have hcfg : u.cfg = s.cfg := by rw [fields]
  refine ⟨s.warmReset, exec_warmResetApplied online, fun a => ?records, ?_⟩
  case records =>
    have same : s.warmReset.st a = u.warmed.st a := State.st_congr _ _ (by rw [eq]) a
    rw [same, State.st_warm_of_settled hs, State.accountParked_kept]
    rfl
  have access : u.access.warm = if s.access = .unlocked then .locked else s.access := by
    rw [Access.warm_eq, fields]
  have cport : u.cport.stopped = { s.cport with rx := .hunting, tx := stopped s.cport.tx } := by
    rw [fields]
    rfl
  have fcnt : u.warmed.fport.cnt = s.fport.cnt := by
    change u.fport.cnt = _
    rw [fields]
  have fwd : s.warmReset.fwd.cnt = u.fwd.cnt ∧ s.warmReset.fwd.lastLost = u.fwd.lastLost := by
    rw [eq]
    exact ⟨rfl, rfl⟩
  have flags : s.warmReset.flags = u.flags := by rw [eq]; rfl
  have scan : s.warmReset.scan = u.warmed.autoScan.scan := by rw [eq]
  refine ⟨by rw [eq]; rfl, by rw [eq]; rfl, by rw [eq]; rfl, ?posted, by rw [eq]; rfl, by rw [eq]; rfl,
    by rw [eq]; rfl, by rw [eq]; rfl, by rw [eq]; exact access, ?unlocks, ?cfg, ?clock, ?mono, ?straps, by rw [eq]; rfl,
    by rw [eq]; rfl, ?mode, by rw [eq]; exact cport, counts.rx, counts.cnt.trans fcnt, fun hn => ?none,
    fun e he => ?last, fun hq => ?quiet, fun hstart hlen present => ?starts⟩
  case none =>
    obtain ⟨sameFwd, sameFlags⟩ := hs.none hn
    rw [fwd.1, fwd.2, flags, sameFwd, sameFlags]
    exact ⟨rfl, rfl, rfl⟩
  case last =>
    rw [fwd.1, fwd.2, flags]
    exact hs.last e he
  case quiet =>
    have hoff : u.warmed.cfg.scan.autoStart = false ∨ u.warmed.cfg.scan.len = 0 := by
      change u.cfg.scan.autoStart = false ∨ u.cfg.scan.len = 0
      rwa [hcfg]
    rw [is, State.autoScan_off hoff, (State.vacated_warmed hs posted).finish_quiet ScanState.noConfusion]
    change u.master.warm = _ ∧ u.fport.stopped.tx = _ ∧ u.scan.warm = _
    rw [fields]
    exact ⟨rfl, rfl, rfl⟩
  case starts =>
    have hon : u.warmed.cfg.scan.autoStart = true := by
      change u.cfg.scan.autoStart = true
      rwa [hcfg]
    have straps : u.warmed.straps = s.straps := by
      change u.straps = s.straps
      rw [fields]
    have idx : u.warmed.cfg.scan.startIdx = s.cfg.scan.startIdx := congrArg (·.scan.startIdx) hcfg
    have hdue : u.warmed.dueEntry u.warmed.cfg.scan.startIdx := by
      rw [idx]
      refine ⟨?_, ?_, ?_⟩
      · change _ < u.cfg.scan.len
        rwa [hcfg]
      · rw [← present]
        exact State.absentEntry_congr hcfg straps _
      · rw [State.freshEntry, State.warmed_fresh, Bool.and_false]
    rw [scan, State.autoScan_due hon hdue, idx]
    change (⟨_, _, u.mono, _, _, _, u.scan.freshSkips⟩ : Scanner) = _
    rw [fields]
  case cfg => rw [eq]; exact hcfg
  case mode =>
    have hm : u.mode = s.mode := by rw [fields]
    rw [eq, hm]
  all_goals
    rw [eq]
  case posted =>
    change u.fwd.posted = []
    rw [fields]
    exact posted
  case unlocks => change u.unlocks = _; rw [fields]
  case clock => change u.clock = _; rw [fields]
  case mono => change u.mono = _; rw [fields]
  case straps => change u.straps = _; rw [fields]

end Sys2Proof.Machine
end


section
/-! SUPPORT. Replies to the polls: what the owner of the poll is given, and what the observation of a STATUS begins
with (R40, R53, R54, R58, R72, R178). -/

namespace Sys2Proof.Machine

open Station (BeliefKept HoldKept beliefOrder holdOrder)

variable {s t u v : State} {a b d : Nat} {x : Exchange} {f : Frame} {r : StatusRec} {k : DelayKey}

/-! ## The state the owner's outcome meets -/

/-- The exchange has ended, its gap has begun, and a STATUS has been observed (R53, R54). -/
def State.replied (s : State) (x : Exchange) (f : Frame) : State := ((s.hunt .f).gapped x).observeReply f

theorem State.replied_kept (s : State) (x : Exchange) (f : Frame) :
    ((s.hunt .f).gapped x).Kept HoldKept (s.replied x f) := by
  unfold State.replied State.observeReply
  split
  · exact State.observe_holds _ _ _
  · exact .refl holdOrder _

theorem State.replied_quiet (h : ∀ r, f.body ≠ .status r) : s.replied x f = (s.hunt .f).gapped x := by
  unfold State.replied State.observeReply
  split
  · exact absurd ‹_› (h _)
  · rfl

theorem State.gapped_settings (s : State) (x : Exchange) : s.settingsKept ((s.hunt .f).gapped x) :=
  s.hunt_settings .f

theorem State.replied_settings (s : State) (x : Exchange) (f : Frame) : s.settingsKept (s.replied x f) :=
  (s.gapped_settings x).trans (s.replied_kept x f).settingsKept

theorem State.replied_master (s : State) (x : Exchange) (f : Frame) :
    (s.replied x f).master = { s.master with st := .gap x (s.lineTime + 3 * s.charTime) } :=
  (s.replied_kept x f).master

theorem exec_reply_replied (h : s.hearsField f = true) (hm : s.master.st = .awaitReply x d) (hx : x.fits f = true) :
    exec (.reply f) s = .next ((s.replied x f).outcome x (some f)).finish := exec_reply h hm hx

theorem exec_reply_delayed (h : s.hearsField f = true) (hm : s.master.st = .awaitReply x d) (hx : x.fits f = true)
    (hk : x.req = .delayed k) :
    exec (.reply f) s = .next ((s.replied x f).delayedOutcome k (some f)).modeCheck := by
  rw [exec_reply_replied h hm hx, State.outcome_delayed hk, State.finish_in_gap (x := x) (g := _)]
  exact congrArg Master.st (s.replied_master x f)

theorem State.followUpOutcome_eq (v : State) (b : Nat) :
    v.followUpOutcome b true
      = if (v.inPhase b .parking .coast || v.inPhase b .waking .settle) = true then
          v.modSt b fun r => { r with attempts := 0, nextFollowUp := some (v.mono + 1000) }
        else v := by
  unfold State.followUpOutcome
  dsimp only
  split
  · exact if_pos (Or.inl rfl)
  · rfl

theorem exec_reply_followUp (h : s.hearsField f = true) (hm : s.master.st = .awaitReply x d) (hx : x.fits f = true)
    (hk : x.req = .gate b .followUp) :
    exec (.reply f) s = .next ((s.replied x f).followUpOutcome b true).modeCheck := by
  rw [exec_reply_replied h hm hx, State.outcome_followUp hk, State.finish_in_gap (x := x) (g := _)]
  · rfl
  · refine congrArg Master.st (Eq.trans ?_ (s.replied_master x f))
    change ((s.replied x f).followUpOutcome b true).master = _
    rw [State.followUpOutcome_eq]
    split
    · exact State.modSt_master ..
    · rfl

theorem exec_reply_scan (h : s.hearsField f = true) (hm : s.master.st = .awaitReply x d) (hx : x.fits f = true)
    (hk : x.req = .scan b) :
    exec (.reply f) s = .next ((s.replied x f).scanOutcome b true).modeCheck := by
  obtain ⟨c, hc⟩ := (s.replied x f).scanOutcome_changes_scan b
  rw [exec_reply_replied h hm hx, State.outcome_scan hk]
  change Host.Outcome.next ((s.replied x f).scanOutcome b true).finish = _
  rw [State.finish_in_gap (x := x) (g := _)]
  rw [hc]
  exact congrArg Master.st (s.replied_master x f)

/-! ## What the outcome of a poll leaves -/

/-- The record of a station whose follow-up poll, if it is the one of exchange `x`, has been answered (R58). -/
def State.followed (v : State) (x : Exchange) (b : Nat) : Station :=
  if x.req = .gate b .followUp ∧ (v.inPhase b .parking .coast || v.inPhase b .waking .settle) = true then
    { v.st b with attempts := 0, nextFollowUp := some (v.mono + 1000) }
  else v.st b

/-- The outcome of an answered poll: at most the delayed table, the scanner, the mode, and the attempts and the next
follow-up of the station polled move. -/
structure State.Owned (x : Exchange) (v t : State) : Prop where
  st : ∀ b, t.st b = v.followed x b
  parkQ : t.parkQ = v.parkQ
  demandQ : t.demandQ = v.demandQ
  schedQ : t.schedQ = v.schedQ
  starved : t.starved = v.starved
  flags : t.flags = v.flags
  settings : v.settingsKept t

theorem State.followed_of_other (h : ∀ b, x.req ≠ .gate b .followUp) (b : Nat) : v.followed x b = v.st b :=
  if_neg fun hc => h b hc.1

theorem State.Owned.of_fields (h : ∀ b, x.req ≠ .gate b .followUp)
    (ht : t = { v with fwd := t.fwd, scan := t.scan, mode := t.mode }) : v.Owned x t := by
  constructor
  case st =>
    intro b
    rw [State.followed_of_other h]
    exact State.st_congr _ _ (by rw [ht]) b
  case settings =>
    rw [ht]
    exact ⟨rfl, rfl, rfl, rfl, rfl, rfl, rfl, rfl, rfl, rfl, rfl⟩
  all_goals rw [ht]

theorem State.followUpOutcome_owned (hk : x.req = .gate b .followUp) : v.Owned x (v.followUpOutcome b true).modeCheck := by
  rw [State.modeCheck_eq]
  generalize (v.followUpOutcome b true).modeCheck.mode = m
  rw [State.followUpOutcome_eq]
  have own (c : Nat) : x.req = .gate c .followUp ↔ c = b := by
    rw [hk]
    exact ⟨fun h => by injection h with h; exact h.symm, fun h => by rw [h]⟩
  split
  · next hp =>
    have hb : hasRecord b := by
      refine hasRecord_of_state v b fun hu => ?_
      simp [State.inPhase, hu] at hp
    refine ⟨fun c => ?_, ?_, ?_, ?_, ?_, ?_, (v.modSt_settings b _).trans ⟨rfl, rfl, rfl, rfl, rfl, rfl, rfl, rfl, rfl, rfl, rfl⟩⟩
    · refine (State.st_congr _ _ rfl c).trans ?_
      by_cases hc : c = b
      · subst hc
        exact (v.st_modSt_self _ _ hb).trans (if_pos ⟨hk, hp⟩).symm
      · exact (v.st_modSt_other _ _ _ hc).trans (if_neg fun h => hc ((own c).mp h.1)).symm
    all_goals simp
  · next hp =>
    refine ⟨fun c => ?_, rfl, rfl, rfl, rfl, rfl, rfl, rfl, rfl, rfl, rfl, rfl, rfl, rfl, rfl, rfl, rfl⟩
    refine (State.st_congr _ _ rfl c).trans (if_neg fun h => hp ?_).symm
    rw [← (own c).mp h.1]
    exact h.2

theorem exec_reply_polls (h : s.hearsField f = true) (hm : s.master.st = .awaitReply x d) (hx : x.fits f = true)
    (hp : x.polls = true) : ∃ t, exec (.reply f) s = .next t ∧ (s.replied x f).Owned x t := by
  unfold Exchange.polls at hp
  split at hp
  · next k hk =>
    refine ⟨_, exec_reply_delayed h hm hx hk, .of_fields (fun b hb => ?_) ?_⟩
    · rw [hk] at hb
      cases hb
    · rw [State.modeCheck_eq]
      rfl
  · next b hk => exact ⟨_, exec_reply_followUp h hm hx hk, State.followUpOutcome_owned hk⟩
  · next b hk =>
    refine ⟨_, exec_reply_scan h hm hx hk, .of_fields (fun b hb => ?_) ?_⟩
    · rw [hk] at hb
      cases hb
    · obtain ⟨c, hc⟩ := (s.replied x f).scanOutcome_changes_scan b
      rw [State.modeCheck_eq, hc]
      rfl
  · cases hp

/-- Besides its attempts and its next follow-up the outcome of a poll leaves every record. -/
theorem State.Owned.record (h : v.Owned x t) (b : Nat) :
    t.st b = { v.st b with attempts := (t.st b).attempts, nextFollowUp := (t.st b).nextFollowUp } := by
  rw [h.st, State.followed]
  split <;> rfl

theorem State.Owned.st_of_resting (h : v.Owned x t) (hs : (v.st b).state ≠ .parking ∧ (v.st b).state ≠ .waking) :
    t.st b = v.st b := by
  rw [h.st, State.followed, if_neg]
  rintro ⟨-, hp⟩
  simp [State.inPhase, hs.1, hs.2] at hp

end Sys2Proof.Machine
end


section
/-! SUPPORT. What an observation begins with, and what its dispatch leaves of every record: what was seen, the hold
list, the lock and, once the station is known, the shadow (R72, R73). -/

namespace Sys2Proof.Machine

open Station (BeliefKept HoldKept beliefOrder holdOrder)

variable {s t u v : State} {a b d : Nat} {x : Exchange} {f : Frame} {r : StatusRec} {k : DelayKey}

/-! ## What an observation first does (R72) -/

/-- The state with the STATUS of station `a` seen, before its dispatch. -/
def State.sighted (s : State) (x : Exchange) (a : Nat) (r : StatusRec) : State :=
  ((s.hunt .f).gapped x).modSt a (Station.seenAt s.mono r)

/-- The state after the dispatch of an observation (R73), which an ABSENT station has none of. -/
def State.dispatched (s : State) (x : Exchange) (a : Nat) (r : StatusRec) : State :=
  if (s.pol a).cls = .absent then s.sighted x a r
  else (s.sighted x a r).dispatchObs a (s.st a).snapshot (snapshotNow r)

theorem State.replied_status (hb : f.body = .status r) (ha : f.src.toNat ≠ s.straps.addr) :
    s.replied x f = (s.dispatched x f.src.toNat r).referenceSeen f.src.toNat r.aux.toNat := by
  have observe : s.replied x f = ((s.hunt .f).gapped x).observe f.src.toNat r := by
    unfold State.replied State.observeReply
    simp only [hb]
  have pol : ((s.hunt .f).gapped x).pol f.src.toNat = s.pol f.src.toNat := State.pol_congr _ _ rfl _
  have st : ((s.hunt .f).gapped x).st f.src.toNat = s.st f.src.toNat := State.st_congr _ _ rfl _
  rw [observe]
  refine (if_neg ha).trans ?_
  dsimp only
  rw [pol, st]
  rfl

variable (s) (x) (a) (r)

theorem State.st_sighted_self (ha : hasRecord a) : (s.sighted x a r).st a = (s.st a).seenAt s.mono r :=
  State.st_modSt_self _ _ _ ha

theorem State.st_sighted_other (hb : b ≠ a) : (s.sighted x a r).st b = s.st b :=
  (State.st_modSt_other _ _ _ _ hb).trans (State.st_congr _ _ rfl b)

/-- Sighting a station moves the master, the F-port and the station's record alone. -/
theorem State.sighted_eq : s.sighted x a r = { s with
    fport := (s.sighted x a r).fport, master := (s.sighted x a r).master, stations := (s.sighted x a r).stations } := by
  unfold State.sighted
  rw [State.modSt_eq]
  rfl

/-- In what the sighting leaves, each station stands in the state and phase in which it stood. -/
theorem State.state_sighted (b : Nat) : ((s.sighted x a r).st b).state = (s.st b).state := by
  rcases State.st_modSt_cases ((s.hunt .f).gapped x) a (Station.seenAt s.mono r) b with ⟨rfl, -, h⟩ | ⟨-, h⟩
  · rw [State.sighted, h]
    rfl
  · rw [State.sighted, h]
    rfl

theorem State.sighted_settings : s.settingsKept (s.sighted x a r) := by
  rw [State.sighted_eq]
  exact ⟨rfl, rfl, rfl, rfl, rfl, rfl, rfl, rfl, rfl, rfl, rfl⟩

theorem State.sighted_queuesMatch (h : s.queuesMatch) : (s.sighted x a r).queuesMatch := by
  have parkQ : (s.sighted x a r).parkQ = s.parkQ := by rw [State.sighted_eq]
  have demandQ : (s.sighted x a r).demandQ = s.demandQ := by rw [State.sighted_eq]
  have schedQ : (s.sighted x a r).schedQ = s.schedQ := by rw [State.sighted_eq]
  unfold State.queuesMatch
  simp only [parkQ, demandQ, schedQ, State.state_sighted]
  exact h

variable {s} {x} {a} {r}

/-! ## What the dispatch leaves of every record -/

/-- What was seen of a station, what it holds and, under `known`, what the controller believes of it. -/
structure Station.SightKept (known : Prop) (r q : Station) : Prop extends HoldKept r q where
  snapshot : q.snapshot = r.snapshot
  seen : q.seen = r.seen
  notFresh : q.notFresh = r.notFresh
  shadow : known → q.shadow = r.shadow

variable {known : Prop}

theorem Station.SightKept.refl (r : Station) : Station.SightKept known r r :=
  ⟨.refl r, rfl, rfl, rfl, fun _ => rfl⟩

theorem Station.sightOrder : Station.Order (Station.SightKept known) where
  refl := .refl
  trans h k := ⟨h.toHoldKept.trans k.toHoldKept, k.snapshot.trans h.snapshot, k.seen.trans h.seen,
    k.notFresh.trans h.notFresh, fun w => (k.shadow w).trans (h.shadow w)⟩

theorem Station.BeliefKept.sight {r q : Station} (h : BeliefKept r q) : Station.SightKept known r q :=
  ⟨h.toHoldKept, h.snapshot, h.seen, h.notFresh, fun _ => h.shadow⟩

theorem State.Kept.sight (h : s.Kept BeliefKept t) : s.Kept (Station.SightKept known) t :=
  h.weaken fun _ _ => Station.BeliefKept.sight

theorem State.Kept.after (h : s.Kept (Station.SightKept known) t) (k : t.Kept BeliefKept u) :
    s.Kept (Station.SightKept known) u := h.trans Station.sightOrder k.sight

variable (s)

theorem State.modSt_sight (a : Nat) (f : Station → Station) (h : ∀ r, Station.SightKept known r (f r)) :
    s.Kept (Station.SightKept known) (s.modSt a f) := State.modSt_kept Station.sightOrder s a f (h _)

theorem State.enterFree_sight (a : Nat) (f : Station → Station) (h : ∀ r, Station.SightKept known r (f r)) :
    s.Kept (Station.SightKept known) (s.enterFree a f) :=
  s.enterFree_kept Station.sightOrder (fun _ _ => Station.BeliefKept.sight) a f h

theorem State.leavePark_sight (a : Nat) (z : Bool) : s.Kept (Station.SightKept known) (s.leavePark a z) := by
  unfold State.leavePark
  split
  · exact s.enterFree_sight a _ fun r => by
      cases z
      · exact .refl r
      · exact ⟨⟨rfl, rfl, rfl, rfl⟩, rfl, rfl, rfl, fun _ => rfl⟩
  · exact .refl Station.sightOrder s

theorem State.enterParked_sight (a : Nat) (f : Station → Station) (h : ∀ r, Station.SightKept known r (f r)) :
    s.Kept (Station.SightKept known) (s.enterParked a f) := by
  unfold State.enterParked
  refine (((s.modSt_sight a _ fun r => ?_).after (State.armWakeDue_kept _ a)).after
    (State.starvedWake_kept _ a)).after (State.neededWake_kept _ a)
  have parked : Station.SightKept known r (r.parkedAt s.now) :=
    ⟨⟨rfl, rfl, rfl, rfl⟩, rfl, rfl, rfl, fun _ => rfl⟩
  exact Station.sightOrder.trans parked (h _)

theorem State.actAtParked_sight (a : Nat) : s.Kept (Station.SightKept known) (s.actAtParked a) := by
  unfold State.actAtParked
  dsimp only
  split
  · exact (s.takeWake_kept a _).sight
  · split
    · split
      · exact s.enterFree_sight a _ (by exact fun _ => ⟨⟨rfl, rfl, rfl, rfl⟩, rfl, rfl, rfl, fun _ => rfl⟩)
      · exact .refl Station.sightOrder s
    · split
      · exact (s.takeWake_kept a _).sight
      · exact .refl Station.sightOrder s

theorem State.completePark_sight (a : Nat) : s.Kept (Station.SightKept known) (s.completePark a) :=
  ((s.enterParked_sight a _ (by exact fun _ => ⟨⟨rfl, rfl, rfl, rfl⟩, rfl, rfl, rfl, fun _ => rfl⟩)).trans
    Station.sightOrder (State.actAtParked_sight _ a)).after (State.expireWakeDue_kept _ a)

theorem State.adoptParked_sight (a : Nat) (h : ¬ known) : s.Kept (Station.SightKept known) (s.adoptParked a) :=
  (((s.enterParked_sight a _ (by exact fun _ => ⟨⟨rfl, rfl, rfl, rfl⟩, rfl, rfl, rfl, fun w => absurd w h⟩)).after
    (State.adoptWake_kept _ a)).after (State.exemptWake_kept _ a)).after (State.expireWakeDue_kept _ a)

theorem State.creditUpdate_sight (a load : Nat) : s.Kept (Station.SightKept known) (s.creditUpdate a load) :=
  s.modSt_sight a _ fun _ => ⟨⟨rfl, rfl, rfl, rfl⟩, rfl, rfl, rfl, fun _ => rfl⟩

theorem State.creditFault_sight (a : Nat) : s.Kept (Station.SightKept known) (s.creditFault a) :=
  s.modSt_sight a _ fun _ => ⟨⟨rfl, rfl, rfl, rfl⟩, rfl, rfl, rfl, fun _ => rfl⟩

theorem State.creditAndTest_sight (a load : Nat) : s.Kept (Station.SightKept known) (s.creditAndTest a load) :=
  (s.creditUpdate_sight a load).after (State.parkTest_kept _ a)

theorem State.noteStart_sight (a : Nat) (b : Option Snapshot) (o : Snapshot) :
    s.Kept (Station.SightKept known) (s.noteStart a b o) := by
  unfold State.noteStart
  split
  · exact s.modSt_sight a _ fun _ => ⟨⟨rfl, rfl, rfl, rfl⟩, rfl, rfl, rfl, fun _ => rfl⟩
  · exact .refl Station.sightOrder s

theorem State.adoptFree_sight (a : Nat) (o : Snapshot) (h : ¬ known) :
    s.Kept (Station.SightKept known) (s.adoptFree a o) := by
  have enter : s.Kept (Station.SightKept known) (s.enterFree a (Station.adopted s.now o)) :=
    s.enterFree_sight a _ fun _ => ⟨⟨rfl, rfl, rfl, rfl⟩, rfl, rfl, rfl, fun w => absurd w h⟩
  unfold State.adoptFree
  dsimp only
  split
  · exact enter.trans Station.sightOrder (State.creditFault_sight _ a)
  · exact enter.trans Station.sightOrder (State.creditAndTest_sight _ a _)

theorem State.localStart_sight (a : Nat) : s.Kept (Station.SightKept known) (s.localStart a) :=
  s.enterFree_sight a _ fun _ => ⟨⟨rfl, rfl, rfl, rfl⟩, rfl, rfl, rfl, fun _ => rfl⟩

theorem State.settle_sight (a : Nat) : s.Kept (Station.SightKept known) (s.settle a) :=
  s.enterFree_sight a _ fun _ => ⟨⟨rfl, rfl, rfl, rfl⟩, rfl, rfl, rfl, fun _ => rfl⟩

theorem State.coastObserved_sight (a : Nat) (o : Snapshot) :
    s.Kept (Station.SightKept known) (s.coastObserved a o) := by
  unfold State.coastObserved
  split
  · exact s.completePark_sight a
  · exact s.enterFree_sight a _ .refl
  · exact .refl Station.sightOrder s

/-- The dispatch leaves what was seen and what is held of every record, and the shadow of a known station. -/
theorem State.dispatchObs_sight (a : Nat) (b : Option Snapshot) (o : Snapshot)
    (h : known → (s.st a).state ≠ .unknown) : s.Kept (Station.SightKept known) (s.dispatchObs a b o) := by
  unfold State.dispatchObs
  dsimp only
  split
  case h_1 unknown =>
    have unbelieved : ¬ known := fun w => h w unknown
    split
    · exact s.adoptParked_sight a unbelieved
    · exact s.adoptFree_sight a o unbelieved
  case h_2 =>
    split
    · exact s.creditFault_sight a
    · exact (s.noteStart_sight a b o).trans Station.sightOrder (State.creditAndTest_sight _ a _)
  case h_3 =>
    split
    · exact (s.creditFault_sight a).trans Station.sightOrder (State.leavePark_sight _ a _)
    · split
      · exact s.leavePark_sight a _
      · split
        · exact (s.creditUpdate_sight a _).trans Station.sightOrder (State.leavePark_sight _ a _)
        · exact s.creditUpdate_sight a _
  case h_4 =>
    split
    · exact (s.enterFaulted_kept a _).sight
    · split
      · exact s.coastObserved_sight a o
      · exact .refl Station.sightOrder s
  case h_5 =>
    split
    · exact (s.enterFaulted_kept a _).sight
    · split
      · exact s.localStart_sight a
      · exact (s.account_kept a).sight
  case h_6 =>
    split
    · exact (s.enterFaulted_kept a _).sight
    · split
      · exact s.localStart_sight a
      · exact .refl Station.sightOrder s
  case h_7 =>
    split
    · exact (s.enterFaulted_kept a _).sight
    · split
      · split
        · exact s.localStart_sight a
        · exact .refl Station.sightOrder s
      · split
        · split
          · exact s.settle_sight a
          · exact .refl Station.sightOrder s
        · exact .refl Station.sightOrder s
  case h_8 => exact .refl Station.sightOrder s

variable {s}

theorem State.dispatched_sight (h : known → (s.st a).state ≠ .unknown) :
    (s.sighted x a r).Kept (Station.SightKept known) (s.dispatched x a r) := by
  unfold State.dispatched
  split
  · exact .refl Station.sightOrder _
  · refine State.dispatchObs_sight _ a _ _ fun w => ?_
    rw [State.state_sighted]
    exact h w

/-- The observed record at the end of its observation. -/
theorem State.replied_sight (hb : f.body = .status r) (ha : f.src.toNat ≠ s.straps.addr)
    (h : known → (s.st f.src.toNat).state ≠ .unknown) :
    (s.sighted x f.src.toNat r).Kept (Station.SightKept known) (s.replied x f) := by
  rw [State.replied_status hb ha]
  exact (State.dispatched_sight h).after (State.referenceSeen_kept _ _ _)

theorem Frame.src_known (h : f.shapeOk = true) : hasRecord f.src.toNat := by
  obtain ⟨-, low, high, -⟩ := f.shapeOk_iff.mp h
  exact ⟨low, high⟩

theorem State.src_known (h : s.hearsField f = true) : hasRecord f.src.toNat :=
  Frame.src_known (Bool.and_eq_true_iff.mp h).2

end Sys2Proof.Machine
end


section
/-! SUPPORT. Replies reach the owner of the request (R40, R53, R54, R58, R178). -/

namespace Sys2Proof.Machine

open Station (BeliefKept HoldKept beliefOrder holdOrder)

variable {s t u v : State} {a b d : Nat} {x : Exchange} {f : Frame} {r : StatusRec} {k : DelayKey}

theorem State.replied_quiet_stations (h : ∀ r, f.body ≠ .status r) : (s.replied x f).stations = s.stations := by
  rw [State.replied_quiet h]
  exact State.hunt_stations ..

/-- The end of an observation, for the record of the station seen. -/
theorem State.replied_seen (hf : s.hearsField f = true) (hb : f.body = .status r) (ha : f.src.toNat ≠ s.straps.addr) :
    ((s.replied x f).st f.src.toNat).snapshot = some (snapshotNow r)
    ∧ ((s.replied x f).st f.src.toNat).seen = some s.mono ∧ ((s.replied x f).st f.src.toNat).notFresh = false := by
  have seen := (State.replied_sight (x := x) (known := False) hb ha False.elim).st f.src.toNat
  rw [State.st_sighted_self _ _ _ _ (State.src_known hf)] at seen
  exact ⟨seen.snapshot, seen.seen, seen.notFresh⟩

theorem State.settingsKept.inMode (h : s.settingsKept t) (m : Mode) : s.settingsKept (t.inMode m) := h

theorem State.st_delayedOutcome_inMode (y : Option Frame) (m : Mode) (a : Nat) :
    ((v.delayedOutcome k y).inMode m).st a = v.st a := State.st_congr _ _ rfl a

theorem State.held_of_followed (h : (s.inPhase b .parking .coast || s.inPhase b .waking .settle) = true) :
    s.held b = true :=
  (Bool.or_eq_true_iff.mp h).elim (fun p => State.held_of_inPhase p rfl) fun p => State.held_of_inPhase p rfl

theorem State.record_of_followed (h : (s.inPhase b .parking .coast || s.inPhase b .waking .settle) = true) :
    hasRecord b := by
  refine hasRecord_of_state s b fun unknown => ?_
  have held := State.held_of_followed h
  rw [State.held, unknown] at held
  cases held

/-- Settles O32: the poll's outcome comes after the observation, which leaves the forwarding, the scanner, the master
and the settings alone (`State.replied_kept`). -/
theorem replyReachesItsOwner : Obligations.ReplyReachesItsOwner := by
  intro f s x d hear await fits a m u
  have kept := s.replied_kept x f
  have settings := s.replied_settings x f
  have master := s.replied_master x f
  refine ⟨fun k hk => ?delayed, fun b hk quiet => ?followUp, fun b hk => ?scan⟩
  case delayed =>
    refine ⟨_, exec_reply_delayed hear await fits hk, ?_⟩
    rw [State.modeCheck_inMode]
    refine ⟨?_, master, kept.cport, kept.answers, State.replied_quiet_stations, fun r hb ha => ?_, settings⟩
    · change ({ (s.replied x f).fwd with delayed := (s.replied x f).fwd.delayed.map fun y =>
        if y.key = k ∧ y.st = .inFlight then { y with st := .done (.frame f) (s.replied x f).mono } else y } : Fwd) = _
      rw [kept.fwd, kept.mono]
      rfl
    · rw [State.st_delayedOutcome_inMode]
      exact State.replied_seen hear hb ha
  case followUp =>
    rw [exec_reply_followUp hear await fits hk, State.replied_quiet quiet, State.followUpOutcome_eq]
    have phase : (((s.hunt .f).gapped x).inPhase b .parking .coast || ((s.hunt .f).gapped x).inPhase b .waking .settle)
        = (s.inPhase b .parking .coast || s.inPhase b .waking .settle) := by
      simp only [State.inPhase, State.st_congr s ((s.hunt .f).gapped x) rfl]
    rw [phase]
    constructor
    · intro coasts
      rw [if_pos coasts, State.modeCheck_of_held (a := b)]
      · rfl
      · rw [State.held, State.st_modSt_self _ _ _ (State.record_of_followed coasts)]
        exact State.held_of_followed (phase.trans coasts)
    · intro rests
      rw [if_neg (by rw [rests]; decide)]
      rfl
  case scan =>
    obtain ⟨c, hc⟩ := (s.replied x f).scanOutcome_changes_scan b
    refine ⟨_, exec_reply_scan hear await fits hk,
      State.scanOutcome_pollEnds kept.scan (kept.cfg) kept.mono, ?_⟩
    rw [State.modeCheck_inMode, hc]
    exact ⟨State.replied_quiet_stations, master, kept.fwd, kept.cport, kept.answers, settings⟩

end Sys2Proof.Machine
end


section
/-! SUPPORT. What wakes, leaving the park queue and the judgement of references make of a station that is neither
PARKED nor waiting (R112, R131, R132, R142). -/

namespace Sys2Proof.Machine

open Station (BeliefKept HoldKept beliefOrder holdOrder)

variable {s t u v : State} {a b : Nat}

/-- A park queue from which no station has gone is as it was. -/
theorem State.Fared.parkQ_eq (h : s.Fared t) (hq : s.queuesMatch)
    (same : ∀ b, (s.st b).state = .parkQueued → (t.st b).state = .parkQueued) : t.parkQ = s.parkQ := by
  refine h.parkQ.eq_of_length_le (List.Nodup.subperm ?_ fun b hb => ?_).length_le
  · exact (List.nodup_append.mp (List.nodup_append.mp hq.1).1).1
  · exact h.queues.mem_parkQ.mpr (same b (hq.mem_parkQ.mp hb))

theorem State.st_admissionPass_still (hq : s.queuesMatch) (hb : (s.st b).state.still) :
    s.admissionPass.st b = s.st b :=
  s.st_admissionPass_other b fun m => hb.2 (hq.mem_waiting.mp m)

theorem State.admissionPass_parkQ (hq : s.queuesMatch) : s.admissionPass.parkQ = s.parkQ := by
  refine (State.admissionPass_fared hq).parkQ_eq hq fun b hb => ?_
  rw [State.st_admissionPass_still hq ⟨by rw [hb]; decide, by rw [hb]; decide⟩, hb]

theorem State.st_takeWake_still (q : Priority) (hq : s.queuesMatch)
    (ha : (s.st a).state = .parked ∨ (s.st a).state = .wakeQueued) (hb : (s.st b).state.still) :
    (s.takeWake a q).st b = s.st b := by
  have ne : b ≠ a := fun e => not_or.mpr hb (e ▸ ha)
  cases q with
  | scheduled => exact State.st_takeWake_scheduled_still a hq hb
  | demand =>
    rcases ha with hp | hw
    · have joined : (s.joinQueue a .demand).st b = s.st b := s.st_joinQueue_other a b _ ne
      have same : ((s.joinQueue a .demand).afterEntry a).st b = s.st b := by
        rw [State.st_afterEntry_still a (by rwa [joined]), joined]
      rw [State.takeWake_walk hp hq (by rw [same]; exact hb.2), same]
    · rw [State.takeWake_of_waiting hw]
      split
      · have moved : (s.moveToDemand a).st b = s.st b := s.st_moveToDemand_other a b ne
        have same : ((s.moveToDemand a).afterEntry a).st b = s.st b := by
          rw [State.st_afterEntry_still a (by rwa [moved]), moved]
        have queues := (State.afterEntry_fared a (State.moveToDemand_fared hq hw).queues).queues
        rw [State.st_admissionPass_still queues (by rw [same]; exact hb), same]
      · exact s.st_modSt_other a b _ ne

/-! ## Leaving the park queue (R112) -/

theorem State.freeing_queuesMatch (f : Station → Station) (hf : ∀ r, Station.Tints r (f r)) (hq : s.queuesMatch) :
    (s.freeing a f).queuesMatch := by
  have freed := hf ((s.st a).freed s.now (s.pol a).rated)
  have free : (f ((s.st a).freed s.now (s.pol a).rated)).state = .free := freed.state
  exact (Move.leave (w := False) a _ ⟨ne_of_eq_of_ne free (by decide), ne_of_eq_of_ne free (by decide)⟩
    (ne_of_eq_of_ne free (by decide)) (ne_of_eq_of_ne free (by decide)) (.inl freed.mark)
    (freed.hold.trans (Station.freed_kept _ _ _).hold)).moves.queuesMatch hq

/-- A station entering FREE gives up its place in the park queue, and no other does (R77). -/
theorem State.enterFree_parkQ (f : Station → Station) (hf : ∀ r, Station.Tints r (f r)) (hq : s.queuesMatch) :
    (s.enterFree a f).parkQ = s.parkQ.filter (· != a) := by
  have queues : (s.freeing a f).queuesMatch := State.freeing_queuesMatch f hf hq
  have freeing : (s.freeing a f).parkQ = s.parkQ.filter (· != a) := State.modSt_parkQ ..
  rw [State.enterFree_eq]
  split
  · rw [State.admissionPass_parkQ queues, freeing]
  · exact freeing

theorem State.leavePark_parkQ (z : Bool) (hq : s.queuesMatch) (h : (s.st a).state = .parkQueued) :
    (s.leavePark a z).parkQ = s.parkQ.filter (· != a) := by
  rw [State.leavePark_of_queued h]
  exact State.enterFree_parkQ _ (fun r => by cases z <;> exact ⟨rfl, rfl, rfl⟩) hq

/-- The record of a station that leaves the park queue (R112). -/
theorem State.st_leavePark_self (z : Bool) (h : (s.st a).state = .parkQueued) :
    (s.leavePark a z).st a = if z then { (s.st a).freed s.mono (s.pol a).rated with credit := 0 }
      else (s.st a).freed s.mono (s.pol a).rated := by
  have ha : hasRecord a := hasRecord_of_state s a (by rw [h]; decide)
  rw [State.leavePark_of_queued h, State.enterFree_st _ _ _ ha]
  rfl

/-! ## The judgement of references (R131, R132) -/

/-- What the judgement of references leaves of a station neither PARKED nor waiting: its record, or the record of a
station that has left the park queue with its credit. -/
structure State.Spares (s t : State) : Prop where
  queues : t.queuesMatch
  mono : t.mono = s.mono
  cfg : t.cfg = s.cfg
  st : ∀ b, (s.st b).state.still →
    t.st b = s.st b ∨ ((s.st b).state = .parkQueued ∧ t.st b = (s.st b).freed s.mono (s.pol b).rated)

theorem State.Spares.same (hq : s.queuesMatch) (hs : t.stations = s.stations) (hp : t.parkQ = s.parkQ)
    (hd : t.demandQ = s.demandQ) (hc : t.schedQ = s.schedQ) (hm : t.mono = s.mono) (hcfg : t.cfg = s.cfg) :
    s.Spares t :=
  ⟨State.queuesMatch_congr hq hs hp hd hc, hm, hcfg, fun b _ => Or.inl (State.st_congr _ _ hs b)⟩

theorem State.Spares.refl (hq : s.queuesMatch) : s.Spares s := .same hq rfl rfl rfl rfl rfl rfl

theorem State.Spares.trans (h : s.Spares t) (k : t.Spares u) : s.Spares u := by
  refine ⟨k.queues, k.mono.trans h.mono, k.cfg.trans h.cfg, fun b hb => ?_⟩
  rcases h.st b hb with same | ⟨queued, freed⟩
  · have next := k.st b (by rwa [same])
    rwa [same, h.mono, State.pol_congr _ _ h.cfg] at next
  · have free : (t.st b).state = .free := by rw [freed]; rfl
    rcases k.st b ⟨by rw [free]; decide, by rw [free]; decide⟩ with same | ⟨queued', -⟩
    · exact Or.inr ⟨queued, same.trans freed⟩
    · rw [free] at queued'
      cases queued'

theorem State.starveMember_spares (m : Nat) (hq : s.queuesMatch) : s.Spares (s.starveMember m) := by
  have wakes (ha : (s.st m).state = .parked ∨ (s.st m).state = .wakeQueued) : s.Spares (s.takeWake m .demand) :=
    ⟨(s.takeWake_moves (w := False) m .demand).queuesMatch hq, (s.takeWake_kept m .demand).mono, (s.takeWake_kept m .demand).cfg,
      fun b hb => Or.inl (State.st_takeWake_still .demand hq ha hb)⟩
  unfold State.starveMember
  split
  case h_1 parked => exact wakes (Or.inl parked)
  case h_2 waits =>
    split
    · exact wakes (Or.inr waits)
    · exact .refl hq
  case h_3 queued =>
    refine ⟨(s.leavePark_moves (w := False) m false).queuesMatch hq, (s.leavePark_kept m).mono, (s.leavePark_kept m).cfg,
      fun b hb => ?_⟩
    by_cases hbm : b = m
    · subst hbm
      exact Or.inr ⟨queued, State.st_leavePark_self false queued⟩
    · exact Or.inl (State.st_leavePark_quiet false hq hbm hb.2)
  case h_4 => exact .refl hq

theorem State.Spares.foldl {α : Type} (g : State → α → State) (h : ∀ (t : State) (x : α), t.queuesMatch → t.Spares (g t x))
    (l : List α) (hq : s.queuesMatch) : s.Spares (l.foldl g s) := by
  induction l generalizing s with
  | nil => exact .refl hq
  | cons x l ih => exact (h s x hq).trans (ih (h s x hq).queues)

theorem State.starve_spares (i : Nat) (ms : List Nat) (hq : s.queuesMatch) : s.Spares (s.starve i ms) :=
  have flagged : s.Spares ((s.setStarved i true).raise .groupStarved) := .same hq rfl rfl rfl rfl rfl rfl
  flagged.trans (.foldl _ (fun _ m h => State.starveMember_spares m h) _ flagged.queues)

theorem State.judgeStarved_spares (a aux i : Nat) (hq : s.queuesMatch) : s.Spares (s.judgeStarved a aux i) := by
  unfold State.judgeStarved
  split
  case h_1 =>
    split
    · split
      · split
        · exact .same hq rfl rfl rfl rfl rfl rfl
        · exact .refl hq
      · split
        · exact State.starve_spares i _ hq
        · exact .refl hq
    · exact .refl hq
  all_goals exact .refl hq

theorem State.referenceSeen_spares (a aux : Nat) (hq : s.queuesMatch) : s.Spares (s.referenceSeen a aux) :=
  .foldl _ (fun _ i h => State.judgeStarved_spares a aux i h) _ hq

/-- A station that is no entry's reference starves none (R131). -/
theorem State.referenceSeen_none (h : s.noReference a) (aux : Nat) : s.referenceSeen a aux = s := by
  have judged (i : Nat) : s.judgeStarved a aux i = s := by
    unfold State.judgeStarved
    split
    · next ms k ref lo hi group =>
      refine if_neg fun hc => h i ms k lo hi ?_
      rw [group, hc.2]
    all_goals rfl
  unfold State.referenceSeen
  induction List.range 32 with
  | nil => rfl
  | cons i l ih => rw [List.foldl_cons, judged, ih]

end Sys2Proof.Machine
end


section
/-! SUPPORT. The dispatch of an observation, state by state, and the credit of a FREE or PARK_QUEUED station (R73 to
R76, R91 to R96, R112, R113). -/

namespace Sys2Proof.Machine

open Station (BeliefKept HoldKept beliefOrder holdOrder)

variable {s t u v : State} {a b d load : Nat} {x : Exchange} {f : Frame} {r : StatusRec} {o : Snapshot}
  {before : Option Snapshot}

/-! ## Dispatch by state (R73) -/

section Dispatch

variable (a) (before) (o)

theorem State.dispatchObs_unknown (h : (s.st a).state = .unknown) :
    s.dispatchObs a before o = if o.run = .stopped ∧ o.cause = .parked ∧ s.setPending a = false then s.adoptParked a
      else s.adoptFree a o := by
  unfold State.dispatchObs
  simp only [h]

theorem State.dispatchObs_free (h : (s.st a).state = .free) :
    s.dispatchObs a before o = if o.cause = .fault then s.creditFault a
      else (s.noteStart a before o).creditAndTest a o.load := by
  unfold State.dispatchObs
  simp only [h]

theorem State.dispatchObs_queued (h : (s.st a).state = .parkQueued) :
    s.dispatchObs a before o = if o.cause = .fault then (s.creditFault a).leavePark a true
      else if o.run ≠ .running then s.leavePark a false
      else if busyBand (s.pol a) o.load = true then (s.creditUpdate a o.load).leavePark a true
      else s.creditUpdate a o.load := by
  unfold State.dispatchObs
  simp only [h]

theorem State.dispatchObs_parking (h : (s.st a).state = .parking) :
    s.dispatchObs a before o = if o.cause = .fault then s.enterFaulted a .stationFault
      else if (s.st a).phase = .coast then s.coastObserved a o else s := by
  unfold State.dispatchObs
  simp only [h]

theorem State.dispatchObs_parked (h : (s.st a).state = .parked) :
    s.dispatchObs a before o = if o.cause = .fault then s.enterFaulted a .stationFault
      else if RunState.started o.run = true then s.localStart a else s.account a := by
  unfold State.dispatchObs
  simp only [h]

theorem State.dispatchObs_waiting (h : (s.st a).state = .wakeQueued) :
    s.dispatchObs a before o = if o.cause = .fault then s.enterFaulted a .stationFault
      else if RunState.started o.run = true then s.localStart a else s := by
  unfold State.dispatchObs
  simp only [h]

theorem State.dispatchObs_waking (h : (s.st a).state = .waking) :
    s.dispatchObs a before o = if o.cause = .fault then s.enterFaulted a .stationFault
      else if (s.st a).phase = .warn then (if RunState.started o.run = true then s.localStart a else s)
      else if (s.st a).phase = .settle then (if o.run = .running ∧ o.ready = true then s.settle a else s)
      else s := by
  unfold State.dispatchObs
  simp only [h]

theorem State.dispatchObs_faulted (h : (s.st a).state = .faulted) : s.dispatchObs a before o = s := by
  unfold State.dispatchObs
  simp only [h]

end Dispatch

/-! ## One record (R74, R81, R91 to R95) -/

theorem RunState.started_iff (y : RunState) : RunState.started y = true ↔ y = .starting ∨ y = .running := by
  cases y <;> simp [RunState.started]

theorem startTest_iff :
    startTest before o = true
      ↔ (∃ b, before = some b ∧ (b.run = .stopped ∨ b.run = .stopping)) ∧ (o.run = .starting ∨ o.run = .running) := by
  have still (y : RunState) : (!RunState.started y) = true ↔ y = .stopped ∨ y = .stopping := by
    cases y <;> simp [RunState.started]
  rw [startTest, Bool.and_eq_true, RunState.started_iff, Option.any_eq_true]
  refine and_congr (exists_congr fun b => ?_) Iff.rfl
  rw [still]

/-- The units and the remainder of the time since the last observation (R92). -/
theorem elapsedUnits_eq (e : Nat) : elapsedUnits e = (min (e / 100) 600, if e / 100 ≤ 600 then e % 100 else 0) := by
  unfold elapsedUnits
  split
  · next h => rw [Nat.min_eq_left h]
  · next h => rw [Nat.min_eq_right (by omega)]

theorem busyBand_iff (p : Policy) : busyBand p load = true ↔ p.tBusy ≤ load := by simp [busyBand]

theorem creditAfter_eq (p : Policy) (load units credit : Nat) :
    creditAfter p load units credit
      = if p.tBusy ≤ load then 0
        else if load ≤ p.tIdle then
          min (credit + units * (p.wBase + (p.tIdle - load) * p.wSlope / (p.tIdle + 1))) 65535
        else credit - units * p.drain := by
  unfold creditAfter
  rw [if_congr (busyBand_iff p) rfl rfl]
  rfl

theorem Station.creditUpdate_eq (now : Nat) (p : Policy) (load : Nat) (y : Station) :
    Station.creditUpdate now p load y =
      { y with
        remainder := if (now - y.lastObs) / 100 ≤ 600 then (now - y.lastObs) % 100 else 0
        lastObs := now - if (now - y.lastObs) / 100 ≤ 600 then (now - y.lastObs) % 100 else 0
        credit := creditAfter p load (min ((now - y.lastObs) / 100) 600) y.credit
        stats := if p.tBusy ≤ load then { y.stats with busyResets := min (y.stats.busyResets + 1) 65535 }
          else y.stats } := by
  unfold Station.creditUpdate Station.elapse
  rw [elapsedUnits_eq, if_congr (busyBand_iff p) rfl rfl]
  rfl

theorem Station.creditFault_eq (now : Nat) (y : Station) :
    Station.creditFault now y =
      { y with
        remainder := if (now - y.lastObs) / 100 ≤ 600 then (now - y.lastObs) % 100 else 0
        lastObs := now - if (now - y.lastObs) / 100 ≤ 600 then (now - y.lastObs) % 100 else 0
        credit := 0 } := by
  unfold Station.creditFault Station.elapse
  rw [elapsedUnits_eq]

theorem Station.recordStart_eq (now : Nat) (y : Station) :
    y.recordStart now = { y with starts := startsWith y.starts now, lastStart := some now } := by
  unfold Station.recordStart startsWith
  dsimp only
  rw [List.length_append]
  rfl

/-! ## The credit of an observed station -/

/-- The credit, its base, the busy resets and the starts of two records agree. -/
structure Station.CreditKept (r q : Station) : Prop where
  credit : q.credit = r.credit
  remainder : q.remainder = r.remainder
  lastObs : q.lastObs = r.lastObs
  busyResets : q.stats.busyResets = r.stats.busyResets
  starts : q.starts = r.starts
  lastStart : q.lastStart = r.lastStart

theorem Station.CreditKept.refl (r : Station) : Station.CreditKept r r := ⟨rfl, rfl, rfl, rfl, rfl, rfl⟩

theorem Station.CreditKept.trans {r q p : Station} (h : Station.CreditKept r q) (k : Station.CreditKept q p) :
    Station.CreditKept r p :=
  ⟨k.credit.trans h.credit, k.remainder.trans h.remainder, k.lastObs.trans h.lastObs,
    k.busyResets.trans h.busyResets, k.starts.trans h.starts, k.lastStart.trans h.lastStart⟩

/-- A station that leaves the park queue keeps its credit and its base (R77, R112). -/
theorem Station.freed_creditKept (now rated : Nat) {y : Station} (h : y.state = .parkQueued) :
    Station.CreditKept y (y.freed now rated) := by
  have belief := Station.freed_kept now rated y
  refine ⟨belief.credit, ?_, ?_, ?_, belief.starts, belief.lastStart⟩
  · exact if_pos h
  · exact if_pos h
  · unfold Station.freed Station.account
    cases y.parkMark <;> rfl

theorem State.leavePark_creditKept (z : Bool) (h : (s.st a).state = .parkQueued)
    (hz : z = true → (s.st a).credit = 0) : Station.CreditKept (s.st a) ((s.leavePark a z).st a) := by
  rw [State.st_leavePark_self z h]
  have freed := Station.freed_creditKept s.mono (s.pol a).rated h
  cases z with
  | false => exact freed
  | true => exact ⟨(hz rfl).symm, freed.remainder, freed.lastObs, freed.busyResets, freed.starts, freed.lastStart⟩

/-- What the credit computation or the credit fault of an observation makes of a FREE or PARK_QUEUED record. -/
def Station.judged (now : Nat) (p : Policy) (before : Option Snapshot) (o : Snapshot) (y : Station) : Station :=
  if o.cause = .fault then y.creditFault now
  else if y.state = .parkQueued then (if o.run = .running then y.creditUpdate now p o.load else y)
  else (if startTest before o = true then y.recordStart now else y).creditUpdate now p o.load

theorem State.st_creditUpdate_self (load : Nat) (ha : hasRecord a) :
    (s.creditUpdate a load).st a = (s.st a).creditUpdate s.mono (s.pol a) load := State.st_modSt_self _ _ _ ha

theorem State.st_creditFault_self (ha : hasRecord a) : (s.creditFault a).st a = (s.st a).creditFault s.mono :=
  State.st_modSt_self _ _ _ ha

theorem State.st_noteStart_self (ha : hasRecord a) :
    (s.noteStart a before o).st a = if startTest before o = true then (s.st a).recordStart s.mono else s.st a := by
  unfold State.noteStart
  split
  · exact State.st_modSt_self _ _ _ ha
  · rfl

theorem State.noteStart_kept (a : Nat) (before : Option Snapshot) (o : Snapshot) :
    s.Kept HoldKept (s.noteStart a before o) := s.noteStart_holds a before o

/-- The record a FREE station's credit computation leaves to the eligibility test (R91, R96). -/
theorem State.st_noteStart_creditUpdate (load : Nat) (ha : hasRecord a) :
    (((s.noteStart a before o).creditUpdate a load).st a)
      = (if startTest before o = true then (s.st a).recordStart s.mono else s.st a).creditUpdate s.mono (s.pol a)
          load := by
  have kept := s.noteStart_kept a before o
  rw [State.st_creditUpdate_self load ha, State.st_noteStart_self ha, kept.mono, kept.pol]

theorem State.st_parkTest_self (ha : hasRecord a) :
    (s.parkTest a).st a = if s.eligible a = true then { s.st a with state := .parkQueued } else s.st a := by
  unfold State.parkTest
  split
  · exact (State.st_congr (s.modSt a fun y => { y with state := .parkQueued }) _ rfl a).trans
      (State.st_modSt_self _ _ _ ha)
  · rfl

/-- The observation of a FREE station without a fault (R73, R96). -/
theorem State.dispatchObs_free_test (h : (s.st a).state = .free) (hc : o.cause ≠ .fault) :
    s.dispatchObs a before o = ((s.noteStart a before o).creditUpdate a o.load).parkTest a := by
  rw [State.dispatchObs_free a o before h, if_neg hc]
  rfl

/-- The dispatch of an observation judges the credit of a FREE or PARK_QUEUED station (R73, R81, R91 to R95). -/
theorem State.dispatchObs_judged (ha : hasRecord a) (h : (s.st a).state = .free ∨ (s.st a).state = .parkQueued) :
    Station.CreditKept ((s.st a).judged s.mono (s.pol a) before o) ((s.dispatchObs a before o).st a) := by
  have fault : (s.creditFault a).st a = (s.st a).creditFault s.mono := State.st_creditFault_self ha
  have update := State.st_creditUpdate_self (s := s) o.load ha
  unfold Station.judged
  rcases h with free | queued
  · have unqueued : (s.st a).state ≠ .parkQueued := by rw [free]; decide
    by_cases hc : o.cause = .fault
    · rw [State.dispatchObs_free a o before free, if_pos hc, if_pos hc, fault]
      exact .refl _
    · rw [State.dispatchObs_free_test free hc, if_neg hc, if_neg unqueued, State.st_parkTest_self ha,
        State.st_noteStart_creditUpdate o.load ha]
      by_cases he : ((s.noteStart a before o).creditUpdate a o.load).eligible a = true
      · rw [if_pos he]
        exact ⟨rfl, rfl, rfl, rfl, rfl, rfl⟩
      · rw [if_neg he]
        exact .refl _
  · rw [State.dispatchObs_queued a o before queued]
    by_cases hc : o.cause = .fault
    · rw [if_pos hc, if_pos hc, ← fault]
      refine State.leavePark_creditKept true ?_ fun _ => ?_
      · rw [fault]; exact queued
      · rw [fault]; rfl
    · rw [if_neg hc, if_neg hc, if_pos queued]
      by_cases hr : o.run = .running
      · rw [if_neg (not_not.mpr hr), if_pos hr, ← update]
        split
        · next busy =>
          refine State.leavePark_creditKept true ?_ fun _ => ?_
          · rw [update]; exact queued
          · rw [update]
            exact if_pos busy
        · exact .refl _
      · rw [if_pos hr, if_neg hr]
        exact State.leavePark_creditKept false queued fun h => by cases h

/-- Where the dispatch leaves a FREE or PARK_QUEUED station (R73, R81, R96, R112, R113). -/
theorem State.state_dispatchObs_free (h : (s.st a).state = .free) :
    ((s.dispatchObs a before o).st a).state = .free
    ∨ o.cause ≠ .fault ∧ ((s.dispatchObs a before o).st a).state = .parkQueued := by
  have ha : hasRecord a := hasRecord_of_state s a (by rw [h]; decide)
  by_cases hc : o.cause = .fault
  · rw [State.dispatchObs_free a o before h, if_pos hc, State.st_creditFault_self ha]
    exact Or.inl h
  · rw [State.dispatchObs_free_test h hc, State.st_parkTest_self ha]
    split
    · exact Or.inr ⟨hc, rfl⟩
    · refine Or.inl ?_
      rw [State.creditUpdate_state, State.noteStart_state, h]

theorem State.state_dispatchObs_queued (h : (s.st a).state = .parkQueued) :
    ((s.dispatchObs a before o).st a).state
      = if o.cause = .fault ∨ o.run ≠ .running ∨ (s.pol a).tBusy ≤ o.load then .free else .parkQueued := by
  have ha : hasRecord a := hasRecord_of_state s a (by rw [h]; decide)
  rw [State.dispatchObs_queued a o before h]
  by_cases hc : o.cause = .fault
  · rw [if_pos hc, if_pos (Or.inl hc)]
    exact State.leavePark_free true (by rw [State.st_creditFault_self ha]; exact h)
  · rw [if_neg hc]
    by_cases hr : o.run = .running
    · rw [if_neg (not_not.mpr hr), if_congr (busyBand_iff _) rfl rfl]
      by_cases hb : (s.pol a).tBusy ≤ o.load
      · rw [if_pos hb, if_pos (Or.inr (Or.inr hb))]
        exact State.leavePark_free true (by rw [State.creditUpdate_state]; exact h)
      · rw [if_neg hb, if_neg (by simp [hc, hr]; omega), State.creditUpdate_state, h]
    · rw [if_pos hr, if_pos (Or.inr (Or.inl hr))]
      exact State.leavePark_free false h

end Sys2Proof.Machine
end


section
/-! SUPPORT. Observations of FREE and PARK_QUEUED stations: the credit, and the way into the park queue (R73, R74, R81,
R91 to R96, R108 to R113, R127 to R130). -/

namespace Sys2Proof.Machine

open Station (BeliefKept HoldKept beliefOrder holdOrder)

variable {s t u v : State} {a b d load : Nat} {x : Exchange} {f : Frame} {r : StatusRec} {o : Snapshot}
  {before : Option Snapshot}

/-- The end of the step of an observation: its dispatch, the judgement of references and the poll's outcome. -/
theorem exec_observes (h : s.observes x f r) :
    ∃ t, exec (.reply f) s = .next t
      ∧ ((s.dispatched x f.src.toNat r).referenceSeen f.src.toNat r.aux.toNat).Owned x t := by
  obtain ⟨hear, ⟨d, await⟩, fits, polls, body, other⟩ := h
  rw [← State.replied_status body other]
  exact exec_reply_polls hear await fits polls

theorem State.observes.src_known (h : s.observes x f r) : hasRecord f.src.toNat := State.src_known h.1

theorem State.sighted_fields (s : State) (x : Exchange) (a : Nat) (r : StatusRec) :
    (s.sighted x a r).mono = s.mono ∧ (s.sighted x a r).cfg = s.cfg ∧ (s.sighted x a r).mode = s.mode
    ∧ (s.sighted x a r).clock = s.clock ∧ (s.sighted x a r).starved = s.starved ∧ (s.sighted x a r).fwd = s.fwd
    ∧ (s.sighted x a r).parkQ = s.parkQ ∧ (s.sighted x a r).demandQ = s.demandQ
    ∧ (s.sighted x a r).schedQ = s.schedQ ∧ (s.sighted x a r).flags = s.flags := by
  rw [State.sighted_eq]
  exact ⟨rfl, rfl, rfl, rfl, rfl, rfl, rfl, rfl, rfl, rfl⟩

theorem State.dispatched_of_present (hc : (s.pol a).cls ≠ .absent) (x : Exchange) (r : StatusRec) :
    s.dispatched x a r = (s.sighted x a r).dispatchObs a (s.st a).snapshot (snapshotNow r) := if_neg hc

theorem State.dispatched_queuesMatch (hq : s.queuesMatch) (x : Exchange) (a : Nat) (r : StatusRec) :
    (s.dispatched x a r).queuesMatch := by
  have sighted := State.sighted_queuesMatch s a x r hq
  unfold State.dispatched
  split
  · exact sighted
  · exact (State.dispatchObs_moves (w := False) _ a _ _).queuesMatch sighted

/-- The judgement of references leaves the credit of a station in or out of the park queue. -/
theorem State.referenceSeen_creditKept (hq : s.queuesMatch) (b aux : Nat) (hs : (s.st a).state.still) :
    Station.CreditKept (s.st a) ((s.referenceSeen b aux).st a) := by
  rcases (State.referenceSeen_spares b aux hq).st a hs with same | ⟨queued, freed⟩
  · rw [same]
    exact .refl _
  · rw [freed]
    exact Station.freed_creditKept _ _ queued

theorem State.Owned.creditKept (h : v.Owned x t) (b : Nat) : Station.CreditKept (v.st b) (t.st b) := by
  rw [h.record]
  exact ⟨rfl, rfl, rfl, rfl, rfl, rfl⟩

theorem State.Owned.state (h : v.Owned x t) (b : Nat) : (t.st b).state = (v.st b).state := by
  rw [h.record]

theorem State.state_dispatched (hc : (s.pol a).cls ≠ .absent) (x : Exchange) (r : StatusRec) :
    ((s.st a).state = .free →
      ((s.dispatched x a r).st a).state = .free
      ∨ r.cause ≠ .fault ∧ ((s.dispatched x a r).st a).state = .parkQueued)
    ∧ ((s.st a).state = .parkQueued →
      ((s.dispatched x a r).st a).state
        = if r.cause = .fault ∨ r.run ≠ .running ∨ (s.pol a).tBusy ≤ min r.load.toNat 1000 then .free
          else .parkQueued) := by
  obtain ⟨-, cfg, -⟩ := s.sighted_fields x a r
  have state := State.state_sighted s a x r a
  rw [State.dispatched_of_present hc]
  refine ⟨fun free => State.state_dispatchObs_free (by rw [state, free]), fun queued => ?_⟩
  rw [State.state_dispatchObs_queued (by rw [state, queued]), State.pol_congr _ _ cfg]
  rfl

theorem State.dispatched_still (hc : (s.pol a).cls ≠ .absent)
    (hs : (s.st a).state = .free ∨ (s.st a).state = .parkQueued) (x : Exchange) (r : StatusRec) :
    ((s.dispatched x a r).st a).state = .free ∨ ((s.dispatched x a r).st a).state = .parkQueued := by
  obtain ⟨ofFree, ofQueued⟩ := State.state_dispatched hc x r
  rcases hs with free | queued
  · exact (ofFree free).imp id And.right
  · rw [ofQueued queued]
    split
    · exact Or.inl rfl
    · exact Or.inr rfl

theorem StState.still_of_idle {y : StState} (h : y = .free ∨ y = .parkQueued) : y.still := by
  rcases h with rfl | rfl <;> exact ⟨by decide, by decide⟩

/-- The record an observation leaves of the station it saw, as far as the credit goes (R91 to R95). -/
def State.judgedRecord (s : State) (a : Nat) (r : StatusRec) : Station :=
  ((s.st a).seenAt s.mono r).judged s.mono (s.pol a) (s.st a).snapshot (snapshotNow r)

theorem State.observes.credit (h : s.observes x f r) (hq : s.queuesMatch) (hc : (s.pol f.src.toNat).cls ≠ .absent)
    (hs : (s.st f.src.toNat).state = .free ∨ (s.st f.src.toNat).state = .parkQueued)
    (own : ((s.dispatched x f.src.toNat r).referenceSeen f.src.toNat r.aux.toNat).Owned x t) :
    Station.CreditKept (s.judgedRecord f.src.toNat r) (t.st f.src.toNat) := by
  have ha := h.src_known
  have self := State.st_sighted_self s f.src.toNat x r ha
  obtain ⟨mono, cfg, -⟩ := s.sighted_fields x f.src.toNat r
  have state := State.state_sighted s f.src.toNat x r f.src.toNat
  have judged := State.dispatchObs_judged (s := s.sighted x f.src.toNat r) (before := (s.st f.src.toNat).snapshot)
    (o := snapshotNow r) ha (by rwa [state])
  rw [self, mono, State.pol_congr _ _ cfg] at judged
  refine (judged.trans ?_).trans (own.creditKept _)
  rw [← State.dispatched_of_present hc]
  refine State.referenceSeen_creditKept (State.dispatched_queuesMatch hq x _ r) _ _ ?_
  exact StState.still_of_idle (State.dispatched_still hc hs x r)

/-- The record of a station whose observation is a credit fault (R81). -/
theorem State.judgedRecord_fault (h : r.cause = .fault) :
    s.judgedRecord a r = Station.creditFault s.mono ((s.st a).seenAt s.mono r) := if_pos h

/-- The record of a queued station seen not running (R112). -/
theorem State.judgedRecord_left (hq : (s.st a).state = .parkQueued) (hc : r.cause ≠ .fault) (hr : r.run ≠ .running) :
    s.judgedRecord a r = (s.st a).seenAt s.mono r :=
  (if_neg hc).trans ((if_pos hq).trans (if_neg hr))

/-- The record whose credit is computed: a start of a FREE station is recorded first (R74). -/
theorem State.judgedRecord_counted (hc : r.cause ≠ .fault)
    (h : (s.st a).state = .free ∨ (s.st a).state = .parkQueued ∧ r.run = .running) :
    s.judgedRecord a r
      = Station.creditUpdate s.mono (s.pol a) (min r.load.toNat 1000)
          (if (s.st a).state = .free ∧ startTest (s.st a).snapshot (snapshotNow r) = true then
            ((s.st a).seenAt s.mono r).recordStart s.mono
           else (s.st a).seenAt s.mono r) := by
  refine (if_neg hc).trans ?_
  rcases h with free | ⟨queued, run⟩
  · refine (if_neg fun hq => ?_).trans ?_
    · change (s.st a).state = .parkQueued at hq
      rw [free] at hq
      cases hq
    · rw [if_congr (and_iff_right free) rfl rfl]
      rfl
  · refine (if_pos queued).trans ((if_pos run).trans ?_)
    rw [if_neg fun hf => by rw [queued] at hf; cases hf.1]
    rfl

/-- What every observation leaves of the record of the station seen, and of the settings (R72). -/
theorem State.observes.sight {known : Prop} (h : s.observes x f r)
    (hk : known → (s.st f.src.toNat).state ≠ .unknown)
    (own : ((s.dispatched x f.src.toNat r).referenceSeen f.src.toNat r.aux.toNat).Owned x t) :
    Station.SightKept known ((s.st f.src.toNat).seenAt s.mono r) (t.st f.src.toNat) := by
  obtain ⟨hear, -, -, -, body, other⟩ := h
  have seen := (State.replied_sight (x := x) body other hk).st f.src.toNat
  rw [State.st_sighted_self _ _ _ _ (State.src_known hear), State.replied_status body other] at seen
  rw [own.record]
  exact ⟨⟨seen.hold, seen.lock, seen.exempt, seen.scanMiss⟩, seen.snapshot, seen.seen, seen.notFresh, seen.shadow⟩

theorem State.observes.settings (h : s.observes x f r)
    (own : ((s.dispatched x f.src.toNat r).referenceSeen f.src.toNat r.aux.toNat).Owned x t) : s.settingsKept t := by
  obtain ⟨-, -, -, -, body, other⟩ := h
  have replied := s.replied_settings x f
  rw [State.replied_status body other] at replied
  exact replied.trans own.settings

/-- Recording a start moves the start history and the last start time alone (R74). -/
theorem Station.recordStart_base (c : Prop) [Decidable c] (now : Nat) (y : Station) :
    (if c then y.recordStart now else y)
      = { y with
          starts := if c then startsWith y.starts now else y.starts
          lastStart := if c then some now else y.lastStart } := by
  by_cases hc : c
  · rw [if_pos hc, if_pos hc, if_pos hc, Station.recordStart_eq]
  · rw [if_neg hc, if_neg hc, if_neg hc]

/-- The record of a station whose credit is computed, spelled out (R74, R91 to R95). -/
theorem State.judgedRecord_eq (hc : r.cause ≠ .fault)
    (h : (s.st a).state = .free ∨ (s.st a).state = .parkQueued ∧ r.run = .running) :
    let p := s.pol a
    let load := min r.load.toNat 1000
    let elapsed := s.mono - (s.st a).lastObs
    let left := if elapsed / 100 ≤ 600 then elapsed % 100 else 0
    let started := (s.st a).state = .free ∧ startTest (s.st a).snapshot (snapshotNow r) = true
    s.judgedRecord a r =
      { (s.st a).seenAt s.mono r with
        remainder := left
        lastObs := s.mono - left
        credit := creditAfter p load (min (elapsed / 100) 600) (s.st a).credit
        stats := if p.tBusy ≤ load then { (s.st a).stats with busyResets := min ((s.st a).stats.busyResets + 1) 65535 }
          else (s.st a).stats
        starts := if started then startsWith (s.st a).starts s.mono else (s.st a).starts
        lastStart := if started then some s.mono else (s.st a).lastStart } := by
  intro p load elapsed left started
  rw [State.judgedRecord_counted hc h, Station.recordStart_base, Station.creditUpdate_eq]
  rfl

/-- A station that the dispatch leaves FREE stays so to the end of its observation. -/
theorem State.observed_free (hq : s.queuesMatch) (own : ((s.dispatched x a r).referenceSeen a r.aux.toNat).Owned x t)
    (hf : ((s.dispatched x a r).st a).state = .free) : (t.st a).state = .free := by
  have still : ((s.dispatched x a r).st a).state.still := StState.still_of_idle (Or.inl hf)
  rw [own.state]
  rcases (State.referenceSeen_spares a r.aux.toNat (State.dispatched_queuesMatch hq x a r)).st a still
    with same | ⟨queued, -⟩
  · rw [same, hf]
  · cases hf.symm.trans queued

/-- A queued one the dispatch leaves in the park queue has gone to FREE at most. -/
theorem State.observed_idle (hq : s.queuesMatch) (own : ((s.dispatched x a r).referenceSeen a r.aux.toNat).Owned x t)
    (hi : ((s.dispatched x a r).st a).state = .free ∨ ((s.dispatched x a r).st a).state = .parkQueued) :
    (t.st a).state = .free ∨ (t.st a).state = .parkQueued := by
  rw [own.state]
  rcases (State.referenceSeen_spares a r.aux.toNat (State.dispatched_queuesMatch hq x a r)).st a
    (StState.still_of_idle hi) with same | ⟨-, freed⟩
  · rwa [same]
  · rw [freed]
    exact Or.inl rfl

/-- The park queue after the observation of a queued station that runs (R113). -/
theorem State.dispatched_parkQ (hq : s.queuesMatch) (hc : (s.pol a).cls ≠ .absent)
    (queued : (s.st a).state = .parkQueued) (cause : r.cause ≠ .fault) (run : r.run = .running) (x : Exchange) :
    (s.dispatched x a r).parkQ
      = if (s.pol a).tBusy ≤ (snapshotNow r).load then s.parkQ.filter (· != a) else s.parkQ := by
  obtain ⟨-, cfg, -, -, -, -, parkQ, -⟩ := s.sighted_fields x a r
  have state := (State.state_sighted s a x r a).trans queued
  have update : ((s.sighted x a r).creditUpdate a (snapshotNow r).load).parkQ = s.parkQ :=
    (State.modSt_parkQ ..).trans parkQ
  rw [State.dispatched_of_present hc, State.dispatchObs_queued _ _ _ state,
    if_neg (show ¬ (snapshotNow r).cause = .fault from cause),
    if_neg (show ¬ (snapshotNow r).run ≠ .running from not_not.mpr run), if_congr (busyBand_iff _) rfl rfl, State.pol_congr _ _ cfg]
  by_cases hb : (s.pol a).tBusy ≤ (snapshotNow r).load
  · rw [if_pos hb, if_pos hb, State.leavePark_parkQ, update]
    · exact (State.creditUpdate_moves (w := False) _ _ _).queuesMatch (State.sighted_queuesMatch s a x r hq)
    · rw [State.creditUpdate_state, state]
  · rw [if_neg hb, if_neg hb, update]

theorem State.dispatched_cfg (s : State) (x : Exchange) (a : Nat) (r : StatusRec) : (s.dispatched x a r).cfg = s.cfg :=
  (State.dispatched_sight (known := False) False.elim).cfg.trans (s.sighted_fields x a r).2.1

/-- No references, no judgement of them (R131). -/
theorem State.dispatched_unreferenced (href : s.noReference a) (aux : Nat) :
    (s.dispatched x a r).referenceSeen a aux = s.dispatched x a r := by
  refine State.referenceSeen_none (fun i ms k lo hi group => href i ms k lo hi ?_) aux
  rw [← group, State.group, State.group, State.dispatched_cfg]

/-- Settles O38: the dispatch judges the credit (`State.dispatchObs_judged`), which neither the judgement of references
nor the poll's outcome moves. -/
theorem observationIntegratesCredit : Obligations.ObservationIntegratesCredit := by
  intro f s x r obs hq present a p y load elapsed units left free queued counted started idle
  obtain ⟨t, exec, own⟩ := exec_observes obs
  have kept := obs.credit hq present idle own
  have sight := obs.sight (known := True) (fun _ hu => ?known) own
  case known => rcases idle with h | h <;> cases h.symm.trans hu
  obtain ⟨ofFree, ofQueued⟩ := State.state_dispatched present x r
  have seen (hn : counted) : free ∨ queued ∧ r.run = .running :=
    idle.imp id fun hqd => ⟨hqd, hn.2.resolve_left fun hf => by cases hf.symm.trans hqd⟩
  refine ⟨t, exec, fun hc => ?base, fun hc => ?credit, fun hc => ?fault, fun hqd hc hr => ?left,
    fun hqd hc href => ?queue, fun hf => ?free, fun hst => ?started, fun hst => ?unstarted, sight.snapshot, sight.seen,
    sight.notFresh, sight.shadow trivial, sight.lock, sight.hold, obs.settings own⟩
  case base =>
    rw [kept.remainder, kept.lastObs]
    by_cases hf : r.cause = .fault
    · rw [State.judgedRecord_fault hf, Station.creditFault_eq]
      exact ⟨rfl, rfl⟩
    · have hn := hc.resolve_right hf
      rw [State.judgedRecord_eq hf (seen hn)]
      exact ⟨rfl, rfl⟩
  case credit =>
    rw [kept.credit, kept.busyResets, State.judgedRecord_eq hc.1 (seen hc)]
    refine ⟨creditAfter_eq .., ?_⟩
    dsimp only
    split <;> rfl
  case fault =>
    rw [kept.credit, kept.busyResets, State.judgedRecord_fault hc]
    refine ⟨rfl, State.observed_free hq own ?_, rfl⟩
    rcases idle with hf | hqd
    · exact (ofFree hf).resolve_right fun h => h.1 hc
    · rw [ofQueued hqd, if_pos (Or.inl hc)]
  case left =>
    rw [kept.credit, kept.remainder, kept.lastObs, State.judgedRecord_left hqd hc hr]
    refine ⟨State.observed_free hq own ?_, rfl, rfl, rfl⟩
    rw [ofQueued hqd, if_pos (Or.inr (Or.inl hr))]
  case queue =>
    have run : r.run = .running := hc.2.resolve_left fun hf => by cases hf.symm.trans hqd
    rw [State.dispatched_unreferenced href] at own
    rw [own.state, ofQueued hqd, own.parkQ, State.dispatched_parkQ hq present hqd hc.1 run]
    simp only [hc.1, run, false_or, not_true_eq_false, ne_eq]
    exact ⟨rfl, rfl⟩
  case free => exact State.observed_idle hq own (State.dispatched_still present idle x r)
  case started =>
    obtain ⟨hf, hc, before, after⟩ := hst
    have test : free ∧ startTest y.snapshot (snapshotNow r) = true := ⟨hf, startTest_iff.mpr ⟨before, after⟩⟩
    rw [kept.starts, kept.lastStart, State.judgedRecord_eq hc (Or.inl hf)]
    exact ⟨if_pos test, if_pos test⟩
  case unstarted =>
    rw [kept.starts, kept.lastStart]
    by_cases hc : r.cause = .fault
    · rw [State.judgedRecord_fault hc, Station.creditFault_eq]
      exact ⟨rfl, rfl⟩
    · by_cases hn : free ∨ r.run = .running
      · have test : ¬ (free ∧ startTest y.snapshot (snapshotNow r) = true) := fun ⟨hf, ht⟩ =>
          hst ⟨hf, hc, (startTest_iff.mp ht).1, (startTest_iff.mp ht).2⟩
        rw [State.judgedRecord_eq hc (seen ⟨hc, hn⟩)]
        exact ⟨if_neg test, if_neg test⟩
      · obtain ⟨notFree, notRunning⟩ := not_or.mp hn
        rw [State.judgedRecord_left (idle.resolve_left notFree) hc notRunning]
        exact ⟨rfl, rfl⟩

end Sys2Proof.Machine
end


section
/-! SUPPORT. Eligibility to park, spelled out (R108, R109, R127 to R130), and the way into the park queue (R96, R110). -/

namespace Sys2Proof.Machine

open Station (BeliefKept HoldKept beliefOrder holdOrder)

variable {s t u v : State} {a b d load : Nat} {x : Exchange} {f : Frame} {r : StatusRec} {o : Snapshot}
  {before : Option Snapshot}

/-! ## The tests (R108, R109, R127 to R130) -/

theorem State.windowTest_iff :
    s.windowTest a = true
      ↔ s.zoneOpen (s.pol a).zone = true
        ∧ ∀ m, s.timeToSpanEnd (s.pol a).zone = some m →
            ((s.pol a).parkHorizon * 60000 : Int) ≤ m - ((s.pol a).wakeLead * 60000 : Int) := by
  unfold State.windowTest
  dsimp only
  rw [Bool.and_eq_true]
  refine and_congr_right fun _ => ?_
  rcases s.timeToSpanEnd (s.pol a).zone with _ | m
  · simp
  · simp

/-- A running member (R128). -/
theorem State.running_iff (m : Nat) :
    s.running m = true
      ↔ (s.pol m).cls = .managed
        ∧ (((s.st m).state = .free ∧ ∃ b ∈ (s.st m).snapshot, b.run = .running)
          ∨ (s.st m).state = .parkQueued
          ∨ ((s.st m).state = .waking ∧ ((s.st m).phase = .command ∨ (s.st m).phase = .settle))) := by
  unfold State.running
  dsimp only
  rw [Bool.and_eq_true, decide_eq_true_eq]
  refine and_congr_right fun _ => ?_
  cases (s.st m).state <;> simp [Option.any_eq_true]

theorem State.atRest_iff (q : Nat) :
    s.atRest q = true
      ↔ (s.pol q).cls = .absent ∨ (s.st q).state = .parked
        ∨ ((s.st q).state = .free ∧ (s.st q).shadow = .stop ∧ ∃ b ∈ (s.st q).snapshot, b.run = .stopped) := by
  unfold State.atRest
  simp [Option.any_eq_true, or_assoc, and_assoc]

theorem State.group_beyond {i : Nat} (h : 32 ≤ i) : s.group i = .empty := by
  simp [State.group, h]

theorem State.permitted_iff :
    s.permitted a = true
      ↔ (∀ i ms k ref lo hi, s.group i = .quorum ms k ref lo hi → a ∈ ms →
          (if s.isStarved i then ms.length else k) + 1 ≤ ms.countP s.running)
        ∧ ∀ q ∈ s.supported a, s.atRest q = true := by
  unfold State.permitted
  rw [Bool.and_eq_true, List.all_eq_true, List.all_eq_true]
  refine and_congr_left fun _ => ⟨fun h i ms k ref lo hi group member => ?_, fun h i _ => ?_⟩
  · have bound : i < 32 := by
      by_contra hi
      rw [State.group_beyond (Nat.not_lt.mp hi)] at group
      cases group
    have test := h i (List.mem_range.mpr bound)
    unfold State.quorumTest at test
    simpa [group, member] using test
  · unfold State.quorumTest
    split
    · next ms k ref lo hi group =>
      by_cases member : a ∈ ms
      · simpa [member] using h i ms k ref lo hi group member
      · simp [member]
    all_goals rfl

/-- Park eligibility (R108). -/
theorem State.eligible_iff :
    s.eligible a = true
      ↔ s.mode = .active ∧ (s.pol a).cls = .managed ∧ (s.st a).shadow = .run
        ∧ (∃ b ∈ (s.st a).snapshot, b.run = .running)
        ∧ (s.pol a).cPark ≤ (s.st a).credit ∧ (s.st a).exempt = false ∧ (s.st a).autoExempt = false
        ∧ (s.st a).lock = none ∧ (∃ n, (s.st a).lastStart = some n ∧ (s.pol a).minRun * 1000 ≤ s.mono - n)
        ∧ s.windowTest a = true ∧ s.permitted a = true := by
  unfold State.eligible
  simp [Option.any_eq_true, and_assoc]
  intros
  exact exists_congr fun y => and_congr_right fun _ => Iff.rfl

/-! ## The eligibility test of an observation (R96, R110) -/

/-- The state that a FREE station's credit computation leaves to the eligibility test. -/
def State.computed (s : State) (x : Exchange) (a : Nat) (r : StatusRec) : State :=
  ((s.sighted x a r).noteStart a (s.st a).snapshot (snapshotNow r)).creditUpdate a (snapshotNow r).load

theorem State.dispatched_free (hc : (s.pol a).cls ≠ .absent) (hf : (s.st a).state = .free) (cause : r.cause ≠ .fault)
    (x : Exchange) : s.dispatched x a r = (s.computed x a r).parkTest a := by
  rw [State.dispatched_of_present hc, State.dispatchObs_free_test ((State.state_sighted ..).trans hf) cause]
  rfl

section Computed

variable (s) (x) (a) (r)

theorem State.computed_kept : (s.sighted x a r).Kept (Station.SightKept True) (s.computed x a r) :=
  (State.noteStart_sight _ a _ _).trans Station.sightOrder (State.creditUpdate_sight _ a _)

theorem State.st_computed_other (hb : b ≠ a) : (s.computed x a r).st b = s.st b := by
  have update : (s.computed x a r).st b = ((s.sighted x a r).noteStart a (s.st a).snapshot (snapshotNow r)).st b :=
    State.st_modSt_other _ _ _ _ hb
  have note : ((s.sighted x a r).noteStart a (s.st a).snapshot (snapshotNow r)).st b = (s.sighted x a r).st b := by
    unfold State.noteStart
    split
    · exact State.st_modSt_other _ _ _ _ hb
    · rfl
  exact (update.trans note).trans (State.st_sighted_other s a x r hb)

theorem State.computed_parkQ : (s.computed x a r).parkQ = s.parkQ := by
  have note : ((s.sighted x a r).noteStart a (s.st a).snapshot (snapshotNow r)).parkQ = (s.sighted x a r).parkQ := by
    unfold State.noteStart
    split
    · exact State.modSt_parkQ ..
    · rfl
  exact (State.modSt_parkQ ..).trans (note.trans (s.sighted_fields x a r).2.2.2.2.2.2.1)

theorem State.computed_starved : (s.computed x a r).starved = s.starved := by
  have note : ((s.sighted x a r).noteStart a (s.st a).snapshot (snapshotNow r)).starved
      = (s.sighted x a r).starved := by
    unfold State.noteStart
    split
    · exact State.modSt_starved ..
    · rfl
  exact (State.modSt_starved ..).trans (note.trans (s.sighted_fields x a r).2.2.2.2.1)

theorem State.state_computed (b : Nat) : ((s.computed x a r).st b).state = (s.st b).state := by
  unfold State.computed
  rw [State.creditUpdate_state, State.noteStart_state, State.state_sighted]

end Computed

theorem State.st_computed_self (ha : hasRecord a) (hf : (s.st a).state = .free) (cause : r.cause ≠ .fault) :
    (s.computed x a r).st a = s.judgedRecord a r := by
  obtain ⟨mono, cfg, -⟩ := s.sighted_fields x a r
  unfold State.computed
  rw [State.st_noteStart_creditUpdate _ ha, State.st_sighted_self _ _ _ _ ha, mono, State.pol_congr _ _ cfg,
    State.judgedRecord_counted cause (Or.inl hf), if_congr (and_iff_right hf) rfl rfl]
  rfl

theorem State.supported_of_cfg (h : t.cfg = s.cfg) (p : Nat) : t.supported p = s.supported p := by
  unfold State.supported State.groupList
  rw [h]

theorem State.timeToSpanEnd_congr (hc : t.cfg = s.cfg) (hk : t.clock = s.clock) (hm : t.mono = s.mono) (z : Nat) :
    t.timeToSpanEnd z = s.timeToSpanEnd z := by
  simp only [State.timeToSpanEnd, State.spanMinutes, State.openAt, State.weekMinute, State.weekTime, State.now, hc, hk, hm]

/-- The running members, where the station seen runs (R128). -/
theorem State.computed_running (ha : hasRecord a) (hf : (s.st a).state = .free) (run : r.run = .running) (m : Nat) :
    (s.computed x a r).running m
      = decide ((s.pol m).cls = .managed
          ∧ (m = a
            ∨ ((s.st m).state = .free ∧ ∃ b ∈ (s.st m).snapshot, b.run = .running)
            ∨ (s.st m).state = .parkQueued
            ∨ ((s.st m).state = .waking ∧ ((s.st m).phase = .command ∨ (s.st m).phase = .settle)))) := by
  have kept := s.computed_kept a x r
  have pol := State.pol_congr _ _ (kept.cfg.trans (s.sighted_fields x a r).2.1) m
  rw [Bool.eq_iff_iff, State.running_iff, decide_eq_true_iff, pol]
  refine and_congr_right fun _ => ?_
  by_cases hm : m = a
  · subst hm
    have sight := (kept.st m).snapshot
    rw [State.st_sighted_self _ _ _ _ ha] at sight
    refine iff_of_true (Or.inl ⟨(s.state_computed m x r m).trans hf, ?_⟩) (Or.inl rfl)
    rw [sight]
    exact ⟨_, rfl, run⟩
  · rw [s.st_computed_other a x r hm, or_iff_right hm]

/-- The stations at rest, where the one seen is believed running (R130). -/
theorem State.computed_atRest (hf : (s.st a).state = .free) (run : (s.st a).shadow = .run)
    (ha : hasRecord a) (q : Nat) :
    (s.computed x a r).atRest q = true
      ↔ (s.pol q).cls = .absent ∨ (s.st q).state = .parked
        ∨ ((s.st q).state = .free ∧ (s.st q).shadow = .stop ∧ ∃ b ∈ (s.st q).snapshot, b.run = .stopped) := by
  have kept := s.computed_kept a x r
  have pol := State.pol_congr _ _ (kept.cfg.trans (s.sighted_fields x a r).2.1) q
  rw [State.atRest_iff, pol]
  by_cases hq : q = a
  · subst hq
    have sight := (kept.st q).shadow trivial
    rw [State.st_sighted_self _ _ _ _ ha] at sight
    have shadow : ((s.computed x q r).st q).shadow = .run := sight.trans run
    rw [s.state_computed q x r q, shadow, run]
    simp
  · rw [s.st_computed_other a x r hq]

/-- The eligibility of the station seen, in terms of the state before its observation (R108 to R110, R127 to R130). -/
theorem State.computed_eligible (ha : hasRecord a) (hf : (s.st a).state = .free) (cause : r.cause ≠ .fault) :
    (s.computed x a r).eligible a = true
      ↔ s.mode = .active ∧ (s.pol a).cls = .managed ∧ (s.st a).shadow = .run ∧ r.run = .running
        ∧ (s.pol a).cPark ≤ ((s.computed x a r).st a).credit ∧ (s.st a).exempt = false
        ∧ (s.st a).autoExempt = false ∧ (s.st a).lock = none
        ∧ (∃ n, ((s.computed x a r).st a).lastStart = some n ∧ (s.pol a).minRun * 1000 ≤ s.mono - n)
        ∧ s.zoneOpen (s.pol a).zone = true
        ∧ (∀ m, s.timeToSpanEnd (s.pol a).zone = some m →
            ((s.pol a).parkHorizon * 60000 : Int) ≤ m - ((s.pol a).wakeLead * 60000 : Int))
        ∧ (∀ i ms k ref lo hi, s.group i = .quorum ms k ref lo hi → a ∈ ms →
            (if s.isStarved i then ms.length else k) + 1 ≤ ms.countP fun m =>
              decide ((s.pol m).cls = .managed
                ∧ (m = a
                  ∨ ((s.st m).state = .free ∧ ∃ b ∈ (s.st m).snapshot, b.run = .running)
                  ∨ (s.st m).state = .parkQueued
                  ∨ ((s.st m).state = .waking ∧ ((s.st m).phase = .command ∨ (s.st m).phase = .settle)))))
        ∧ ∀ q ∈ s.supported a, (s.pol q).cls = .absent ∨ (s.st q).state = .parked
            ∨ ((s.st q).state = .free ∧ (s.st q).shadow = .stop ∧ ∃ b ∈ (s.st q).snapshot, b.run = .stopped) := by
  obtain ⟨mono, cfg, mode, clock, -⟩ := s.sighted_fields x a r
  have kept := s.computed_kept a x r
  have sight := kept.st a
  rw [State.st_sighted_self _ _ _ _ ha] at sight
  have hcfg := kept.cfg.trans cfg
  have hclock := kept.clock.trans clock
  have hmono := kept.mono.trans mono
  have auto : ((s.computed x a r).st a).autoExempt = (s.st a).autoExempt := by
    rw [State.st_computed_self ha hf cause, State.judgedRecord_eq cause (Or.inl hf)]
    rfl
  have state := s.state_computed a x r a
  have starved (i : Nat) : (s.computed x a r).isStarved i = s.isStarved i := by
    rw [State.isStarved, State.isStarved, s.computed_starved a x r]
  have group (i : Nat) : (s.computed x a r).group i = s.group i := by
    rw [State.group, State.group, hcfg]
  have snapshot : (∃ b ∈ ((s.computed x a r).st a).snapshot, b.run = .running) ↔ r.run = .running := by
    rw [sight.snapshot]
    exact ⟨fun ⟨b, hb, run⟩ => by cases hb; exact run, fun run => ⟨_, rfl, run⟩⟩
  rw [State.eligible_iff, State.windowTest_iff, State.permitted_iff]
  simp only [kept.mode.trans mode, State.pol_congr _ _ hcfg, sight.shadow trivial, snapshot, sight.exempt, auto, sight.lock,
    hmono, and_assoc, starved, group, State.supported_of_cfg hcfg, State.zoneOpen_congr hcfg hclock hmono,
    State.timeToSpanEnd_congr hcfg hclock hmono]
  refine and_congr_right fun _ => and_congr_right fun _ => and_congr_right fun believed => and_congr_right fun run => ?_
  refine and_congr_right fun _ => and_congr_right fun _ => and_congr_right fun _ => and_congr_right fun _ =>
    and_congr_right fun _ => and_congr_right fun _ => and_congr_right fun _ => and_congr ?_ ?_
  · have runs := funext (State.computed_running (x := x) ha hf run)
    rw [runs]
  · exact forall₂_congr fun q _ => State.computed_atRest hf believed ha q

/-- Settles O39: the eligibility test follows the credit computation (`State.dispatched_free`). -/
theorem eligibleStationJoinsParkQueue : Obligations.EligibleStationJoinsParkQueue := by
  intro f s x r obs hq present href free cause a p runs rests
  obtain ⟨t, exec, own⟩ := exec_observes obs
  have ha := obs.src_known
  rw [State.dispatched_unreferenced href, State.dispatched_free present free cause] at own
  have kept := own.creditKept a
  have test := State.st_parkTest_self (s := s.computed x a r) ha
  have same : Station.CreditKept ((s.computed x a r).st a) (t.st a) := by
    refine Station.CreditKept.trans ?_ kept
    rw [test]
    split
    · exact ⟨rfl, rfl, rfl, rfl, rfl, rfl⟩
    · exact .refl _
  have eligible := State.computed_eligible (s := s) (x := x) ha free cause
  rw [← same.credit, ← same.lastStart] at eligible
  refine ⟨t, exec, fun he => ?_, fun he => ?_⟩
  · have yes := eligible.mpr he
    rw [own.state, test, if_pos yes, own.parkQ, State.parkTest, if_pos yes]
    refine ⟨rfl, ?_⟩
    change (s.computed x a r).parkQ ++ [a] = _
    rw [State.computed_parkQ]
  · have no : ¬ (s.computed x a r).eligible a = true := fun yes => he (eligible.mp yes)
    rw [own.state, test, if_neg no, own.parkQ, State.parkTest, if_neg no, State.computed_parkQ, State.state_computed]
    exact ⟨free, rfl⟩

end Sys2Proof.Machine
end


section
/-! SUPPORT. Entry to PARKED and the wakes that may follow it at once (R75, R78, R123, R133, R135, R142, R172). -/

namespace Sys2Proof.Machine

open Station (BeliefKept HoldKept beliefOrder holdOrder)

variable {s t u v e : State} {a b : Nat} {c d : Prop}

/-! ## The count of parks, which the wake side leaves -/

/-- The parks counted of two records agree. -/
def Station.ParksKept (r q : Station) : Prop := q.stats.parks = r.stats.parks

theorem Station.parksOrder : Station.Order Station.ParksKept := ⟨fun _ => rfl, fun h k => k.trans h⟩

theorem Station.account_parks (now rated : Nat) (y : Station) : Station.ParksKept y (y.account now rated) := by
  unfold Station.account
  split <;> rfl

theorem Station.faultWith_parks (now rated : Nat) (c : FaultCause) (y : Station) :
    Station.ParksKept y (y.faultWith now rated c) := by
  refine Eq.trans ?_ (Station.account_parks now rated y)
  unfold Station.faultWith
  dsimp only
  cases y.state <;> rfl

section Parks

variable (s)

theorem State.modSt_parks (a : Nat) (f : Station → Station) (h : ∀ y, Station.ParksKept y (f y)) :
    s.Kept Station.ParksKept (s.modSt a f) := State.modSt_kept Station.parksOrder s a f (h _)

theorem State.warnAdmitted_parks (a : Nat) : s.Kept Station.ParksKept (s.warnAdmitted a) := by
  have satisfy : s.Kept Station.ParksKept (s.satisfy a s.now) := s.modSt_parks a _ (by exact fun _ => rfl)
  unfold State.warnAdmitted
  dsimp only
  split
  · exact satisfy
  · split
    · exact .refl Station.parksOrder s
    · split
      · exact satisfy
      · exact s.setZone_kept Station.parksOrder _ _

theorem State.admitWalk_parks (l : List Nat) : s.Kept Station.ParksKept (s.admitWalk l) := by
  induction l generalizing s with
  | nil => exact .refl Station.parksOrder s
  | cons a l ih =>
    have one : s.Kept Station.ParksKept (s.admitOne a) :=
      ((s.dequeue_kept Station.parksOrder a).trans Station.parksOrder
        (State.modSt_parks _ a _ (by exact fun _ => rfl))).trans Station.parksOrder (State.warnAdmitted_parks _ a)
    unfold State.admitWalk
    split
    · split
      · exact one.trans Station.parksOrder (ih _)
      · exact .refl Station.parksOrder s
    · exact ih s

theorem State.admissionPass_parks : s.Kept Station.ParksKept s.admissionPass := by
  unfold State.admissionPass
  split
  · exact .refl Station.parksOrder s
  · exact s.admitWalk_parks _

theorem State.faultOne_parks (a : Nat) (c : FaultCause) : s.Kept Station.ParksKept (s.faultOne a c) := by
  have fault : s.Kept Station.ParksKept
      (((s.dequeue a).modSt a (Station.faultWith s.now (s.pol a).rated c)).raise .stationFault) :=
    ((s.dequeue_kept Station.parksOrder a).trans Station.parksOrder
      (State.modSt_parks _ a _ (Station.faultWith_parks _ _ _))).trans Station.parksOrder
      (State.raise_kept Station.parksOrder _ _)
  have limit (v : State) : v.Kept Station.ParksKept (v.failLimitTest a) := by
    unfold State.failLimitTest
    dsimp only
    split
    · exact (v.modSt_parks a _ (by exact fun _ => rfl)).trans Station.parksOrder (State.raise_kept Station.parksOrder _ _)
    · exact .refl Station.parksOrder v
  unfold State.faultOne
  dsimp only
  split
  · exact fault.trans Station.parksOrder (limit _)
  · exact fault.trans Station.parksOrder (limit _)
  · exact fault

theorem State.spreadFaults_parks (n : Nat) (l : List Nat) : s.Kept Station.ParksKept (s.spreadFaults n l) := by
  induction n generalizing s l with
  | zero => exact .refl Station.parksOrder s
  | succ n ih =>
    cases l with
    | nil => exact .refl Station.parksOrder s
    | cons p l =>
      exact (State.foldl_kept Station.parksOrder (fun t q => t.faultOne q .supportFault)
        (fun t q => t.faultOne_parks q _) _ s).trans Station.parksOrder (ih _ _)

theorem State.joinQueue_parks (a : Nat) (q : Priority) : s.Kept Station.ParksKept (s.joinQueue a q) :=
  ((s.modSt_parks a _ (Station.account_parks _ _)).trans Station.parksOrder
    (State.modSt_parks _ a _ (by exact fun _ => rfl))).trans Station.parksOrder (State.enqueue_kept Station.parksOrder _ a q)

theorem State.moveToDemand_parks (a : Nat) : s.Kept Station.ParksKept (s.moveToDemand a) :=
  ((s.dequeue_kept Station.parksOrder a).trans Station.parksOrder
    (State.modSt_parks _ a _ (by exact fun _ => rfl))).trans Station.parksOrder (State.enqueue_kept Station.parksOrder _ a _)

theorem State.chainAll_parks (q : Priority) (l : List Nat) : s.Kept Station.ParksKept (s.chainAll q l).1 := by
  induction l generalizing s with
  | nil => exact .refl Station.parksOrder s
  | cons p l ih =>
    have one : s.Kept Station.ParksKept (s.chainOne q p).1 := by
      unfold State.chainOne
      split
      · exact s.joinQueue_parks p q
      · split
        · exact s.moveToDemand_parks p
        · exact .refl Station.parksOrder s
      · exact .refl Station.parksOrder s
    exact one.trans Station.parksOrder (ih _)

theorem State.chainWalk_parks (n : Nat) (l : List Nat) : s.Kept Station.ParksKept (s.chainWalk n l) := by
  induction n generalizing s l with
  | zero => exact .refl Station.parksOrder s
  | succ n ih =>
    cases l with
    | nil => exact .refl Station.parksOrder s
    | cons a l =>
      unfold State.chainWalk
      split
      · exact ih s l
      · split
        · exact ((s.faultOne_parks a _).trans Station.parksOrder (State.spreadFaults_parks _ _ _)).trans
            Station.parksOrder (ih _ _)
        · exact (s.chainAll_parks _ _).trans Station.parksOrder (ih _ _)

/-- Taking a wake counts no park. -/
theorem State.takeWake_parks (a : Nat) (q : Priority) : s.Kept Station.ParksKept (s.takeWake a q) := by
  have demand : s.Kept Station.ParksKept (s.setDemand a) := s.modSt_parks a _ (by exact fun _ => rfl)
  unfold State.takeWake
  split
  · exact ((s.joinQueue_parks a _).trans Station.parksOrder (State.chainWalk_parks _ _ _)).trans Station.parksOrder
      (State.admissionPass_parks _)
  · split
    · exact ((s.moveToDemand_parks a).trans Station.parksOrder (State.chainWalk_parks _ _ _)).trans
        Station.parksOrder (State.admissionPass_parks _)
    · exact demand
  · exact demand
  · exact demand
  · exact .refl Station.parksOrder s

end Parks

/-! ## Wakes of a station that is PARKED or has left PARKED -/

theorem State.setDemand_waking (hw : (s.st a).state = .waking) :
    (s.setDemand a).st a = { s.st a with demand := true } :=
  State.st_modSt_self _ _ _ (hasRecord_of_state s a (by rw [hw]; decide))

theorem State.takeWake_leftPark (q : Priority) (hq : s.queuesMatch)
    (h : (s.st a).state = .parked ∨ Station.LeftPark (s.st a)) : Station.LeftPark ((s.takeWake a q).st a) := by
  rcases h with parked | left
  · exact State.takeWake_woken q hq parked
  · by_cases hw : (s.st a).state = .waking
    · cases q with
      | scheduled => rwa [State.takeWake_scheduled (by rw [hw]; decide)]
      | demand =>
        rw [State.takeWake_of_operating (Or.inr hw), State.setDemand_waking hw]
        exact left
    · refine left.fared ((State.takeWake_fared q hq ⟨?_, hw⟩).st a)
      intro hp
      rcases left.1 with h | h | h <;> cases h.symm.trans hp

theorem State.takeWake_demanded_of_left (hq : s.queuesMatch)
    (h : (s.st a).state = .parked ∨ (s.st a).state.woken) : (s.takeWake a .demand).Demanded a := by
  rcases h with parked | waits | waking | faulted
  · exact State.takeWake_demanded hq (Or.inl parked)
  · exact State.takeWake_demanded hq (Or.inr waits)
  · rw [State.takeWake_of_operating (Or.inr waking)]
    have self := State.setDemand_waking waking
    refine ⟨?_, fun _ => by rw [self], fun h => ?_⟩
    · rw [self]
      exact Or.inr (Or.inl waking)
    · rw [self] at h
      cases h.symm.trans waking
  · rw [State.takeWake_dropped .demand (by rw [faulted]; decide) (by rw [faulted]; decide)
      ⟨by rw [faulted]; decide, by rw [faulted]; decide⟩]
    exact ⟨Or.inr (Or.inr faulted), fun h => absurd faulted h, fun h => by cases h.symm.trans faulted⟩

/-- A run of optional wakes of a station PARKED in `e` has led to `v`: nothing where `c` fails, and out of PARKED where
it holds. -/
structure State.WokenIf (e v : State) (a : Nat) (c : Prop) : Prop where
  queues : v.queuesMatch
  kept : e.Kept BeliefKept v
  parks : e.Kept Station.ParksKept v
  stays : ¬ c → v = e
  leaves : c → Station.LeftPark (v.st a)

theorem State.WokenIf.refl (hq : e.queuesMatch) : e.WokenIf e a False :=
  ⟨hq, .refl beliefOrder e, .refl Station.parksOrder e, fun _ => rfl, False.elim⟩

theorem State.WokenIf.wake (h : e.WokenIf v a c) (hp : (e.st a).state = .parked) (q : Priority) {n : Prop} [Decidable n]
    (hn : ¬ c → (n ↔ d)) : e.WokenIf (if n then v.takeWake a q else v) a (c ∨ d) := by
  have ready : (v.st a).state = .parked ∨ Station.LeftPark (v.st a) := by
    by_cases hc : c
    · exact Or.inr (h.leaves hc)
    · exact Or.inl (by rw [h.stays hc, hp])
  by_cases hw : n
  · rw [if_pos hw]
    refine ⟨(v.takeWake_moves (w := False) a q).queuesMatch h.queues, h.kept.trans beliefOrder (v.takeWake_kept a q),
      h.parks.trans Station.parksOrder (v.takeWake_parks a q), fun hno => ?_,
      fun _ => State.takeWake_leftPark q h.queues ready⟩
    obtain ⟨hc, hd⟩ := not_or.mp hno
    exact absurd ((hn hc).mp hw) hd
  · rw [if_neg hw]
    refine ⟨h.queues, h.kept, h.parks, fun hno => h.stays (not_or.mp hno).1, fun hyes => ?_⟩
    by_cases hc : c
    · exact h.leaves hc
    · exact absurd ((hn hc).mpr (hyes.resolve_left hc)) hw

/-- The expiry of the wake-due time set at the entry to PARKED (R172). -/
theorem State.WokenIf.expire (h : e.WokenIf v a c) (hp : (e.st a).state = .parked)
    (hd : d ↔ ∃ n, (e.st a).wakeDue = some n ∧ n ≤ e.mono) : e.WokenIf (v.expireWakeDue a) a (c ∨ d) := by
  by_cases hc : c
  · have none : v.expireWakeDue a = v := by
      unfold State.expireWakeDue
      rw [(h.leaves hc).2.1]
    rw [none]
    exact ⟨h.queues, h.kept, h.parks, fun hno => absurd hc (not_or.mp hno).1, fun _ => h.leaves hc⟩
  · obtain rfl := h.stays hc
    by_cases hdue : d
    · obtain ⟨n, due, now_⟩ := hd.mp hdue
      have known : hasRecord a := hasRecord_of_state v a (by rw [hp]; decide)
      have cleared : ((v.modSt a fun y => { y with wakeDue := none }).st a).state = .parked := by
        rw [State.st_modSt_self _ _ _ known]
        exact hp
      have queues : (v.modSt a fun y => { y with wakeDue := none }).queuesMatch :=
        (v.modSt_moves (w := False) a _ (by exact fun _ => ⟨rfl, rfl, id⟩)).queuesMatch h.queues
      rw [State.expireWakeDue_of_due due now_]
      refine ⟨(State.takeWake_moves (w := False) _ a _).queuesMatch queues, ?_, ?_, fun hno => absurd hdue (not_or.mp hno).2,
        fun _ => State.takeWake_leftPark _ queues (Or.inl cleared)⟩
      · exact (v.modSt_belief a _ (by
          exact fun _ => ⟨⟨rfl, rfl, rfl, rfl⟩, rfl, rfl, rfl, rfl, rfl, rfl, rfl, rfl⟩)).trans
          beliefOrder (State.takeWake_kept _ a _)
      · exact (v.modSt_parks a _ (by exact fun _ => rfl)).trans Station.parksOrder (State.takeWake_parks _ a _)
    · have none : v.expireWakeDue a = v := by
        unfold State.expireWakeDue
        split
        · rfl
        · next n due => exact if_neg fun now_ => hdue (hd.mpr ⟨n, due, now_⟩)
      rw [none]
      exact ⟨h.queues, h.kept, h.parks, fun _ => rfl, fun hyes => absurd hyes (not_or.mpr ⟨hc, hdue⟩)⟩

/-! ## The entry itself (R78) -/

/-- The record and the wake-due time of a station entering PARKED, before the Group unit is told. -/
def State.enteredPark (s : State) (a : Nat) (f : Station → Station) : State :=
  (s.modSt a fun y => f (y.parkedAt s.mono)).armWakeDue a

section Entry

variable {f : Station → Station} (hf : ∀ y, Station.Tints y (f y))

theorem State.enterParked_eq (s : State) (a : Nat) (f : Station → Station) :
    s.enterParked a f = ((s.enteredPark a f).starvedWake a).neededWake a := rfl

theorem State.st_enteredPark_other (f : Station → Station) (h : b ≠ a) : (s.enteredPark a f).st b = s.st b :=
  (State.st_modSt_other _ _ _ _ h).trans (State.st_modSt_other _ _ _ _ h)

/-- Entering PARKED moves the station's record alone. -/
theorem State.enteredPark_eq (s : State) (a : Nat) (f : Station → Station) :
    s.enteredPark a f = { s with stations := (s.enteredPark a f).stations } := by
  unfold State.enteredPark State.armWakeDue
  dsimp only
  rw [State.modSt_eq, State.modSt_eq s]

theorem State.st_enteredPark_self (f : Station → Station) (ha : hasRecord a) :
    (s.enteredPark a f).st a = { f ((s.st a).parkedAt s.mono) with wakeDue := s.wakeDueNow a } := by
  have one : ((s.modSt a fun y => f (y.parkedAt s.mono)).st a) = f ((s.st a).parkedAt s.mono) :=
    State.st_modSt_self _ _ _ ha
  have due : (s.modSt a fun y => f (y.parkedAt s.mono)).wakeDueNow a = s.wakeDueNow a :=
    State.wakeDueNow_congr (State.modSt_cfg ..) (State.modSt_clock ..) (State.modSt_mono ..) a
  refine (State.st_modSt_self _ _ _ ha).trans ?_
  dsimp only
  rw [one, due]

include hf

theorem State.enteredPark_parked (ha : hasRecord a) : ((s.enteredPark a f).st a).state = .parked := by
  rw [State.st_enteredPark_self f ha]
  exact (hf _).state

theorem State.enteredPark_queuesMatch (hq : s.queuesMatch) (was : (s.st a).state.unqueued) :
    (s.enteredPark a f).queuesMatch := by
  have parked := hf ((s.st a).parkedAt s.mono)
  have state : (f ((s.st a).parkedAt s.mono)).state = .parked := parked.state
  have mark : (f ((s.st a).parkedAt s.mono)).parkMark = some s.mono := parked.mark
  have shift : Moves False s (s.modSt a fun y => f (y.parkedAt s.mono)) :=
    (Move.shift a _ was ⟨ne_of_eq_of_ne state (by decide), ne_of_eq_of_ne state (by decide)⟩
      (ne_of_eq_of_ne state (by decide)) (fun _ => by simp only [mark, state, Option.isSome_some]) parked.hold).moves
  exact (shift.trans (State.armWakeDue_moves _ a)).queuesMatch hq

/-- The waiting stations it supports are those of before its entry. -/
theorem State.enteredPark_waitingOn (ha : hasRecord a) (was : (s.st a).state ≠ .wakeQueued) :
    (s.enteredPark a f).waitingOn a = s.waitingOn a := by
  have cfg : (s.enteredPark a f).cfg = s.cfg := by rw [State.enteredPark_eq]
  unfold State.waitingOn
  rw [State.supported_of_cfg cfg]
  refine List.filter_congr fun q _ => ?_
  by_cases hq : q = a
  · subst hq
    rw [State.enteredPark_parked hf ha]
    simp [was]
  · rw [State.st_enteredPark_other f hq]

omit hf

theorem State.starvedMember_congr (hc : t.cfg = s.cfg) (hs : t.starved = s.starved) (a : Nat) :
    t.starvedMember a = s.starvedMember a := by
  simp only [State.starvedMember, State.isStarved, State.group, hc, hs]

theorem State.neededWake_eq (s : State) (a : Nat) :
    ∃ q, s.neededWake a = if s.waitingOn a ≠ [] then s.takeWake a q else s := by
  unfold State.neededWake
  dsimp only
  by_cases hw : s.waitingOn a = []
  · refine ⟨.scheduled, ?_⟩
    rw [if_neg (by rw [hw]; exact Bool.false_ne_true), if_pos hw, if_neg (not_not.mpr hw)]
  · by_cases hd : (s.waitingOn a).any s.demandQ.contains = true
    · exact ⟨.demand, by rw [if_pos hd, if_pos hw]⟩
    · exact ⟨.scheduled, by rw [if_neg hd, if_neg hw, if_pos hw]⟩

include hf

/-- The entry to PARKED with the wakes of the Group unit (R78, R133, R135). -/
theorem State.enterParked_wokenIf (hq : s.queuesMatch) (ha : hasRecord a) (was : (s.st a).state.unqueued) :
    (s.enteredPark a f).WokenIf (s.enterParked a f) a (s.starvedMember a = true ∨ s.waitingOn a ≠ []) := by
  have parked := State.enteredPark_parked (s := s) hf ha
  have cfg : (s.enteredPark a f).cfg = s.cfg := by rw [State.enteredPark_eq]
  have starved : (s.enteredPark a f).starved = s.starved := by rw [State.enteredPark_eq]
  have start := State.WokenIf.refl (a := a) (State.enteredPark_queuesMatch hf hq was)
  have first := start.wake (n := (s.enteredPark a f).starvedMember a = true) (d := s.starvedMember a = true) parked
    .demand fun _ => by rw [State.starvedMember_congr cfg starved]
  rw [State.enterParked_eq]
  obtain ⟨q, needed⟩ := ((s.enteredPark a f).starvedWake a).neededWake_eq a
  rw [needed]
  have second := first.wake (n := ((s.enteredPark a f).starvedWake a).waitingOn a ≠ []) (d := s.waitingOn a ≠ [])
    parked q fun hno => by
      have same : (s.enteredPark a f).starvedWake a = s.enteredPark a f := first.stays hno
      rw [same, State.enteredPark_waitingOn hf ha was.2]
  rw [false_or] at second
  exact second

end Entry

end Sys2Proof.Machine
end


section
/-! SUPPORT. Adoption of an UNKNOWN station (R75, R76) and observations of a FAULTED one (R83). -/

namespace Sys2Proof.Machine

open Station (BeliefKept HoldKept beliefOrder holdOrder)

variable {s t u v e : State} {a b : Nat} {x : Exchange} {f : Frame} {r : StatusRec} {o : Snapshot}
  {before : Option Snapshot}

/-! ## Adoption as PARKED (R75) -/

/-- The record with which an adopted station enters PARKED. -/
def Station.adoptedParked (y : Station) : Station := { y with shadow := .run }

theorem Station.adoptedParked_tints (y : Station) : Station.Tints y y.adoptedParked := ⟨rfl, rfl, rfl⟩

theorem State.adoptParked_eq (s : State) (a : Nat) :
    s.adoptParked a
      = (((s.enterParked a Station.adoptedParked).adoptWake a).exemptWake a).expireWakeDue a := rfl

section Wakes

variable (hq : s.queuesMatch) (ha : hasRecord a) (was : (s.st a).state.unqueued)

include hq ha was

theorem State.adoptWake_wokenIf :
    (s.enteredPark a Station.adoptedParked).WokenIf ((s.enterParked a Station.adoptedParked).adoptWake a) a
      ((s.starvedMember a = true ∨ s.waitingOn a ≠ []) ∨ (s.mode ≠ .active ∨ (s.pol a).cls = .pass)) := by
  have entry := State.enterParked_wokenIf Station.adoptedParked_tints hq ha was
  refine entry.wake (n := (s.enterParked a Station.adoptedParked).mode ≠ .active
    ∨ ((s.enterParked a Station.adoptedParked).pol a).cls = .pass)
    (State.enteredPark_parked (s := s) Station.adoptedParked_tints ha) .scheduled fun _ => ?_
  have mode : (s.enteredPark a Station.adoptedParked).mode = s.mode := by rw [State.enteredPark_eq]
  have cfg : (s.enteredPark a Station.adoptedParked).cfg = s.cfg := by rw [State.enteredPark_eq]
  rw [entry.kept.mode, entry.kept.pol, mode, State.pol_congr _ _ cfg]

theorem State.adoptWake_exempt :
    (((s.enterParked a Station.adoptedParked).adoptWake a).st a).exempt = (s.st a).exempt := by
  have adopt := ((State.adoptWake_wokenIf hq ha was).kept.st a).exempt
  rw [State.st_enteredPark_self (s := s) Station.adoptedParked ha] at adopt
  exact adopt

theorem State.exemptWake_wokenIf :
    (s.enteredPark a Station.adoptedParked).WokenIf (((s.enterParked a Station.adoptedParked).adoptWake a).exemptWake a)
      a (((s.starvedMember a = true ∨ s.waitingOn a ≠ []) ∨ (s.mode ≠ .active ∨ (s.pol a).cls = .pass))
        ∨ (s.st a).exempt = true) :=
  (State.adoptWake_wokenIf hq ha was).wake
    (n := (((s.enterParked a Station.adoptedParked).adoptWake a).st a).exempt = true)
    (State.enteredPark_parked (s := s) Station.adoptedParked_tints ha) .demand fun _ => by
      rw [State.adoptWake_exempt hq ha was]

/-- The adopted station and the wakes it is given (R75, R133, R135, R172). -/
theorem State.adoptParked_wokenIf :
    (s.enteredPark a Station.adoptedParked).WokenIf (s.adoptParked a) a
      ((((s.starvedMember a = true ∨ s.waitingOn a ≠ []) ∨ (s.mode ≠ .active ∨ (s.pol a).cls = .pass))
        ∨ (s.st a).exempt = true) ∨ s.dueAtOnce a) := by
  refine (State.exemptWake_wokenIf hq ha was).expire
    (State.enteredPark_parked (s := s) Station.adoptedParked_tints ha) ?_
  have mono : (s.enteredPark a Station.adoptedParked).mono = s.mono := by rw [State.enteredPark_eq]
  rw [State.st_enteredPark_self (s := s) Station.adoptedParked ha, mono]
  exact Iff.rfl

/-- Adopted while exempt a station ends demanded (R75). -/
theorem State.adoptParked_demanded (he : (s.st a).exempt = true) : (s.adoptParked a).Demanded a := by
  have adopt := State.adoptWake_wokenIf hq ha was
  have exempt := State.exemptWake_wokenIf hq ha was
  have parked := State.enteredPark_parked (s := s) Station.adoptedParked_tints ha
  have wakes : ((s.enterParked a Station.adoptedParked).adoptWake a).exemptWake a
      = ((s.enterParked a Station.adoptedParked).adoptWake a).takeWake a .demand :=
    if_pos ((State.adoptWake_exempt hq ha was).trans he)
  have calm : s.adoptParked a = ((s.enterParked a Station.adoptedParked).adoptWake a).exemptWake a := by
    rw [State.adoptParked_eq]
    unfold State.expireWakeDue
    rw [(exempt.leaves (Or.inr he)).2.1]
  rw [calm, wakes]
  refine State.takeWake_demanded_of_left adopt.queues ?_
  by_cases hw : (s.starvedMember a = true ∨ s.waitingOn a ≠ []) ∨ (s.mode ≠ .active ∨ (s.pol a).cls = .pass)
  · exact Or.inr (adopt.leaves hw).1
  · exact Or.inl (by rw [adopt.stays hw, parked])

end Wakes

/-! ## Adoption as FREE (R76) -/

/-- The record of a station adopted as FREE, the credit of the same observation taken. -/
structure Station.AdoptedFree (now : Nat) (p : Policy) (o : Snapshot) (y q : Station) : Prop where
  credit : q.credit = 0
  lastStart : q.lastStart = some now
  starts : q.starts = y.starts
  lastObs : q.lastObs = now
  remainder : q.remainder = 0
  demand : q.demand = false
  shadow : q.shadow = if RunState.started o.run = true then .run else .stop
  state : q.state = .free ∨ p.cPark = 0 ∧ q.state = .parkQueued
  busyResets : q.stats.busyResets
    = if o.cause ≠ .fault ∧ p.tBusy ≤ o.load then min (y.stats.busyResets + 1) 65535 else y.stats.busyResets

/-- The record of a station adopted as FREE before its credit is judged. -/
def Station.adoptedFree (now rated : Nat) (o : Snapshot) (y : Station) : Station :=
  Station.adopted now o { y.freed now rated with lastObs := now, remainder := 0 }

theorem State.st_adopted (ha : hasRecord a) (hu : (s.st a).state = .unknown) :
    (s.enterFree a (Station.adopted s.mono o)).st a = (s.st a).adoptedFree s.mono (s.pol a).rated o := by
  have unqueued : (s.st a).state ≠ .parkQueued := by rw [hu]; decide
  rw [State.enterFree_st _ _ _ ha]
  unfold Station.freed
  rw [if_neg unqueued, if_neg unqueued]
  rfl

/-- No time has passed since the entry: the credit stays 0 (R92 to R95). -/
theorem Station.creditUpdate_at_once (p : Policy) (load : Nat) {now : Nat} {y : Station} (h : y.lastObs = now)
    (hc : y.credit = 0) :
    Station.creditUpdate now p load y =
      { y with
        remainder := 0
        stats := if p.tBusy ≤ load then { y.stats with busyResets := min (y.stats.busyResets + 1) 65535 }
          else y.stats } := by
  have none : now - y.lastObs = 0 := by omega
  have credit : creditAfter p load (min (0 / 100) 600) y.credit = y.credit := by
    rw [hc, creditAfter_eq]
    split
    · rfl
    · split <;> simp
  rw [Station.creditUpdate_eq, none, credit]
  simp only [Nat.zero_div, Nat.zero_le, if_true, Nat.zero_mod, Nat.sub_zero]
  rw [← h]

theorem Station.freed_busyResets (now rated : Nat) (y : Station) :
    (y.freed now rated).stats.busyResets = y.stats.busyResets := by
  unfold Station.freed Station.account
  cases y.parkMark <;> rfl

theorem Station.creditFault_at_once {now : Nat} {y : Station} (h : y.lastObs = now) :
    Station.creditFault now y = { y with remainder := 0, credit := 0 } := by
  have none : now - y.lastObs = 0 := by omega
  rw [Station.creditFault_eq, none]
  simp only [Nat.zero_div, Nat.zero_le, if_true, Nat.zero_mod, Nat.sub_zero]
  rw [← h]

/-- The entry to FREE of an adopted station leaves the park queue, in which it does not stand. -/
theorem State.adopted_parkQ (hq : s.queuesMatch) (hu : (s.st a).state = .unknown) :
    (s.enterFree a (Station.adopted s.mono o)).parkQ = s.parkQ := by
  rw [State.enterFree_parkQ (Station.adopted s.mono o) (fun _ => ⟨rfl, rfl, rfl⟩) hq,
    List.filter_eq_self]
  intro b hb
  have queued := hq.mem_parkQ.mp hb
  simp only [bne_iff_ne, ne_eq]
  rintro rfl
  cases hu.symm.trans queued

/-- A station adopted as FREE (R76). -/
theorem State.adoptFree_adopted (hq : s.queuesMatch) (ha : hasRecord a) (hu : (s.st a).state = .unknown) :
    Station.AdoptedFree s.mono (s.pol a) o (s.st a) ((s.adoptFree a o).st a)
    ∧ (1 ≤ (s.pol a).cPark → (s.adoptFree a o).parkQ = s.parkQ) := by
  have self := State.st_adopted (o := o) ha hu
  have parkQ := State.adopted_parkQ (o := o) hq hu
  have kept := s.enterFree_holds a (Station.adopted s.mono o) (Station.adopted_holds _ _)
  have resets := Station.freed_busyResets s.mono (s.pol a).rated (s.st a)
  have starts := (Station.freed_kept s.mono (s.pol a).rated (s.st a)).starts
  have adopt : s.adoptFree a o = if o.cause = .fault then (s.enterFree a (Station.adopted s.mono o)).creditFault a
      else ((s.enterFree a (Station.adopted s.mono o)).creditUpdate a o.load).parkTest a := rfl
  by_cases hf : o.cause = .fault
  · have fault := State.st_creditFault_self (s := s.enterFree a (Station.adopted s.mono o)) ha
    rw [self, kept.mono, Station.creditFault_at_once (now := s.mono) (y := (s.st a).adoptedFree s.mono (s.pol a).rated o) rfl] at fault
    rw [adopt, if_pos hf, fault]
    refine ⟨⟨rfl, rfl, starts, rfl, rfl, rfl, rfl, Or.inl rfl, ?_⟩, fun _ => (State.modSt_parkQ ..).trans parkQ⟩
    rw [if_neg fun h => h.1 hf]
    exact resets
  · have computed := State.st_creditUpdate_self (s := s.enterFree a (Station.adopted s.mono o)) o.load ha
    rw [self, kept.mono, kept.pol,
      Station.creditUpdate_at_once (now := s.mono) (y := (s.st a).adoptedFree s.mono (s.pol a).rated o) _ _ rfl rfl] at computed
    have busy : ((((s.enterFree a (Station.adopted s.mono o)).creditUpdate a o.load).st a).stats.busyResets)
        = if o.cause ≠ .fault ∧ (s.pol a).tBusy ≤ o.load then min ((s.st a).stats.busyResets + 1) 65535
          else (s.st a).stats.busyResets := by
      rw [computed, if_congr (and_iff_right hf) rfl rfl]
      dsimp only
      split
      · exact congrArg (fun n => min (n + 1) 65535) resets
      · exact resets
    have judged : Station.AdoptedFree s.mono (s.pol a) o (s.st a)
        (((s.enterFree a (Station.adopted s.mono o)).creditUpdate a o.load).st a) := by
      refine ⟨?_, ?_, ?_, ?_, ?_, ?_, ?_, Or.inl ?_, busy⟩
      all_goals rw [computed]
      case refine_3 => exact starts
      all_goals rfl
    have hpol : ((s.enterFree a (Station.adopted s.mono o)).creditUpdate a o.load).pol a = s.pol a :=
      (State.pol_congr _ _ (State.modSt_cfg ..) a).trans (kept.pol a)
    rw [adopt, if_neg hf, State.st_parkTest_self ha]
    by_cases he : ((s.enterFree a (Station.adopted s.mono o)).creditUpdate a o.load).eligible a = true
    · obtain ⟨-, -, -, -, credit, -⟩ := State.eligible_iff.mp he
      rw [hpol, judged.credit] at credit
      have none : (s.pol a).cPark = 0 := Nat.le_zero.mp credit
      rw [if_pos he]
      exact ⟨{ judged with state := Or.inr ⟨none, rfl⟩ }, fun some => by omega⟩
    · rw [if_neg he, State.parkTest, if_neg he]
      exact ⟨judged, fun _ => (State.modSt_parkQ ..).trans parkQ⟩

/-! ## The sighted state, as the state before the observation has it -/

section Sighted

variable (s) (a) (x) (r)

theorem State.sighted_starvedMember : (s.sighted x a r).starvedMember a = s.starvedMember a := by
  obtain ⟨-, cfg, -, -, starved, -⟩ := s.sighted_fields x a r
  exact State.starvedMember_congr cfg starved a

theorem State.sighted_waitingOn : (s.sighted x a r).waitingOn a = s.waitingOn a := by
  obtain ⟨-, cfg, -⟩ := s.sighted_fields x a r
  unfold State.waitingOn
  rw [State.supported_of_cfg cfg]
  simp only [State.state_sighted]

theorem State.sighted_wakeDueNow : (s.sighted x a r).wakeDueNow a = s.wakeDueNow a := by
  obtain ⟨mono, cfg, -, clock, -⟩ := s.sighted_fields x a r
  exact State.wakeDueNow_congr cfg clock mono a

theorem State.sighted_dueAtOnce : (s.sighted x a r).dueAtOnce a ↔ s.dueAtOnce a := by
  unfold State.dueAtOnce
  rw [s.sighted_wakeDueNow a x r, (s.sighted_fields x a r).1]

theorem State.sighted_setPending : (s.sighted x a r).setPending a = s.setPending a := by
  obtain ⟨-, -, -, -, -, fwd, -⟩ := s.sighted_fields x a r
  have hold : ((s.sighted x a r).st a).hold = (s.st a).hold := by
    rcases State.st_modSt_cases ((s.hunt .f).gapped x) a (Station.seenAt s.mono r) a with ⟨-, -, h⟩ | ⟨-, h⟩
    · rw [State.sighted, h]
      rfl
    · rw [State.sighted, h]
      rfl
  have sendable : (s.sighted x a r).sendable a = s.sendable a := by
    rw [State.sendable, State.sendable, State.held, State.held, hold, State.state_sighted]
  rw [State.setPending, State.setPending, fwd, sendable]

end Sighted

theorem Station.AdoptedFree.owned {now : Nat} {p : Policy} {y : Station} (h : Station.AdoptedFree now p o y (v.st a))
    (own : v.Owned x t) : Station.AdoptedFree now p o y (t.st a) := by
  rw [own.record]
  exact ⟨h.credit, h.lastStart, h.starts, h.lastObs, h.remainder, h.demand, h.shadow, h.state, h.busyResets⟩

theorem Station.LeftPark.owned (h : Station.LeftPark (v.st a)) (own : v.Owned x t) : Station.LeftPark (t.st a) := by
  rw [own.record]
  exact h

/-- The wakes of an adopted station, in terms of the state before its observation (R75). -/
theorem State.sighted_adopts (hq : s.queuesMatch) (ha : hasRecord a) (hu : (s.st a).state = .unknown) :
    ((s.sighted x a r).enteredPark a Station.adoptedParked).WokenIf ((s.sighted x a r).adoptParked a) a
      (s.mode ≠ .active ∨ (s.pol a).cls = .pass ∨ (s.st a).exempt = true ∨ s.starvedMember a = true
        ∨ s.waitingOn a ≠ [] ∨ s.dueAtOnce a) := by
  obtain ⟨-, cfg, mode, -⟩ := s.sighted_fields x a r
  have unknown := (s.state_sighted a x r a).trans hu
  have wakes := State.adoptParked_wokenIf (s.sighted_queuesMatch a x r hq) ha ⟨by rw [unknown]; decide, by rw [unknown]; decide⟩
  rw [State.sighted_starvedMember, State.sighted_waitingOn, State.sighted_dueAtOnce, mode, State.pol_congr _ _ cfg,
    State.st_sighted_self _ _ _ _ ha] at wakes
  refine (Iff.of_eq (congrArg _ (propext ?_))).mp wakes
  change ((((s.starvedMember a = true ∨ s.waitingOn a ≠ []) ∨ s.mode ≠ .active ∨ (s.pol a).cls = .pass)
    ∨ (s.st a).exempt = true) ∨ s.dueAtOnce a) ↔ _
  simp only [or_assoc, or_comm, or_left_comm]

/-- Settles O40: an UNKNOWN station is adopted as PARKED, with the wakes that follow (`State.adoptParked_wokenIf`), or as
FREE (`State.adoptFree_adopted`); the dispatch leaves a FAULTED one. -/
theorem observationAdoptsUnknown : Obligations.ObservationAdoptsUnknown := by
  intro f s x r obs hq present href a y p asParked
  obtain ⟨t, exec, own⟩ := exec_observes obs
  have ha : hasRecord a := obs.src_known
  have sight := obs.sight (known := False) False.elim own
  have settings := obs.settings own
  rw [State.dispatched_unreferenced href, State.dispatched_of_present present] at own
  obtain ⟨mono, cfg, mode, -, -, -, parkQ, -⟩ := s.sighted_fields x a r
  have self : (s.sighted x a r).st a = y.seenAt s.mono r := s.st_sighted_self a x r ha
  have state := s.state_sighted a x r a
  have queues : (s.sighted x a r).queuesMatch := s.sighted_queuesMatch a x r hq
  have pol : (s.sighted x a r).pol a = p := State.pol_congr _ _ cfg a
  refine ⟨t, exec, fun hf => ?faulted, fun hu parks => ?parked, fun hu frees => ?free, sight.snapshot, sight.seen,
    sight.notFresh, sight.hold, settings⟩
  case faulted =>
    have faulted := state.trans hf
    rw [State.dispatchObs_faulted _ _ _ faulted] at own
    rw [own.st_of_resting ⟨by rw [faulted]; decide, by rw [faulted]; decide⟩, self]
  case parked =>
    have unknown := state.trans hu
    have test : (snapshotNow r).run = .stopped ∧ (snapshotNow r).cause = .parked
        ∧ (s.sighted x a r).setPending a = false := by
      rw [State.sighted_setPending]
      exact parks
    rw [State.dispatchObs_unknown _ _ _ unknown, if_pos test] at own
    have wakes : State.WokenIf _ _ a _ := State.sighted_adopts (x := x) (r := r) hq ha hu
    have entered := State.st_enteredPark_self (s := s.sighted x a r) Station.adoptedParked ha
    rw [self, mono, State.sighted_wakeDueNow] at entered
    have belief := wakes.kept.st a
    intro woken
    refine ⟨?_, ?_, ?_, fun rests => ?_, fun wakesNow => ?_, fun exempt notFaulted => ?_⟩
    · rw [own.record]
      exact belief.shadow.trans (congrArg Station.shadow entered)
    · rw [own.record]
      exact belief.credit.trans (congrArg Station.credit entered)
    · rw [own.record]
      exact belief.parkedSince.trans (congrArg Station.parkedSince entered)
    · rw [wakes.stays rests] at own
      rw [own.record, entered]
      exact ⟨rfl, rfl, rfl, rfl⟩
    · obtain ⟨state, due, mark⟩ := (wakes.leaves wakesNow).owned own
      exact ⟨state, mark, due⟩
    · have demanded := State.adoptParked_demanded queues ha ⟨by rw [unknown]; decide, by rw [unknown]; decide⟩
        (by rw [self]; exact exempt)
      rw [own.state] at notFaulted
      rw [own.record, own.schedQ]
      exact ⟨demanded.demand notFaulted, demanded.not_scheduled wakes.queues⟩
  case free =>
    have unknown := state.trans hu
    have test : ¬ ((snapshotNow r).run = .stopped ∧ (snapshotNow r).cause = .parked
        ∧ (s.sighted x a r).setPending a = false) := by
      rw [State.sighted_setPending]
      exact frees
    rw [State.dispatchObs_unknown _ _ _ unknown, if_neg test] at own
    obtain ⟨adopted, queue⟩ := State.adoptFree_adopted (o := snapshotNow r) queues ha unknown
    rw [mono, pol, self] at adopted
    have after := adopted.owned own
    refine ⟨after.credit, after.lastStart, after.starts, after.lastObs, after.remainder, after.demand, ?_, fun some => ?_,
      after.busyResets⟩
    · rw [after.shadow, if_congr (RunState.started_iff _) rfl rfl]
      rfl
    · refine ⟨after.state.resolve_right fun h => ?_, ?_⟩
      · have none : p.cPark = 0 := h.1
        omega
      · rw [own.parkQ, queue (by rw [pol]; exact some), parkQ]

end Sys2Proof.Machine
end


section
/-! SUPPORT. Observations of gate-held stations: faults, local starts, the end of a coast and of a settle (R58, R79, R80,
R99, R120 to R123, R158). -/

namespace Sys2Proof.Machine

open Station (BeliefKept HoldKept beliefOrder holdOrder)

variable {s t u v e : State} {a b q : Nat} {x : Exchange} {f : Frame} {r : StatusRec} {o : Snapshot}
  {before : Option Snapshot} {c : FaultCause}

/-! ## A fault seen (R80, R82, R137) -/

/-- A station outside the queues stays as the faults left it. -/
theorem State.st_enterFaulted (c : FaultCause) (h : (s.faultSpread a c).unlisted b) :
    (s.enterFaulted a c).st b = (s.faultSpread a c).st b := by
  rcases s.enterFaulted_cases a c with is | is
  · rw [is]
  · rw [is, State.st_admissionPass_other _ _ (by rw [List.mem_append]; exact not_or.mpr h.2)]

theorem State.enterFaulted_self (c : FaultCause) (ha : hasRecord a) :
    ∃ exempt, (s.enterFaulted a c).st a = { Station.faultWith s.mono (s.pol a).rated c (s.st a) with autoExempt := exempt } := by
  obtain ⟨exempt, self⟩ := s.st_faultOne_self c ha
  refine ⟨exempt, ?_⟩
  rw [State.st_enterFaulted c ((State.spreadFaults_thinned _ _ _).unlisted (s.faultOne_unlisted a c)),
    State.st_faultSpread_self c ha, self]
  rfl

theorem State.enterFaulted_follows (c : FaultCause) (hq : q ∈ s.supported a) (hw : (s.st q).state = .wakeQueued)
    (ne : q ≠ a) : ((s.enterFaulted a c).st q).followed := by
  obtain ⟨follows, unlisted⟩ := State.faultSpread_follows c hq hw ne
  rwa [State.st_enterFaulted c unlisted]

theorem State.enterFaulted_raised (s : State) (a : Nat) (c : FaultCause) :
    (s.enterFaulted a c).flags.stationFault = true := by
  have spread := (State.spreadFaults_alarmed 256 [a] (s.faultOne a c)).stationFault (s.faultOne_raised a c)
  rcases s.enterFaulted_cases a c with is | is
  · rw [is]
    exact spread
  · rw [is, (State.admissionPass_quiet _).flags]
    exact spread

theorem State.enterFaulted_unlisted (s : State) (a : Nat) (c : FaultCause) : (s.enterFaulted a c).unlisted a := by
  have spread := (State.spreadFaults_thinned 256 [a] _).unlisted (s.faultOne_unlisted a c)
  rcases s.enterFaulted_cases a c with is | is
  · rwa [is]
  · rw [is]
    exact (State.admissionPass_thinned _).unlisted spread

/-- A failure counts to its side (R82). -/
theorem Station.faultWith_failures (now rated : Nat) (c : FaultCause) (y : Station) :
    (y.state = .parking ∨ y.state = .parked →
      (y.faultWith now rated c).stats.parkFailures = min (y.stats.parkFailures + 1) 255)
    ∧ (y.state = .wakeQueued ∨ y.state = .waking →
      (y.faultWith now rated c).stats.wakeFailures = min (y.stats.wakeFailures + 1) 255)
    ∧ (y.faultWith now rated c).stats.parkedSeconds = (y.account now rated).stats.parkedSeconds := by
  obtain ⟨parks, wakes, -⟩ := Station.account_parkFailures now rated y
  unfold Station.faultWith
  refine ⟨fun h => ?_, fun h => ?_, ?_⟩
  · rcases h with h | h <;> simp only [h, parks] <;> rfl
  · rcases h with h | h <;> simp only [h, wakes] <;> rfl
  · dsimp only
    cases y.state <;> rfl

/-! ## Entries to FREE (R79, R121, R158) -/

/-- The statistics of a record that its accounting does not count. -/
theorem Station.account_counts (now rated : Nat) (y : Station) :
    (y.account now rated).stats.localOverrides = y.stats.localOverrides
    ∧ (y.account now rated).stats.wakes = y.stats.wakes ∧ (y.account now rated).stats.parks = y.stats.parks := by
  unfold Station.account
  split <;> exact ⟨rfl, rfl, rfl⟩

/-- Seeing a station changes nothing that is accounted. -/
theorem Station.account_seenAt (now rated n : Nat) (r : StatusRec) (y : Station) :
    (y.seenAt n r).account now rated = (y.account now rated).seenAt n r := by
  rcases mark : y.parkMark with _ | m
  · rw [Station.account_of_no_mark _ _ mark, Station.account_of_no_mark (r := y.seenAt n r) _ _ mark]
  · rw [Station.account_of_mark _ _ mark, Station.account_of_mark (r := y.seenAt n r) _ _ mark]
    rfl

/-- The record of a station that enters FREE from outside the park queue (R77). -/
theorem Station.freed_eq (now rated : Nat) {y : Station} (h : y.state ≠ .parkQueued) :
    y.freed now rated =
      { y.account now rated with
        state := .free, phase := .none, phaseDeadline := none, nextFollowUp := none, wakeDue := none, attempts := 0,
        demand := false, parkMark := none, firstSent := none, satisfiedAt := none, lastObs := now, remainder := 0 } := by
  unfold Station.freed
  rw [if_neg h, if_neg h]

theorem State.st_localStart (ha : hasRecord a) :
    (s.localStart a).st a = Station.overridden s.mono ((s.st a).freed s.mono (s.pol a).rated) :=
  State.enterFree_st _ _ _ ha

theorem State.st_settle (ha : hasRecord a) :
    (s.settle a).st a = Station.settled s.mono ((s.st a).freed s.mono (s.pol a).rated) :=
  State.enterFree_st _ _ _ ha

theorem Station.overridden_eq (now : Nat) (y : Station) :
    y.overridden now = { y with
      credit := 0, starts := startsWith y.starts now, lastStart := some now
      stats := { y.stats with localOverrides := min (y.stats.localOverrides + 1) 65535 } } := by
  unfold Station.overridden
  rw [Station.recordStart_eq]
  rfl

theorem Station.settled_eq (now : Nat) (y : Station) :
    y.settled now = { y with
      credit := 0, starts := startsWith y.starts now, lastStart := some now
      stats := { y.stats with wakes := min (y.stats.wakes + 1) 65535 } } := by
  unfold Station.settled
  rw [Station.recordStart_eq]
  rfl

/-! ## The end of a coast (R121, R123) -/

theorem State.coastObserved_eq (s : State) (a : Nat) (o : Snapshot) :
    s.coastObserved a o = if o.run = .stopped then (if o.cause = .parked then s.completePark a else s.enterFree a id)
      else s := by
  unfold State.coastObserved
  cases o.run <;> cases o.cause <;> rfl

/-- The record with which a completed park enters PARKED. -/
def Station.parkCounted (y : Station) : Station :=
  { y with stats := { y.stats with parks := min (y.stats.parks + 1) 65535 } }

theorem Station.parkCounted_tints (y : Station) : Station.Tints y y.parkCounted := ⟨rfl, rfl, rfl⟩

theorem State.completePark_eq (s : State) (a : Nat) :
    s.completePark a = ((s.enterParked a Station.parkCounted).actAtParked a).expireWakeDue a := rfl

section Complete

variable (hq : s.queuesMatch) (ha : hasRecord a) (was : (s.st a).state.unqueued)

include hq ha was

/-- What the Park engine does with a park that is needed at once, demanded or holds nothing (R123). -/
theorem State.actAtParked_wokenIf
    (h : (s.starvedMember a = true ∨ s.waitingOn a ≠ []) ∨ (s.st a).demand = true ∨ (s.st a).hold = []) :
    (s.enteredPark a Station.parkCounted).WokenIf ((s.enterParked a Station.parkCounted).actAtParked a) a
      ((s.starvedMember a = true ∨ s.waitingOn a ≠ [])
        ∨ ((s.st a).demand = true ∨ (s.st a).hold = [] ∧ s.mode ≠ .active)) := by
  have entry := State.enterParked_wokenIf Station.parkCounted_tints hq ha was
  have parked := State.enteredPark_parked (s := s) Station.parkCounted_tints ha
  have self := State.st_enteredPark_self (s := s) Station.parkCounted ha
  have hold : ((s.enterParked a Station.parkCounted).st a).hold = (s.st a).hold := by
    refine (entry.kept.st a).hold.trans ?_
    rw [self]
    rfl
  have mode : (s.enterParked a Station.parkCounted).mode = s.mode := by
    rw [entry.kept.mode, State.enteredPark_eq]
  have demand (hn : ¬ (s.starvedMember a = true ∨ s.waitingOn a ≠ [])) :
      ((s.enterParked a Station.parkCounted).st a).demand = (s.st a).demand := by
    rw [entry.stays hn, self]
    rfl
  generalize hw : s.enterParked a Station.parkCounted = w at entry hold mode demand
  have act : w.actAtParked a = if (w.st a).demand = true ∨ (s.st a).hold = [] ∧ s.mode ≠ .active then
      w.takeWake a (if (w.st a).demand = true then .demand else .scheduled) else w := by
    unfold State.actAtParked
    dsimp only
    rw [hold, mode]
    by_cases hd : (w.st a).demand = true
    · rw [if_pos hd, if_pos (Or.inl hd), if_pos hd]
    · rw [if_neg hd, if_neg hd, if_congr (or_iff_right hd) rfl rfl]
      by_cases hh : (s.st a).hold = []
      · rw [if_neg (not_not.mpr hh), if_congr (and_iff_right hh) rfl rfl]
      · have needed : s.starvedMember a = true ∨ s.waitingOn a ≠ [] := by
          by_contra hn
          rw [demand hn] at hd
          exact (h.resolve_left hn).elim hd hh
        have left : (w.st a).state ≠ .parked := (entry.leaves needed).1.not_parked
        rw [if_pos hh, if_neg left, if_neg fun hc => hh hc.1]
  rw [act]
  refine entry.wake parked _ fun hn => ?_
  rw [demand hn]

theorem State.completePark_wokenIf
    (h : (s.starvedMember a = true ∨ s.waitingOn a ≠ []) ∨ (s.st a).demand = true ∨ (s.st a).hold = []) :
    (s.enteredPark a Station.parkCounted).WokenIf (s.completePark a) a
      (((s.starvedMember a = true ∨ s.waitingOn a ≠ [])
        ∨ ((s.st a).demand = true ∨ (s.st a).hold = [] ∧ s.mode ≠ .active)) ∨ s.dueAtOnce a) := by
  rw [State.completePark_eq]
  refine (State.actAtParked_wokenIf hq ha was h).expire
    (State.enteredPark_parked (s := s) Station.parkCounted_tints ha) ?_
  have mono : (s.enteredPark a Station.parkCounted).mono = s.mono := by rw [State.enteredPark_eq]
  rw [State.st_enteredPark_self (s := s) Station.parkCounted ha, mono]
  exact Iff.rfl

/-- A park that nothing needs or demands and that holds entries is released (R123). -/
theorem State.completePark_released (hn : ¬ (s.starvedMember a = true ∨ s.waitingOn a ≠ []))
    (hd : (s.st a).demand = false) (hh : (s.st a).hold ≠ []) :
    s.completePark a = (s.enteredPark a Station.parkCounted).enterFree a fun y => { y with credit := 0 } := by
  have entry := State.enterParked_wokenIf Station.parkCounted_tints hq ha was
  have parked := State.enteredPark_parked (s := s) Station.parkCounted_tints ha
  have self := State.st_enteredPark_self (s := s) Station.parkCounted ha
  have act : (s.enteredPark a Station.parkCounted).actAtParked a
      = (s.enteredPark a Station.parkCounted).enterFree a fun y => { y with credit := 0 } := by
    have demand : ¬ ((s.enteredPark a Station.parkCounted).st a).demand = true := by
      rw [self]
      exact fun h => by cases hd.symm.trans h
    have hold : ((s.enteredPark a Station.parkCounted).st a).hold ≠ [] := by
      rw [self]
      exact hh
    exact (if_neg demand).trans ((if_pos hold).trans (if_pos parked))
  rw [State.completePark_eq, entry.stays hn, act]
  unfold State.expireWakeDue
  rw [State.enterFree_st _ _ _ ha]
  rfl

end Complete

end Sys2Proof.Machine
end


section
/-! SUPPORT. Settles the statement on observations of gate-held stations, one lemma for each way its dispatch goes (R73). -/

namespace Sys2Proof.Machine

open Station (BeliefKept HoldKept beliefOrder holdOrder)

variable {s t u v e : State} {a b q : Nat} {x : Exchange} {f : Frame} {r : StatusRec} {o : Snapshot}
  {before : Option Snapshot} {c : FaultCause}

/-! ## Ways of the dispatch -/

theorem State.held_iff :
    s.held a = true ↔ (s.st a).state = .parking ∨ (s.st a).state = .parked ∨ (s.st a).state = .wakeQueued
      ∨ (s.st a).state = .waking := by
  unfold State.held
  cases (s.st a).state <;> simp [StState.gateHeld]

/-- A station that a start at its panel takes out of the gate's hands (R79). -/
def State.startable (s : State) (a : Nat) : Prop :=
  (s.st a).state = .parked ∨ (s.st a).state = .wakeQueued ∨ ((s.st a).state = .waking ∧ (s.st a).phase = .warn)

theorem State.dispatchObs_fault (h : s.held a = true) (hc : o.cause = .fault) :
    s.dispatchObs a before o = s.enterFaulted a .stationFault := by
  rcases State.held_iff.mp h with h | h | h | h
  · rw [State.dispatchObs_parking _ _ _ h, if_pos hc]
  · rw [State.dispatchObs_parked _ _ _ h, if_pos hc]
  · rw [State.dispatchObs_waiting _ _ _ h, if_pos hc]
  · rw [State.dispatchObs_waking _ _ _ h, if_pos hc]

theorem State.dispatchObs_started (h : s.startable a) (hc : o.cause ≠ .fault) (hs : o.run = .starting ∨ o.run = .running) :
    s.dispatchObs a before o = s.localStart a := by
  have started := (RunState.started_iff o.run).mpr hs
  rcases h with h | h | ⟨h, phase⟩
  · rw [State.dispatchObs_parked _ _ _ h, if_neg hc, if_pos started]
  · rw [State.dispatchObs_waiting _ _ _ h, if_neg hc, if_pos started]
  · rw [State.dispatchObs_waking _ _ _ h, if_neg hc, if_pos phase, if_pos started]

theorem State.dispatchObs_rests (h : (s.st a).state = .parked) (hc : o.cause ≠ .fault)
    (hs : ¬ (o.run = .starting ∨ o.run = .running)) : s.dispatchObs a before o = s.account a := by
  rw [State.dispatchObs_parked _ _ _ h, if_neg hc, if_neg fun k => hs ((RunState.started_iff o.run).mp k)]

theorem State.dispatchObs_unmoved (h : (s.st a).state = .wakeQueued ∨ ((s.st a).state = .waking ∧ (s.st a).phase = .warn))
    (hc : o.cause ≠ .fault) (hs : ¬ (o.run = .starting ∨ o.run = .running)) : s.dispatchObs a before o = s := by
  have still : ¬ RunState.started o.run = true := fun k => hs ((RunState.started_iff o.run).mp k)
  rcases h with h | ⟨h, phase⟩
  · rw [State.dispatchObs_waiting _ _ _ h, if_neg hc, if_neg still]
  · rw [State.dispatchObs_waking _ _ _ h, if_neg hc, if_pos phase, if_neg still]

theorem State.dispatchObs_command (h : (s.st a).state = .parking ∨ (s.st a).state = .waking)
    (hp : (s.st a).phase = .command) (hc : o.cause ≠ .fault) : s.dispatchObs a before o = s := by
  have notCoast : ¬ (s.st a).phase = .coast := by rw [hp]; exact Phase.noConfusion
  have notWarn : ¬ (s.st a).phase = .warn := by rw [hp]; exact Phase.noConfusion
  have notSettle : ¬ (s.st a).phase = .settle := by rw [hp]; exact Phase.noConfusion
  rcases h with h | h
  · rw [State.dispatchObs_parking _ _ _ h, if_neg hc, if_neg notCoast]
  · rw [State.dispatchObs_waking _ _ _ h, if_neg hc, if_neg notWarn, if_neg notSettle]

theorem State.dispatchObs_coast (h : (s.st a).state = .parking) (hp : (s.st a).phase = .coast) (hc : o.cause ≠ .fault) :
    s.dispatchObs a before o
      = if o.run = .stopped then (if o.cause = .parked then s.completePark a else s.enterFree a id) else s := by
  rw [State.dispatchObs_parking _ _ _ h, if_neg hc, if_pos hp, State.coastObserved_eq]

theorem State.dispatchObs_settle (h : (s.st a).state = .waking) (hp : (s.st a).phase = .settle) (hc : o.cause ≠ .fault) :
    s.dispatchObs a before o = if o.run = .running ∧ o.ready = true then s.settle a else s := by
  rw [State.dispatchObs_waking _ _ _ h, if_neg hc, if_neg (by rw [hp]; exact Phase.noConfusion), if_pos hp]

/-- Outside COAST and SETTLE the outcome of a poll leaves the record. -/
theorem State.Owned.st_of_phase (own : v.Owned x t) (h : (v.st a).phase ≠ .coast) (k : (v.st a).phase ≠ .settle) :
    t.st a = v.st a := by
  rw [own.st, State.followed, if_neg]
  rintro ⟨-, p⟩
  simp [State.inPhase, h, k] at p

theorem State.enterFree_unlistedNow (s : State) (a : Nat) (g : Station → Station) :
    a ∉ (s.enterFree a g).demandQ ++ (s.enterFree a g).schedQ := by
  obtain ⟨-, demand, sched⟩ := s.enterFree_unlisted (a := a) g
  rw [List.mem_append]
  exact not_or.mpr ⟨demand, sched⟩

section Sighted

variable (hq : s.queuesMatch) (ha : hasRecord a) (was : (s.st a).state.unqueued)

include ha in
theorem State.sighted_entered :
    ((s.sighted x a r).enteredPark a Station.parkCounted).st a
      = { (((s.st a).seenAt s.mono r).parkedAt s.mono).parkCounted with wakeDue := s.wakeDueNow a } := by
  rw [State.st_enteredPark_self _ ha, s.st_sighted_self a x r ha, State.sighted_wakeDueNow, (s.sighted_fields x a r).1]

include hq ha was

/-- The wakes of a completed park, in terms of the state before its observation (R123). -/
theorem State.sighted_completes
    (h : (s.starvedMember a = true ∨ s.waitingOn a ≠ []) ∨ (s.st a).demand = true ∨ (s.st a).hold = []) :
    ((s.sighted x a r).enteredPark a Station.parkCounted).WokenIf ((s.sighted x a r).completePark a) a
      (((s.starvedMember a = true ∨ s.waitingOn a ≠ [])
        ∨ ((s.st a).demand = true ∨ (s.st a).hold = [] ∧ s.mode ≠ .active)) ∨ s.dueAtOnce a) := by
  have wakes := State.completePark_wokenIf (s := s.sighted x a r) (a := a) (s.sighted_queuesMatch a x r hq) ha
    (by rwa [State.state_sighted])
  rw [State.sighted_starvedMember, State.sighted_waitingOn, State.sighted_dueAtOnce, (s.sighted_fields x a r).2.2.1,
    State.st_sighted_self _ _ _ _ ha] at wakes
  exact wakes h

/-- The record of a park released at its completion (R123). -/
theorem State.sighted_releases (hn : ¬ (s.starvedMember a = true ∨ s.waitingOn a ≠ [])) (hd : (s.st a).demand = false)
    (hh : (s.st a).hold ≠ []) :
    ((s.sighted x a r).completePark a).st a
      = { Station.freed s.mono (s.pol a).rated
          { (((s.st a).seenAt s.mono r).parkedAt s.mono).parkCounted with wakeDue := s.wakeDueNow a } with credit := 0 } := by
  have self := s.st_sighted_self a x r ha
  have released := State.completePark_released (s := s.sighted x a r) (a := a) (s.sighted_queuesMatch a x r hq) ha
    (by rwa [State.state_sighted]) (by rwa [State.sighted_starvedMember, State.sighted_waitingOn])
    (by rw [self]; exact hd) (by rw [self]; exact hh)
  have settings := State.enteredPark_eq (s.sighted x a r) a Station.parkCounted
  obtain ⟨mono, cfg, -⟩ := s.sighted_fields x a r
  have now_eq : ((s.sighted x a r).enteredPark a Station.parkCounted).now = s.mono := by
    rw [State.now, settings]
    exact mono
  have pol : ((s.sighted x a r).enteredPark a Station.parkCounted).pol a = s.pol a :=
    State.pol_congr _ _ (by rw [settings]; exact cfg) a
  rw [released, State.enterFree_st _ _ _ ha, State.sighted_entered ha, now_eq, pol]

end Sighted

/-- Settles O41: each way the dispatch goes, and what it leaves of the record seen. -/
theorem observationMovesHeldStation : Obligations.ObservationMovesHeldStation := by
  intro f s x r obs hq present href a y now fault started local_ coast settle settled parked parkedSeconds held
  obtain ⟨t, exec, own⟩ := exec_observes obs
  have ha : hasRecord a := obs.src_known
  have known : y.state ≠ .unknown := by
    rcases State.held_iff.mp held with h | h | h | h <;> exact fun hu => by cases h.symm.trans hu
  have sight := obs.sight (known := True) (fun _ => known) own
  have settings := obs.settings own
  rw [State.dispatched_unreferenced href, State.dispatched_of_present present] at own
  obtain ⟨mono, cfg, mode, -, -, -, parkQ, demandQ, schedQ, -⟩ := s.sighted_fields x a r
  have self : (s.sighted x a r).st a = y.seenAt now r := s.st_sighted_self a x r ha
  have queues : (s.sighted x a r).queuesMatch := s.sighted_queuesMatch a x r hq
  have pol : (s.sighted x a r).pol a = s.pol a := State.pol_congr _ _ cfg a
  have state : ((s.sighted x a r).st a).state = y.state := s.state_sighted a x r a
  have phase : ((s.sighted x a r).st a).phase = y.phase := by rw [self]; rfl
  have still : (s.sighted x a r).held a = true := by rw [State.held, state]; exact held
  refine ⟨t, exec, fun hf => ?fault, fun hf hl hs => ?override, fun hf hs hp => ?parked, fun hf hs hw => ?waiting,
    fun hf hs hp => ?command, fun hp => ?complete, fun hf hco hr hcause => ?stops, fun hs => ?settles,
    fun hf h => ?looks, sight.shadow trivial, sight.lock, sight.hold, settings⟩
  case fault =>
    rw [State.dispatchObs_fault still hf] at own
    obtain ⟨exempt, record⟩ := State.enterFaulted_self (s := s.sighted x a r) .stationFault ha
    rw [mono, pol, self] at record
    have seen := own.st_of_resting (b := a) (by rw [record]; exact ⟨StState.noConfusion, StState.noConfusion⟩)
    obtain ⟨parks, wakes, seconds⟩ := Station.faultWith_failures now (s.pol a).rated .stationFault (y.seenAt now r)
    rw [Station.account_seenAt] at seconds
    have unlisted := State.enterFaulted_unlisted (s.sighted x a r) a .stationFault
    rw [seen, record, own.flags, own.demandQ, own.schedQ, List.mem_append]
    refine ⟨rfl, rfl, rfl, rfl, (Station.faultWith_kept _ _ .stationFault _).credit, State.enterFaulted_raised _ _ _, seconds, parks,
      wakes, fun q supported ne waits => ?_, not_or.mpr unlisted.2⟩
    rw [own.record q]
    exact State.enterFaulted_follows .stationFault (by rwa [State.supported_of_cfg cfg]) (by rwa [State.state_sighted]) ne
  case override =>
    have startable : (s.sighted x a r).startable a := by rwa [State.startable, state, phase]
    have unlisted := (s.sighted x a r).enterFree_unlistedNow a (Station.overridden (s.sighted x a r).mono)
    rw [State.dispatchObs_started startable hf hs] at own
    have notQueued : (y.seenAt now r).state ≠ .parkQueued := by
      rcases hl with h | h | ⟨h, -⟩ <;> exact fun k => by cases h.symm.trans k
    have record := State.st_localStart (s := s.sighted x a r) ha
    rw [mono, pol, self, Station.freed_eq _ _ notQueued, Station.overridden_eq, Station.account_seenAt] at record
    have seen := own.st_of_resting (b := a) (by rw [record]; exact ⟨StState.noConfusion, StState.noConfusion⟩)
    obtain ⟨overrides, -⟩ := Station.account_counts now (s.pol a).rated y
    have starts := (Station.account_kept now (s.pol a).rated y).starts
    rw [seen, record, own.demandQ, own.schedQ]
    exact ⟨rfl, rfl, rfl, rfl, congrArg (fun n => min (n + 1) 65535) overrides, rfl, rfl,
      congrArg (startsWith · now) starts, rfl, rfl, rfl, unlisted⟩
  case parked =>
    have parked := state.trans hp
    rw [State.dispatchObs_rests parked hf hs] at own
    have record : ((s.sighted x a r).account a).st a = Station.account now (s.pol a).rated (y.seenAt now r) := by
      rw [State.account, State.st_modSt_self _ _ _ ha, self, pol]
      exact congrArg (Station.account · _ _) mono
    have resting : (Station.account now (s.pol a).rated (y.seenAt now r)).state = .parked :=
      (Station.account_state _ _ _).trans hp
    rw [own.st_of_resting (by rw [record, resting]; decide), record]
  case waiting =>
    have unmoved : ((s.sighted x a r).st a).state = .wakeQueued
        ∨ (((s.sighted x a r).st a).state = .waking ∧ ((s.sighted x a r).st a).phase = .warn) := by rwa [state, phase]
    rw [State.dispatchObs_unmoved unmoved hf hs] at own
    refine ⟨?_, own.demandQ.trans demandQ, own.schedQ.trans schedQ⟩
    rcases hw with h | ⟨-, h⟩
    · rw [own.st_of_resting (by rw [state, h]; decide), self]
    · rw [own.st_of_phase (by rw [phase, h]; decide) (by rw [phase, h]; decide), self]
  case command =>
    rw [State.dispatchObs_command (by rwa [state]) (phase.trans hp) hf] at own
    rw [own.st_of_phase (by rw [phase, hp]; decide) (by rw [phase, hp]; decide), self]
  case complete =>
    obtain ⟨⟨parking, coasting⟩, stopped, isParked⟩ := hp
    have faultless : r.cause ≠ .fault := by rw [isParked]; exact StopCause.noConfusion
    have sees : (snapshotNow r).run = .stopped ∧ (snapshotNow r).cause = .parked := ⟨stopped, isParked⟩
    rw [State.dispatchObs_coast (state.trans parking) (phase.trans coasting) faultless, if_pos sees.1, if_pos sees.2] at own
    have was : y.state.unqueued := by rw [parking]; exact ⟨StState.noConfusion, StState.noConfusion⟩
    intro needed
    have entered := State.sighted_entered (s := s) (x := x) (r := r) ha
    by_cases released : ¬ needed ∧ y.demand = false ∧ y.hold ≠ []
    · obtain ⟨unneeded, undemanded, holds⟩ := released
      have record := State.sighted_releases (x := x) (r := r) hq ha was unneeded undemanded holds
      have seen := own.st_of_resting (b := a) (by rw [record]; exact ⟨StState.noConfusion, StState.noConfusion⟩)
      rw [seen, record]
      refine ⟨rfl, (Station.freed_kept _ _ _).parkedSince, (Station.account_counts _ _ _).2.2, fun wakes => ?_,
        fun _ _ _ => rfl, fun _ _ empty _ _ => absurd empty holds⟩
      rcases wakes with h | h | ⟨h, -⟩
      · exact absurd h unneeded
      · exact absurd h (by rw [undemanded]; decide)
      · exact absurd h holds
    · have kind : needed ∨ y.demand = true ∨ y.hold = [] := by
        by_contra none
        obtain ⟨unneeded, undemanded, holds⟩ := not_or.mp none |>.imp_right not_or.mp
        exact released ⟨unneeded, Bool.eq_false_of_not_eq_true undemanded, holds⟩
      have wakes := State.sighted_completes (x := x) (r := r) hq ha was kind
      have belief := wakes.kept.st a
      refine ⟨?_, ?_, ?_, fun woken => ?_, fun h k l => absurd ⟨h, k, l⟩ released, fun h k l m n => ?_⟩
      · rw [own.record]
        exact belief.credit.trans (congrArg Station.credit entered)
      · rw [own.record]
        exact belief.parkedSince.trans (congrArg Station.parkedSince entered)
      · rw [own.record]
        exact (wakes.parks.st a).trans (congrArg (fun q => q.stats.parks) entered)
      · rw [own.state]
        refine (wakes.leaves ?_).1
        rcases woken with h | h | ⟨h, h' | h'⟩
        exacts [.inl (.inl h), .inl (.inr (.inl h)), .inl (.inr (.inr ⟨h, h'⟩)), .inr h']
      · have rests : ¬ ((needed ∨ (y.demand = true ∨ y.hold = [] ∧ s.mode ≠ .active)) ∨ s.dueAtOnce a) := by
          rintro ((h' | h' | ⟨-, h'⟩) | h')
          exacts [h h', absurd h' (by rw [k]; decide), h' m, n h']
        rw [wakes.stays rests] at own
        rw [own.record, entered]
        exact ⟨rfl, rfl, rfl, rfl⟩
  case stops =>
    obtain ⟨parking, coasting⟩ := hco
    have notQueued : (y.seenAt now r).state ≠ .parkQueued := fun k => by cases parking.symm.trans k
    have sees : (snapshotNow r).run = .stopped ∧ (snapshotNow r).cause ≠ .parked := ⟨hr, hcause⟩
    rw [State.dispatchObs_coast (state.trans parking) (phase.trans coasting) hf, if_pos sees.1, if_neg sees.2] at own
    have record := State.enterFree_st (s := s.sighted x a r) a id ha
    have now_eq : (s.sighted x a r).now = now := mono
    rw [now_eq, pol, self, Station.freed_eq _ _ notQueued] at record
    have seen := own.st_of_resting (b := a) (by rw [record]; exact ⟨StState.noConfusion, StState.noConfusion⟩)
    rw [seen, record]
    exact ⟨rfl, rfl, (Station.account_kept _ _ (y.seenAt now r)).credit, rfl, rfl, rfl⟩
  case settles =>
    obtain ⟨⟨waking, settling⟩, hf, settles⟩ := hs
    have notQueued : (y.seenAt now r).state ≠ .parkQueued := fun k => by cases waking.symm.trans k
    have sees : (snapshotNow r).run = .running ∧ (snapshotNow r).ready = true := settles
    rw [State.dispatchObs_settle (state.trans waking) (phase.trans settling) hf, if_pos sees] at own
    have record := State.st_settle (s := s.sighted x a r) ha
    rw [mono, pol, self, Station.freed_eq _ _ notQueued, Station.settled_eq, Station.account_seenAt] at record
    have seen := own.st_of_resting (b := a) (by rw [record]; exact ⟨StState.noConfusion, StState.noConfusion⟩)
    obtain ⟨-, wakes, -⟩ := Station.account_counts now (s.pol a).rated y
    have starts := (Station.account_kept now (s.pol a).rated y).starts
    rw [seen, record]
    exact ⟨rfl, rfl, rfl, rfl, congrArg (fun n => min (n + 1) 65535) wakes, congrArg (startsWith · now) starts, rfl, rfl, rfl⟩
  case looks =>
    have inPhase : ((s.sighted x a r).inPhase a .parking .coast || (s.sighted x a r).inPhase a .waking .settle) = true := by
      rw [State.inPhase, State.inPhase, state, phase]
      rcases h with ⟨⟨h, k⟩, -⟩ | ⟨⟨h, k⟩, -⟩ <;> rw [h, k] <;> rfl
    have unmoved : (s.sighted x a r).dispatchObs a (s.st a).snapshot (snapshotNow r) = s.sighted x a r := by
      rcases h with ⟨⟨h, k⟩, runs⟩ | ⟨⟨h, k⟩, unsettled⟩
      · have sees : (snapshotNow r).run ≠ .stopped := runs
        rw [State.dispatchObs_coast (state.trans h) (phase.trans k) hf, if_neg sees]
      · have sees : ¬ ((snapshotNow r).run = .running ∧ (snapshotNow r).ready = true) :=
          fun ready => unsettled ⟨⟨h, k⟩, hf, ready⟩
        rw [State.dispatchObs_settle (state.trans h) (phase.trans k) hf, if_neg sees]
    rw [unmoved] at own
    rw [own.st, State.followed, self, mono, if_congr (and_iff_left inPhase) rfl rfl]

end Sys2Proof.Machine
end


section
/-! SUPPORT. What wakes, faults and departures leave of the starved flags, and what the dispatch of an observation makes of
the other stations (R73, R131, R132). -/

namespace Sys2Proof.Machine

open Station (BeliefKept HoldKept beliefOrder holdOrder)

variable {s t u v e : State} {a b : Nat} {o : Snapshot} {before : Option Snapshot}

/-! ## Starved flags -/

/-- The starved flags are as they were, and GROUP_STARVED stays raised. -/
structure State.StarvedKept (s t : State) : Prop where
  starved : t.starved = s.starved
  raised : s.flags.groupStarved = true → t.flags.groupStarved = true

theorem State.StarvedKept.refl (s : State) : s.StarvedKept s := ⟨rfl, id⟩

theorem State.StarvedKept.trans (h : s.StarvedKept t) (k : t.StarvedKept u) : s.StarvedKept u :=
  ⟨k.starved.trans h.starved, fun r => k.raised (h.raised r)⟩

theorem State.Quiet.starvedKept (h : s.Quiet t) : s.StarvedKept t := ⟨h.starved, fun r => h.flags ▸ r⟩

theorem State.StarvedKept.foldl {α : Type} (g : State → α → State) (h : ∀ (t : State) (x : α), t.StarvedKept (g t x)) (l : List α)
    (s : State) : s.StarvedKept (l.foldl g s) := by
  induction l generalizing s with
  | nil => exact .refl s
  | cons x l ih => exact (h s x).trans (ih _)

theorem State.raise_starvedKept (s : State) (x : Flag) : s.StarvedKept (s.raise x) := by
  refine ⟨rfl, fun r => ?_⟩
  cases x <;> simp [State.raise, Attention.raised, r]

theorem State.failLimitTest_starvedKept (s : State) (a : Nat) : s.StarvedKept (s.failLimitTest a) := by
  unfold State.failLimitTest
  dsimp only
  split
  · exact (s.modSt_quiet a _).starvedKept.trans (State.raise_starvedKept _ _)
  · exact .refl s

theorem State.faultOne_starvedKept (s : State) (a : Nat) (c : FaultCause) : s.StarvedKept (s.faultOne a c) := by
  have faulted := (((s.dequeue_quiet a).trans (State.modSt_quiet _ a (Station.faultWith s.now (s.pol a).rated c))).starvedKept).trans
    (State.raise_starvedKept _ .stationFault)
  unfold State.faultOne
  dsimp only
  split
  · exact faulted.trans (State.failLimitTest_starvedKept _ a)
  · exact faulted.trans (State.failLimitTest_starvedKept _ a)
  · exact faulted

theorem State.spreadFaults_starvedKept (n : Nat) (l : List Nat) (s : State) : s.StarvedKept (s.spreadFaults n l) := by
  induction n generalizing s l with
  | zero => exact .refl s
  | succ n ih =>
    cases l with
    | nil => exact .refl s
    | cons p l => exact (State.StarvedKept.foldl _ (fun t q => t.faultOne_starvedKept q .supportFault) _ s).trans (ih _ _)

theorem State.faultSpread_starvedKept (s : State) (a : Nat) (c : FaultCause) : s.StarvedKept (s.faultSpread a c) :=
  (s.faultOne_starvedKept a c).trans (State.spreadFaults_starvedKept 256 [a] _)

theorem State.enterFaulted_starvedKept (s : State) (a : Nat) (c : FaultCause) : s.StarvedKept (s.enterFaulted a c) := by
  rcases s.enterFaulted_cases a c with is | is
  · exact is ▸ s.faultSpread_starvedKept a c
  · exact is ▸ (s.faultSpread_starvedKept a c).trans (State.admissionPass_quiet _).starvedKept

theorem State.enqueue_quiet (s : State) (a : Nat) (q : Priority) : s.Quiet (s.enqueue a q) := by cases q <;> exact ⟨rfl, rfl⟩

theorem State.joinQueue_quiet (s : State) (a : Nat) (q : Priority) : s.Quiet (s.joinQueue a q) :=
  ((s.modSt_quiet a _).trans (State.modSt_quiet _ a _)).trans (State.enqueue_quiet _ a q)

theorem State.moveToDemand_quiet (s : State) (a : Nat) : s.Quiet (s.moveToDemand a) :=
  ((s.dequeue_quiet a).trans (State.modSt_quiet _ a _)).trans (State.enqueue_quiet _ a .demand)

theorem State.chainOne_quiet (s : State) (q : Priority) (p : Nat) : s.Quiet (s.chainOne q p).1 := by
  unfold State.chainOne
  split
  · exact s.joinQueue_quiet p q
  · split
    · exact s.moveToDemand_quiet p
    · exact .refl s
  · exact .refl s

theorem State.chainAll_quiet (q : Priority) (l : List Nat) (s : State) : s.Quiet (s.chainAll q l).1 := by
  induction l generalizing s with
  | nil => exact .refl s
  | cons p l ih => exact (s.chainOne_quiet q p).trans (ih _)

theorem State.chainWalk_starvedKept (n : Nat) (l : List Nat) (s : State) : s.StarvedKept (s.chainWalk n l) := by
  induction n generalizing s l with
  | zero => exact .refl s
  | succ n ih =>
    cases l with
    | nil => exact .refl s
    | cons a l =>
      unfold State.chainWalk
      split
      · exact ih l s
      · split
        · exact (s.faultSpread_starvedKept a _).trans (ih _ _)
        · exact (State.chainAll_quiet _ _ s).starvedKept.trans (ih _ _)

theorem State.takeWake_starvedKept (s : State) (a : Nat) (q : Priority) : s.StarvedKept (s.takeWake a q) := by
  have walks {w : State} (h : s.Quiet w) : s.StarvedKept ((w.afterEntry a).admissionPass) :=
    (h.starvedKept.trans (State.chainWalk_starvedKept _ _ _)).trans (State.admissionPass_quiet _).starvedKept
  unfold State.takeWake
  split
  · exact walks (s.joinQueue_quiet a _)
  · split
    · exact walks (s.moveToDemand_quiet a)
    · exact (s.modSt_quiet a _).starvedKept
  · exact (s.modSt_quiet a _).starvedKept
  · exact (s.modSt_quiet a _).starvedKept
  · exact .refl s

/-! ## The other stations -/

/-- A record that stays, but for a PARKED or waiting station, which may be woken. -/
def Station.Onlooks (r q : Station) : Prop :=
  (r.state.still → q = r) ∧ (r.state = .parked ∨ r.state = .wakeQueued → q.state = .parked ∨ q.state.woken)

theorem Station.Onlooks.refl (r : Station) : Station.Onlooks r r :=
  ⟨fun _ => rfl, Or.imp_right Or.inl⟩

theorem Station.Onlooks.trans {r q p : Station} (h : Station.Onlooks r q) (k : Station.Onlooks q p) : Station.Onlooks r p := by
  refine ⟨fun still => ?_, fun rests => ?_⟩
  · have same := h.1 still
    exact (k.1 (same ▸ still)).trans same
  · rcases h.2 rests with parked | waits | other
    · exact k.2 (.inl parked)
    · exact k.2 (.inr waits)
    · have same := k.1 (by rcases other with e | e <;> exact ⟨by rw [e]; decide, by rw [e]; decide⟩)
      exact same ▸ .inr (.inr other)

theorem Station.Fared.onlooks {r q : Station} (h : Station.Fared r q) (still : r.state.still → q = r) :
    Station.Onlooks r q := by
  refine ⟨still, fun rests => ?_⟩
  cases h with
  | stays e => exact e ▸ (Station.Onlooks.refl r).2 rests
  | wakes _ now_ _ _ _ => exact .inr now_
  | leaves was _ => rcases rests with e | e <;> cases was.symm.trans e

/-- What an operation on station `a` makes of the others and of the starved flags. -/
structure State.Onlooks (a : Nat) (s t : State) : Prop extends s.StarvedKept t where
  queues : t.queuesMatch
  st : ∀ b, b ≠ a → Station.Onlooks (s.st b) (t.st b)

theorem State.Onlooks.refl (hq : s.queuesMatch) : State.Onlooks a s s := ⟨.refl s, hq, fun _ _ => .refl _⟩

theorem State.Onlooks.trans (h : State.Onlooks a s t) (k : State.Onlooks a t u) : State.Onlooks a s u :=
  ⟨h.toStarvedKept.trans k.toStarvedKept, k.queues, fun b ne => (h.st b ne).trans (k.st b ne)⟩

theorem State.Fared.onlooks (h : s.Fared t) (steady : s.StarvedKept t) (still : ∀ b, (s.st b).state.still → t.st b = s.st b) :
    State.Onlooks a s t :=
  ⟨steady, h.queues, fun b _ => (h.st b).onlooks (still b)⟩

/-- An operation that moves no record but the station's. -/
theorem State.Onlooks.of_other (steady : s.StarvedKept t) (queues : t.queuesMatch) (other : ∀ b, b ≠ a → t.st b = s.st b) :
    State.Onlooks a s t :=
  ⟨steady, queues, fun b ne => by rw [other b ne]; exact .refl _⟩

theorem State.modSt_onlooks (f : Station → Station) (queues : (s.modSt a f).queuesMatch) :
    State.Onlooks a s (s.modSt a f) :=
  .of_other (s.modSt_quiet a f).starvedKept queues fun b ne => s.st_modSt_other a b f ne

/-- An operation on the station's record that keeps its state. -/
theorem State.modSt_onlooks_stays (f : Station → Station) (h : ∀ r, Station.Stays r (f r)) (hq : s.queuesMatch) :
    State.Onlooks a s (s.modSt a f) :=
  State.modSt_onlooks f ((s.modSt_moves (w := False) a f h).queuesMatch hq)

theorem State.admissionPass_onlooks (hq : s.queuesMatch) : State.Onlooks a s s.admissionPass :=
  (State.admissionPass_fared hq).onlooks s.admissionPass_quiet.starvedKept fun _ hb => State.st_admissionPass_still hq hb

theorem State.takeWake_onlooks (q : Priority) (hq : s.queuesMatch) : State.Onlooks a s (s.takeWake a q) := by
  have steady := s.takeWake_starvedKept a q
  have queues := (s.takeWake_moves (w := False) a q).queuesMatch hq
  by_cases rests : (s.st a).state = .parked ∨ (s.st a).state = .wakeQueued
  · refine (State.takeWake_fared q hq ?_).onlooks steady fun b hb => State.st_takeWake_still q hq rests hb
    rcases rests with e | e <;> exact ⟨by rw [e]; decide, by rw [e]; decide⟩
  · obtain ⟨notParked, notWaiting⟩ := not_or.mp rests
    refine .of_other steady queues fun b ne => ?_
    unfold State.takeWake
    split
    · contradiction
    · contradiction
    · exact s.st_modSt_other a b _ ne
    · exact s.st_modSt_other a b _ ne
    · rfl

theorem State.wakeIf_onlooks (c : Prop) [Decidable c] (q : Priority) (hq : s.queuesMatch) :
    State.Onlooks a s (if c then s.takeWake a q else s) := by
  split
  · exact State.takeWake_onlooks q hq
  · exact .refl hq

theorem State.enterFree_onlooks (f : Station → Station) (hf : ∀ r, Station.Tints r (f r)) (hq : s.queuesMatch) :
    State.Onlooks a s (s.enterFree a f) := by
  have queues : (s.freeing a f).queuesMatch := State.freeing_queuesMatch f hf hq
  have freeing : State.Onlooks a s (s.freeing a f) :=
    .of_other ((s.dequeue_quiet a).trans (State.modSt_quiet _ a _)).starvedKept queues fun b ne =>
      State.st_modSt_other _ a b _ ne
  rw [State.enterFree_eq]
  split
  · exact freeing.trans (State.admissionPass_onlooks queues)
  · exact freeing

theorem State.leavePark_onlooks (z : Bool) (hq : s.queuesMatch) : State.Onlooks a s (s.leavePark a z) := by
  unfold State.leavePark
  split
  · exact State.enterFree_onlooks _ (fun r => by cases z <;> exact ⟨rfl, rfl, rfl⟩) hq
  · exact .refl hq

theorem State.enterFaulted_onlooks (c : FaultCause) (hq : s.queuesMatch) : State.Onlooks a s (s.enterFaulted a c) := by
  have queues : (s.faultOne a c).queuesMatch := (s.faultOne_moves (w := False) a c).queuesMatch hq
  have one : State.Onlooks a s (s.faultOne a c) :=
    .of_other (s.faultOne_starvedKept a c) queues fun b ne => s.st_faultOne_other a b c ne
  have spread : State.Onlooks a (s.faultOne a c) (s.faultSpread a c) :=
    (State.spreadFaults_fared 256 [a] queues).onlooks (State.spreadFaults_starvedKept 256 [a] _) fun b hb =>
      State.st_spreadFaults_still _ 256 [a] b hb.2
  rcases s.enterFaulted_cases a c with is | is
  · exact is ▸ one.trans spread
  · exact is ▸ (one.trans spread).trans (State.admissionPass_onlooks spread.queues)

/-! ## The ways of a dispatch -/

theorem State.expireWakeDue_onlooks (hq : s.queuesMatch) : State.Onlooks a s (s.expireWakeDue a) := by
  unfold State.expireWakeDue
  split
  · exact .refl hq
  · split
    · have cleared : State.Onlooks a s (s.modSt a fun r => { r with wakeDue := none }) :=
        State.modSt_onlooks_stays _ (fun _ => ⟨rfl, rfl, id⟩) hq
      exact cleared.trans (State.takeWake_onlooks _ cleared.queues)
    · exact .refl hq

theorem State.enterParked_onlooks {f : Station → Station} (hf : ∀ y, Station.Tints y (f y)) (hq : s.queuesMatch)
    (was : (s.st a).state.unqueued) : State.Onlooks a s (s.enterParked a f) := by
  have queues := State.enteredPark_queuesMatch (f := f) hf hq was
  have quiet : s.Quiet (s.enteredPark a f) := by
    rw [s.enteredPark_eq a f]
    exact ⟨rfl, rfl⟩
  have entered : State.Onlooks a s (s.enteredPark a f) :=
    .of_other quiet.starvedKept queues fun b ne => State.st_enteredPark_other f ne
  have starved := entered.trans (State.wakeIf_onlooks ((s.enteredPark a f).starvedMember a = true) .demand queues)
  rw [State.enterParked_eq]
  obtain ⟨q, needed⟩ := State.neededWake_eq ((s.enteredPark a f).starvedWake a) a
  rw [needed]
  exact starved.trans (State.wakeIf_onlooks _ q starved.queues)

theorem State.adoptParked_onlooks (hq : s.queuesMatch) (was : (s.st a).state.unqueued) :
    State.Onlooks a s (s.adoptParked a) := by
  have entered := State.enterParked_onlooks Station.adoptedParked_tints hq was
  have adopted : State.Onlooks a _ ((s.enterParked a Station.adoptedParked).adoptWake a) :=
    State.wakeIf_onlooks _ .scheduled entered.queues
  have exempt : State.Onlooks a _ (((s.enterParked a Station.adoptedParked).adoptWake a).exemptWake a) :=
    State.wakeIf_onlooks _ .demand adopted.queues
  rw [State.adoptParked_eq]
  exact ((entered.trans adopted).trans exempt).trans (State.expireWakeDue_onlooks exempt.queues)

theorem State.actAtParked_onlooks (hq : s.queuesMatch) : State.Onlooks a s (s.actAtParked a) := by
  unfold State.actAtParked
  dsimp only
  split
  · exact State.takeWake_onlooks _ hq
  · split
    · split
      · exact State.enterFree_onlooks _ (fun _ => ⟨rfl, rfl, rfl⟩) hq
      · exact .refl hq
    · exact State.wakeIf_onlooks _ _ hq

theorem State.completePark_onlooks (hq : s.queuesMatch) (was : (s.st a).state.unqueued) :
    State.Onlooks a s (s.completePark a) := by
  have entered := State.enterParked_onlooks Station.parkCounted_tints hq was
  have acted := entered.trans (State.actAtParked_onlooks entered.queues)
  rw [State.completePark_eq]
  exact acted.trans (State.expireWakeDue_onlooks acted.queues)

theorem State.parkTest_onlooks (hq : s.queuesMatch) (free : (s.st a).state = .free) : State.Onlooks a s (s.parkTest a) := by
  have queues := (s.parkTest_moves (w := False) a fun _ => free).queuesMatch hq
  unfold State.parkTest at queues ⊢
  split at queues
  · next h =>
    rw [if_pos h]
    have quiet := s.modSt_quiet a fun r => { r with state := .parkQueued }
    exact .of_other (State.Quiet.starvedKept ⟨quiet.flags, quiet.starved⟩) queues fun b ne => s.st_modSt_other a b _ ne
  · next h =>
    rw [if_neg h]
    exact .refl hq

theorem State.creditUpdate_onlooks (load : Nat) (hq : s.queuesMatch) : State.Onlooks a s (s.creditUpdate a load) :=
  State.modSt_onlooks _ ((s.creditUpdate_moves (w := False) a load).queuesMatch hq)

theorem State.creditFault_onlooks (hq : s.queuesMatch) : State.Onlooks a s (s.creditFault a) :=
  State.modSt_onlooks _ ((s.creditFault_moves (w := False) a).queuesMatch hq)

theorem State.account_onlooks (hq : s.queuesMatch) : State.Onlooks a s (s.account a) :=
  State.modSt_onlooks _ ((s.account_moves (w := False) a).queuesMatch hq)

theorem State.creditAndTest_onlooks (load : Nat) (hq : s.queuesMatch) (free : (s.st a).state = .free) :
    State.Onlooks a s (s.creditAndTest a load) := by
  have counted : State.Onlooks a s (s.creditUpdate a load) := State.creditUpdate_onlooks load hq
  exact counted.trans (State.parkTest_onlooks counted.queues ((State.creditUpdate_state _ a load a).trans free))

theorem State.noteStart_onlooks (hq : s.queuesMatch) : State.Onlooks a s (s.noteStart a before o) := by
  have queues := (s.noteStart_moves (w := False) a before o).queuesMatch hq
  unfold State.noteStart at queues ⊢
  split
  · next h =>
    rw [if_pos h] at queues
    exact State.modSt_onlooks _ queues
  · exact .refl hq

theorem State.adoptFree_onlooks (hq : s.queuesMatch) (ha : hasRecord a) : State.Onlooks a s (s.adoptFree a o) := by
  have entered : State.Onlooks a s (s.enterFree a (Station.adopted s.now o)) :=
    State.enterFree_onlooks _ (fun _ => ⟨rfl, rfl, rfl⟩) hq
  have free : ((s.enterFree a (Station.adopted s.now o)).st a).state = .free := by
    rw [State.enterFree_st _ _ _ ha]
    rfl
  unfold State.adoptFree
  dsimp only
  split
  · exact entered.trans (State.creditFault_onlooks entered.queues)
  · exact entered.trans (State.creditAndTest_onlooks _ entered.queues free)

theorem State.localStart_onlooks (hq : s.queuesMatch) : State.Onlooks a s (s.localStart a) :=
  State.enterFree_onlooks _ (fun _ => ⟨rfl, rfl, rfl⟩) hq

theorem State.settle_onlooks (hq : s.queuesMatch) : State.Onlooks a s (s.settle a) :=
  State.enterFree_onlooks _ (fun _ => ⟨rfl, rfl, rfl⟩) hq

theorem State.coastObserved_onlooks (hq : s.queuesMatch) (was : (s.st a).state.unqueued) :
    State.Onlooks a s (s.coastObserved a o) := by
  rw [State.coastObserved_eq]
  split
  · split
    · exact State.completePark_onlooks hq was
    · exact State.enterFree_onlooks _ (fun _ => ⟨rfl, rfl, rfl⟩) hq
  · exact .refl hq

/-- What the dispatch of an observation makes of the other stations (R73). -/
theorem State.dispatchObs_onlooks (hq : s.queuesMatch) (ha : hasRecord a) : State.Onlooks a s (s.dispatchObs a before o) := by
  have faults (c : FaultCause) : State.Onlooks a s (s.enterFaulted a c) := State.enterFaulted_onlooks c hq
  have starts : State.Onlooks a s (s.localStart a) := State.localStart_onlooks hq
  have credited : State.Onlooks a s (s.creditFault a) := State.creditFault_onlooks hq
  have counted (load : Nat) : State.Onlooks a s (s.creditUpdate a load) := State.creditUpdate_onlooks load hq
  have noted : State.Onlooks a s (s.noteStart a before o) := State.noteStart_onlooks hq
  cases h : (s.st a).state with
  | unknown =>
    rw [State.dispatchObs_unknown _ _ _ h]
    split
    · exact State.adoptParked_onlooks hq (by rw [h]; exact ⟨StState.noConfusion, StState.noConfusion⟩)
    · exact State.adoptFree_onlooks hq ha
  | free =>
    rw [State.dispatchObs_free _ _ _ h]
    split
    · exact credited
    · exact noted.trans (State.creditAndTest_onlooks _ noted.queues (by rw [State.noteStart_state, h]))
  | parkQueued =>
    rw [State.dispatchObs_queued _ _ _ h]
    split
    · exact credited.trans (State.leavePark_onlooks true credited.queues)
    · split
      · exact State.leavePark_onlooks false hq
      · split
        · exact (counted _).trans (State.leavePark_onlooks true (counted _).queues)
        · exact counted _
  | parking =>
    rw [State.dispatchObs_parking _ _ _ h]
    split
    · exact faults _
    · split
      · exact State.coastObserved_onlooks hq (by rw [h]; exact ⟨StState.noConfusion, StState.noConfusion⟩)
      · exact .refl hq
  | parked =>
    rw [State.dispatchObs_parked _ _ _ h]
    split
    · exact faults _
    · split
      · exact starts
      · exact State.account_onlooks hq
  | wakeQueued =>
    rw [State.dispatchObs_waiting _ _ _ h]
    split
    · exact faults _
    · split
      · exact starts
      · exact .refl hq
  | waking =>
    rw [State.dispatchObs_waking _ _ _ h]
    split
    · exact faults _
    · split
      · split
        · exact starts
        · exact .refl hq
      · split
        · split
          · exact State.settle_onlooks hq
          · exact .refl hq
        · exact .refl hq
  | faulted =>
    rw [State.dispatchObs_faulted _ _ _ h]
    exact .refl hq

end Sys2Proof.Machine
end


section
/-! SUPPORT. The judgement of one QUORUM entry among those an observation judges, and of one member among those that
entering starvation takes up (R131, R132). -/

namespace Sys2Proof.Machine

variable {s t u v : State} {a b i j m k lo hi aux : Nat} {ms : List Nat} {x : Exchange} {r : StatusRec}

/-! ## What every judgement keeps -/

/-- What judgements other than that of entry `i` make of the stations and of the flags. -/
structure State.JudgedBut (i : Nat) (s t : State) : Prop where
  fared : s.Fared t
  spares : s.Spares t
  starved : t.isStarved i = s.isStarved i
  raised : s.flags.groupStarved = true → t.flags.groupStarved = true

theorem State.JudgedBut.refl (hq : s.queuesMatch) : State.JudgedBut i s s := ⟨.refl hq, .refl hq, rfl, id⟩

theorem State.JudgedBut.trans (h : State.JudgedBut i s t) (k : State.JudgedBut i t u) : State.JudgedBut i s u :=
  ⟨h.fared.trans k.fared, h.spares.trans k.spares, k.starved.trans h.starved, fun r => k.raised (h.raised r)⟩

theorem State.JudgedBut.foldl {α : Type} {g : State → α → State} {l : List α}
    (h : ∀ (t : State), ∀ x ∈ l, t.queuesMatch → State.JudgedBut i t (g t x)) (hq : s.queuesMatch) :
    State.JudgedBut i s (l.foldl g s) := by
  induction l generalizing s with
  | nil => exact .refl hq
  | cons x l ih =>
    have one := h s x (List.mem_cons_self ..) hq
    exact one.trans (ih (fun t y hy => h t y (List.mem_cons_of_mem _ hy)) one.fared.queues)

/-- The turn of one element in a fold, between those before it and those after it. -/
theorem State.JudgedBut.turn {α : Type} {g : State → α → State} {l : List α} {z : α} (nodup : l.Nodup) (hz : z ∈ l)
    (h : ∀ (t : State) (x : α), x ≠ z → t.queuesMatch → State.JudgedBut i t (g t x))
    (self : ∀ t : State, t.queuesMatch → (g t z).queuesMatch) (hq : s.queuesMatch) :
    ∃ u, State.JudgedBut i s u ∧ State.JudgedBut i (g u z) (l.foldl g s) := by
  obtain ⟨before, after, rfl⟩ := List.append_of_mem hz
  obtain ⟨-, later, apart⟩ := List.nodup_append.mp nodup
  have first : State.JudgedBut i s (before.foldl g s) :=
    .foldl (fun t x hx => h t x (apart x hx z (List.mem_cons_self ..))) hq
  refine ⟨_, first, ?_⟩
  rw [List.foldl_append, List.foldl_cons]
  exact .foldl (fun t x hx => h t x fun e => (List.nodup_cons.mp later).1 (e ▸ hx)) (self _ first.fared.queues)

theorem State.isStarved_setStarved_other (v : Bool) (h : j ≠ i) : (s.setStarved j v).isStarved i = s.isStarved i := by
  simp [State.setStarved, State.isStarved, h]

theorem State.isStarved_setStarved_self (v : Bool) (h : i < 32) : (s.setStarved i v).isStarved i = v := by
  simp [State.setStarved, State.isStarved, h]

theorem State.StarvedKept.isStarved (h : s.StarvedKept t) (i : Nat) : t.isStarved i = s.isStarved i := by
  rw [State.isStarved, State.isStarved, h.starved]

theorem State.Spares.group (h : s.Spares t) (i : Nat) : t.group i = s.group i := by rw [State.group, State.group, h.cfg]

theorem State.setStarved_judged (v : Bool) (h : j ≠ i) (hq : s.queuesMatch) : State.JudgedBut i s (s.setStarved j v) :=
  ⟨.same hq rfl rfl rfl rfl, .same hq rfl rfl rfl rfl rfl rfl, State.isStarved_setStarved_other v h, id⟩

/-! ## Members of a starved entry (R132) -/

theorem State.starveMember_judged (m : Nat) (hq : s.queuesMatch) : State.JudgedBut i s (s.starveMember m) := by
  have spares := State.starveMember_spares m hq
  have both : s.Fared (s.starveMember m) ∧ s.StarvedKept (s.starveMember m) := by
    unfold State.starveMember
    split
    case h_1 h => exact ⟨State.takeWake_fared _ hq ⟨by rw [h]; decide, by rw [h]; decide⟩, s.takeWake_starvedKept m _⟩
    case h_2 h =>
      split
      · exact ⟨State.takeWake_fared _ hq ⟨by rw [h]; decide, by rw [h]; decide⟩, s.takeWake_starvedKept m _⟩
      · exact ⟨.refl hq, .refl s⟩
    case h_3 => exact ⟨State.leavePark_fared m false hq, (s.leavePark_quiet m false).starvedKept⟩
    case h_4 => exact ⟨.refl hq, .refl s⟩
  exact ⟨both.1, spares, both.2.isStarved i, both.2.raised⟩

/-- A station on its way out of PARKED that waits, where it waits, in the demand queue. -/
def State.Awaited (s : State) (m : Nat) : Prop :=
  (s.st m).state.woken ∧ ((s.st m).state = .wakeQueued → m ∈ s.demandQ)

theorem State.Awaited.fared (h : s.Awaited m) (k : s.Fared t) : t.Awaited m := by
  refine ⟨(k.st m).woken h.1, fun waits => ?_⟩
  rcases h.1 with was | was
  · exact k.demandQ m was (h.2 was) waits
  · have same := (k.st m).eq_of_still (by rcases was with e | e <;> exact ⟨by rw [e]; decide, by rw [e]; decide⟩)
      (by rcases was with e | e <;> rw [e] <;> decide)
    rw [same] at waits
    rcases was with e | e <;> cases e.symm.trans waits

theorem State.starveMember_awaited (hq : s.queuesMatch) (h : (s.st m).state = .parked ∨ (s.st m).state.woken) :
    (s.starveMember m).Awaited m := by
  have demanded (rests : (s.st m).state = .parked ∨ (s.st m).state = .wakeQueued) : (s.takeWake m .demand).Awaited m :=
    have woken := State.takeWake_demanded hq rests
    ⟨woken.woken, woken.queue⟩
  unfold State.starveMember
  split
  case h_1 parked => exact demanded (.inl parked)
  case h_2 waits =>
    by_cases scheduled : s.queueOf m = .scheduled
    · rw [if_pos scheduled]
      exact demanded (.inr waits)
    · rw [if_neg scheduled]
      refine ⟨.inl waits, fun _ => ?_⟩
      by_contra absent
      exact scheduled (if_neg (by simpa using absent))
  case h_3 queued => rcases h with h | h | h | h <;> cases queued.symm.trans h
  case h_4 notParked notWaiting _ =>
    have woken := h.resolve_left notParked
    exact ⟨woken, fun waits => absurd waits notWaiting⟩

theorem State.starveMember_freed (h : (s.st m).state = .free ∨ (s.st m).state = .parkQueued) :
    ((s.starveMember m).st m).state = .free := by
  unfold State.starveMember
  rcases h with free | queued
  · rw [free]
    exact free
  · rw [queued]
    change ((s.leavePark m false).st m).state = .free
    rw [State.st_leavePark_self false queued]
    rfl

/-- Whether a FREE or PARK_QUEUED station still is one after judgements. -/
theorem State.Spares.idle (h : s.Spares t) (hm : (s.st m).state = .free ∨ (s.st m).state = .parkQueued) :
    (t.st m).state = .free ∨ (t.st m).state = .parkQueued := by
  rcases h.st m (StState.still_of_idle hm) with same | ⟨-, freed⟩
  · rwa [same]
  · rw [freed]
    exact .inl rfl

theorem State.Spares.free (h : s.Spares t) (hm : (s.st m).state = .free) : (t.st m).state = .free := by
  rcases h.st m (StState.still_of_idle (.inl hm)) with same | ⟨queued, -⟩
  · rwa [same]
  · cases hm.symm.trans queued

theorem Station.Fared.roused {r q : Station} (h : Station.Fared r q) (hr : r.state = .parked ∨ r.state.woken) :
    q.state = .parked ∨ q.state.woken := by
  rcases hr with parked | woken
  · exact (h.onlooks fun still => absurd parked still.1).2 (.inl parked)
  · exact .inr (h.woken woken)

/-- The flags of an entry that enters starvation (R132). -/
def State.starving (s : State) (i : Nat) : State := (s.setStarved i true).raise .groupStarved

theorem State.starve_eq (s : State) (i : Nat) (ms : List Nat) :
    s.starve i ms = (addresses.filter ms.contains).foldl State.starveMember (s.starving i) := rfl

theorem State.starving_fared (hq : s.queuesMatch) : s.Fared (s.starving i) := .same hq rfl rfl rfl rfl

theorem State.starving_spares (hq : s.queuesMatch) : s.Spares (s.starving i) := .same hq rfl rfl rfl rfl rfl rfl

theorem State.starve_judged (hq : s.queuesMatch) : State.JudgedBut j (s.starving i) (s.starve i ms) :=
  .foldl (fun _ m _ h => State.starveMember_judged m h) (State.starving_fared hq).queues

/-- The turn of one member of an entry that enters starvation. -/
theorem State.starve_turn (hm : m ∈ ms) (known : hasRecord m) (hq : s.queuesMatch) :
    ∃ u, State.JudgedBut i (s.starving i) u ∧ State.JudgedBut i (u.starveMember m) (s.starve i ms) := by
  have listed : m ∈ addresses.filter ms.contains := by simpa [mem_addresses, hm] using known
  exact State.JudgedBut.turn (addresses_nodup.filter _) listed (fun _ x _ h => State.starveMember_judged x h)
    (fun _ h => (State.starveMember_judged (i := i) m h).fared.queues) (State.starving_fared hq).queues

theorem State.starve_awaited (hm : m ∈ ms) (hq : s.queuesMatch) (h : (s.st m).state = .parked ∨ (s.st m).state.woken) :
    (s.starve i ms).Awaited m := by
  have known : hasRecord m := hasRecord_of_state s m (by rcases h with e | e | e | e <;> rw [e] <;> decide)
  obtain ⟨u, before, after⟩ := State.starve_turn (i := i) hm known hq
  exact (State.starveMember_awaited before.fared.queues ((before.fared.st m).roused h)).fared after.fared

theorem State.starve_freed (hm : m ∈ ms) (hq : s.queuesMatch)
    (h : (s.st m).state = .free ∨ (s.st m).state = .parkQueued) : ((s.starve i ms).st m).state = .free := by
  have known : hasRecord m := hasRecord_of_state s m (by rcases h with e | e <;> rw [e] <;> decide)
  obtain ⟨u, before, after⟩ := State.starve_turn (i := i) hm known hq
  exact after.spares.free (State.starveMember_freed (before.spares.idle h))

/-! ## Entries judged (R131) -/

/-- Entries of which the station is not the reference are not judged. -/
theorem State.judgeStarved_unmoved (h : ∀ ms k lo hi, s.group i ≠ .quorum ms k a lo hi) : s.judgeStarved a aux i = s := by
  unfold State.judgeStarved
  split
  · next ms k ref lo hi group =>
    refine if_neg fun hc => h ms k lo hi ?_
    rw [group, hc.2]
  all_goals rfl

theorem State.judgeStarved_judged (a aux : Nat) (h : j ≠ i) (hq : s.queuesMatch) :
    State.JudgedBut i s (s.judgeStarved a aux j) := by
  unfold State.judgeStarved
  split
  case h_1 ms k ref lo hi group =>
    split
    · split
      · split
        · exact State.setStarved_judged false h hq
        · exact .refl hq
      · split
        · have started : State.JudgedBut i s (s.starving j) :=
            (State.setStarved_judged true h hq).trans
              ⟨.same (State.setStarved_judged true h hq).fared.queues rfl rfl rfl rfl,
                .same (State.setStarved_judged true h hq).fared.queues rfl rfl rfl rfl rfl rfl, rfl,
                (State.raise_starvedKept _ .groupStarved).raised⟩
          exact started.trans (State.starve_judged hq)
        · exact .refl hq
    · exact .refl hq
  all_goals exact .refl hq

section Judged

variable (ha : a ≠ 0) (hg : s.group i = .quorum ms k a lo hi)

include ha hg

theorem State.judgeStarved_eq :
    s.judgeStarved a aux i
      = if s.isStarved i = true then (if hi ≤ aux then s.setStarved i false else s)
        else if aux < lo then s.starve i ms else s := by
  unfold State.judgeStarved
  split
  · next ms' k' ref lo' hi' group =>
    obtain ⟨rfl, rfl, rfl, rfl, rfl⟩ := Group.quorum.inj (hg.symm.trans group)
    exact if_pos ⟨ha, rfl⟩
  · next group => cases hg.symm.trans group
  · next group => cases hg.symm.trans group

theorem State.judgeStarved_starves (fed : s.isStarved i = false) (low : aux < lo) :
    s.judgeStarved a aux i = s.starve i ms := by
  rw [State.judgeStarved_eq ha hg, if_neg (by rw [fed]; decide), if_pos low]

theorem State.isStarved_judgeStarved (h : i < 32) (hq : s.queuesMatch) :
    (s.judgeStarved a aux i).isStarved i = if s.isStarved i = true then decide (aux < hi) else decide (aux < lo) := by
  rw [State.judgeStarved_eq ha hg]
  by_cases starved : s.isStarved i = true
  · rw [if_pos starved, if_pos starved]
    by_cases fed : hi ≤ aux
    · rw [if_pos fed, State.isStarved_setStarved_self false h]
      exact (decide_eq_false (not_lt.mpr fed)).symm
    · rw [if_neg fed, starved]
      exact (decide_eq_true (not_le.mp fed)).symm
  · rw [if_neg starved, if_neg starved]
    by_cases low : aux < lo
    · rw [if_pos low, (State.starve_judged hq).starved]
      exact (State.isStarved_setStarved_self true h).trans (decide_eq_true low).symm
    · rw [if_neg low, Bool.eq_false_of_not_eq_true starved]
      exact (decide_eq_false low).symm

end Judged

/-- The turn of one entry among those an observation judges (R131). -/
theorem State.referenceSeen_turn (a aux : Nat) (h : i < 32) (hq : s.queuesMatch) :
    ∃ u, State.JudgedBut i s u ∧ State.JudgedBut i (u.judgeStarved a aux i) (s.referenceSeen a aux) :=
  State.JudgedBut.turn List.nodup_range (List.mem_range.mpr h) (fun _ _ ne hq => State.judgeStarved_judged a aux ne hq)
    (fun _ hq => (State.judgeStarved_judged (i := i + 1) a aux (Nat.succ_ne_self i).symm hq).fared.queues) hq

/-- Entries of which the station is not the reference keep their flag. -/
theorem State.isStarved_referenceSeen_other (hq : s.queuesMatch) (h : ∀ ms k lo hi, s.group i ≠ .quorum ms k a lo hi) :
    (s.referenceSeen a aux).isStarved i = s.isStarved i := by
  by_cases bound : i < 32
  · obtain ⟨u, before, after⟩ := State.referenceSeen_turn a aux bound hq
    rw [State.judgeStarved_unmoved (by rwa [before.spares.group])] at after
    rw [after.starved, before.starved]
  · have beyond (v : State) : v.isStarved i = false := by
      rw [State.isStarved, Vector.getElem?_eq_none (not_lt.mp bound)]
      rfl
    rw [beyond, beyond]

section Referenced

variable (bound : i < 32) (ha : a ≠ 0) (hq : s.queuesMatch) (hg : s.group i = .quorum ms k a lo hi)

include bound ha hq hg

theorem State.isStarved_referenceSeen :
    (s.referenceSeen a aux).isStarved i = if s.isStarved i = true then decide (aux < hi) else decide (aux < lo) := by
  obtain ⟨u, before, after⟩ := State.referenceSeen_turn a aux bound hq
  rw [after.starved, State.isStarved_judgeStarved ha (by rw [before.spares.group]; exact hg) bound before.fared.queues,
    before.starved]

variable (fed : s.isStarved i = false) (low : aux < lo)

include fed low

/-- The turn of an entry that enters starvation. -/
theorem State.referenceSeen_starves :
    ∃ u, State.JudgedBut i s u ∧ State.JudgedBut i (u.starve i ms) (s.referenceSeen a aux) := by
  obtain ⟨u, before, after⟩ := State.referenceSeen_turn a aux bound hq
  rw [State.judgeStarved_starves ha (by rw [before.spares.group]; exact hg) (before.starved.trans fed) low] at after
  exact ⟨u, before, after⟩

theorem State.referenceSeen_raised : (s.referenceSeen a aux).flags.groupStarved = true := by
  obtain ⟨u, before, after⟩ := State.referenceSeen_starves bound ha hq hg fed low
  exact after.raised ((State.starve_judged (j := i) before.fared.queues).raised rfl)

theorem State.referenceSeen_awaited (hm : m ∈ ms) (h : (s.st m).state = .parked ∨ (s.st m).state.woken) :
    (s.referenceSeen a aux).Awaited m := by
  obtain ⟨u, before, after⟩ := State.referenceSeen_starves bound ha hq hg fed low
  exact (State.starve_awaited hm before.fared.queues ((before.fared.st m).roused h)).fared after.fared

theorem State.referenceSeen_freed (hm : m ∈ ms) (h : (s.st m).state = .free ∨ (s.st m).state = .parkQueued) :
    ((s.referenceSeen a aux).st m).state = .free := by
  obtain ⟨u, before, after⟩ := State.referenceSeen_starves bound ha hq hg fed low
  exact after.spares.free (State.starve_freed hm before.fared.queues (before.spares.idle h))

end Referenced

end Sys2Proof.Machine
end


section
/-! SUPPORT. Settles the statement on reference stations: the entries are judged on what the dispatch leaves (R72, R131,
R132, log 10). -/

namespace Sys2Proof.Machine

variable {s t u v : State} {a b i j m : Nat} {x : Exchange} {f : Frame} {r : StatusRec}

/-- What the dispatch of an observation makes of the other stations and of the starved flags. -/
theorem State.dispatched_onlooks (hq : s.queuesMatch) (ha : hasRecord a) (x : Exchange) (r : StatusRec) :
    State.Onlooks a (s.sighted x a r) (s.dispatched x a r) := by
  have queues := s.sighted_queuesMatch a x r hq
  unfold State.dispatched
  split
  · exact .refl queues
  · exact State.dispatchObs_onlooks queues ha

theorem State.dispatched_isStarved (hq : s.queuesMatch) (ha : hasRecord a) (i : Nat) :
    (s.dispatched x a r).isStarved i = s.isStarved i := by
  obtain ⟨-, -, -, -, starved, -⟩ := s.sighted_fields x a r
  rw [(s.dispatched_onlooks hq ha x r).isStarved, State.isStarved, State.isStarved, starved]

theorem State.dispatched_group (i : Nat) : (s.dispatched x a r).group i = s.group i := by
  rw [State.group, State.group, State.dispatched_cfg]

/-- A PARKED or waiting member that is not the station seen. -/
theorem State.dispatched_roused_other (hq : s.queuesMatch) (ha : hasRecord a) (hm : m ≠ a)
    (h : (s.st m).state = .parked ∨ (s.st m).state = .wakeQueued) :
    ((s.dispatched x a r).st m).state = .parked ∨ ((s.dispatched x a r).st m).state.woken :=
  ((s.dispatched_onlooks hq ha x r).st m hm).2 (by rwa [State.state_sighted])

theorem State.dispatched_still_other (hq : s.queuesMatch) (ha : hasRecord a) (hm : m ≠ a) (h : (s.st m).state.still) :
    (s.dispatched x a r).st m = s.st m := by
  rw [((s.dispatched_onlooks hq ha x r).st m hm).1 (by rwa [State.state_sighted]), s.st_sighted_other a x r hm]

/-! ## The station seen as a member of its own entry -/

/-- A park adopted or completed leaves the station PARKED or woken. -/
theorem State.WokenIf.roused {e v : State} {c : Prop} (h : e.WokenIf v a c) (parked : (e.st a).state = .parked) :
    (v.st a).state = .parked ∨ (v.st a).state.woken := by
  by_cases hc : c
  · exact .inr (h.leaves hc).1
  · rw [h.stays hc]
    exact .inl parked

/-- A station seen at rest PARKED or waiting. -/
theorem State.dispatched_atRest (ha : hasRecord a) (rests : (s.st a).state = .parked ∨ (s.st a).state = .wakeQueued)
    (seen : (s.pol a).cls ≠ .absent → r.cause ≠ .fault ∧ r.run ≠ .starting ∧ r.run ≠ .running) :
    ((s.dispatched x a r).st a).state = (s.st a).state := by
  have state := s.state_sighted a x r a
  by_cases present : (s.pol a).cls = .absent
  · rw [State.dispatched, if_pos present, state]
  · obtain ⟨faultless, notStarting, notRunning⟩ := seen present
    have idle : ¬ ((snapshotNow r).run = .starting ∨ (snapshotNow r).run = .running) := not_or.mpr ⟨notStarting, notRunning⟩
    rw [State.dispatched_of_present present]
    rcases rests with parked | waits
    · rw [State.dispatchObs_rests (state.trans parked) faultless idle, State.account, State.st_modSt_self _ _ _ ha,
        Station.account_state, state]
    · rw [State.dispatchObs_unmoved (.inl (state.trans waits)) faultless idle, state]

theorem State.dispatched_adopted (hq : s.queuesMatch) (ha : hasRecord a) (unknown : (s.st a).state = .unknown)
    (present : (s.pol a).cls ≠ .absent) (seen : r.run = .stopped ∧ r.cause = .parked) (free : s.setPending a = false) :
    ((s.dispatched x a r).st a).state = .parked ∨ ((s.dispatched x a r).st a).state.woken := by
  have test : (snapshotNow r).run = .stopped ∧ (snapshotNow r).cause = .parked ∧ (s.sighted x a r).setPending a = false :=
    ⟨seen.1, seen.2, (s.sighted_setPending a x r).trans free⟩
  rw [State.dispatched_of_present present, State.dispatchObs_unknown _ _ _ ((s.state_sighted a x r a).trans unknown), if_pos test]
  exact (State.sighted_adopts hq ha unknown).roused (State.enteredPark_parked Station.adoptedParked_tints ha)

theorem State.dispatched_completed (hq : s.queuesMatch) (ha : hasRecord a) (parking : (s.st a).state = .parking)
    (coasts : (s.st a).phase = .coast) (present : (s.pol a).cls ≠ .absent) (seen : r.run = .stopped ∧ r.cause = .parked)
    (kind : (s.st a).hold = [] ∨ (s.st a).demand = true) :
    ((s.dispatched x a r).st a).state = .parked ∨ ((s.dispatched x a r).st a).state.woken := by
  have sees : (snapshotNow r).run = .stopped ∧ (snapshotNow r).cause = .parked := seen
  have phase : ((s.sighted x a r).st a).phase = .coast := by
    rw [s.st_sighted_self a x r ha]
    exact coasts
  rw [State.dispatched_of_present present, State.dispatchObs_coast ((s.state_sighted a x r a).trans parking) phase
    (by rw [sees.2]; exact StopCause.noConfusion), if_pos sees.1, if_pos sees.2]
  exact (State.sighted_completes hq ha (by rw [parking]; exact ⟨StState.noConfusion, StState.noConfusion⟩)
    (.inr kind.symm)).roused (State.enteredPark_parked Station.parkCounted_tints ha)

/-- A FREE or PARK_QUEUED station is one after its dispatch. -/
theorem State.dispatched_idle (hs : (s.st a).state = .free ∨ (s.st a).state = .parkQueued) :
    ((s.dispatched x a r).st a).state = .free ∨ ((s.dispatched x a r).st a).state = .parkQueued := by
  by_cases present : (s.pol a).cls = .absent
  · rwa [State.dispatched, if_pos present, State.state_sighted]
  · exact State.dispatched_still present hs x r

/-- The credit of a FREE or PARK_QUEUED station at the end of its observation (R81, R91 to R95). -/
theorem State.observes.creditSeen (obs : s.observes x f r) (hq : s.queuesMatch)
    (own : ((s.dispatched x f.src.toNat r).referenceSeen f.src.toNat r.aux.toNat).Owned x t)
    (hs : (s.st f.src.toNat).state = .free ∨ (s.st f.src.toNat).state = .parkQueued) :
    let y := s.st f.src.toNat
    let p := s.pol f.src.toNat
    (t.st f.src.toNat).credit =
      if p.cls = .absent then y.credit
      else if r.cause = .fault then 0
      else if y.state = .parkQueued ∧ r.run ≠ .running then y.credit
      else creditAfter p (min r.load.toNat 1000) (min ((s.mono - y.lastObs) / 100) 600) y.credit := by
  intro y p
  by_cases present : p.cls = .absent
  · have kept := State.referenceSeen_creditKept (State.dispatched_queuesMatch hq x f.src.toNat r) f.src.toNat r.aux.toNat
      (StState.still_of_idle (State.dispatched_idle hs))
    rw [if_pos present, (own.creditKept _).credit, kept.credit, State.dispatched, if_pos present,
      s.st_sighted_self _ x r obs.src_known]
    rfl
  · rw [if_neg present, (obs.credit hq present hs own).credit]
    by_cases fault : r.cause = .fault
    · rw [if_pos fault, State.judgedRecord_fault fault, Station.creditFault_eq]
    · rw [if_neg fault]
      by_cases left : y.state = .parkQueued ∧ r.run ≠ .running
      · rw [if_pos left, State.judgedRecord_left left.1 fault left.2]
        rfl
      · have seen : y.state = .free ∨ y.state = .parkQueued ∧ r.run = .running :=
          hs.imp_right fun queued => ⟨queued, not_not.mp fun runs => left ⟨queued, runs⟩⟩
        rw [if_neg left, State.judgedRecord_eq fault seen]

/-! ## The statement -/

theorem State.Awaited.owned (h : v.Awaited m) (own : v.Owned x t) : t.Awaited m := by
  rw [State.Awaited, own.state, own.demandQ]
  exact h

/-- A station that the judgements leave FREE is FREE and in no park queue at the end (R112). -/
theorem State.Owned.unqueued (own : v.Owned x t) (hq : v.queuesMatch) (free : (v.st m).state = .free) :
    (t.st m).state = .free ∧ m ∉ t.parkQ := by
  rw [own.state, own.parkQ, hq.mem_parkQ, free]
  exact ⟨rfl, StState.noConfusion⟩

/-- Settles O42: the entries are judged on what the dispatch leaves, each in its turn (`State.referenceSeen_turn`), and
the turn of an entry that enters starvation takes up each of its members (`State.starve_turn`). -/
theorem referenceStarvesItsGroups : Obligations.ReferenceStarvesItsGroups := by
  intro f s x r obs hq a aux y p load units dispatched atRest asParked
  obtain ⟨t, exec, own⟩ := exec_observes obs
  have ha : hasRecord a := obs.src_known
  have nonzero : a ≠ 0 := by
    have := ha
    unfold hasRecord at this
    omega
  have queues : (s.dispatched x a r).queuesMatch := State.dispatched_queuesMatch hq x a r
  have starved (i : Nat) : t.isStarved i = ((s.dispatched x a r).referenceSeen a aux).isStarved i := by
    rw [State.isStarved, State.isStarved, own.starved]
  have before (i : Nat) : (s.dispatched x a r).isStarved i = s.isStarved i := State.dispatched_isStarved hq ha i
  have ended : ((s.dispatched x a r).referenceSeen a aux).queuesMatch := (State.referenceSeen_spares a aux queues).queues
  refine ⟨t, exec, fun i ms k lo hi bound hg => ?_, fun i unreferenced => ?_, obs.settings own⟩
  · have group : (s.dispatched x a r).group i = .quorum ms k a lo hi := (State.dispatched_group i).trans hg
    have judged := State.isStarved_referenceSeen (aux := aux) bound nonzero queues group
    rw [before, ← starved] at judged
    refine ⟨fun was => by rw [judged, if_pos was], fun fed => by rw [judged, fed]; exact if_neg Bool.false_ne_true,
      fun fed low => ?_, fun fed low member => ?_⟩
    · have unstarved := (before i).trans fed
      refine ⟨?_, fun m hm other => ⟨fun parked => ?_, fun rests waits => ?_, fun queued => ?_⟩⟩
      · rw [own.flags]
        exact State.referenceSeen_raised bound nonzero queues group unstarved low
      · exact ((State.referenceSeen_awaited bound nonzero queues group unstarved low hm
          (State.dispatched_roused_other hq ha other (.inl parked))).owned own).1
      · exact ((State.referenceSeen_awaited bound nonzero queues group unstarved low hm
          (State.dispatched_roused_other hq ha other rests)).owned own).2 waits
      · have still : (s.st m).state.still := StState.still_of_idle (.inr queued)
        have same : (s.dispatched x a r).st m = s.st m := State.dispatched_still_other hq ha other still
        obtain ⟨free, gone⟩ := own.unqueued ended
          (State.referenceSeen_freed bound nonzero queues group unstarved low hm (.inr (by rw [same, queued])))
        have kept := State.referenceSeen_creditKept (a := m) queues a aux (by rwa [same])
        exact ⟨free, by rw [(own.creditKept m).credit, kept.credit, same], gone⟩
    · have unstarved := (before i).trans fed
      have awaited (h : ((s.dispatched x a r).st a).state = .parked ∨ ((s.dispatched x a r).st a).state.woken) : t.Awaited a :=
        (State.referenceSeen_awaited bound nonzero queues group unstarved low member h).owned own
      refine ⟨fun parks => ?_, fun idle => ?_⟩
      · rcases parks with ⟨rests, seen⟩ | ⟨unknown, ⟨present, seen⟩, unset⟩ | ⟨parking, coasts, ⟨present, seen⟩, kind⟩
        · refine awaited ?_
          rw [State.dispatched_atRest ha rests seen]
          exact rests.imp_right .inl
        · exact awaited (State.dispatched_adopted hq ha unknown present seen unset)
        · exact awaited (State.dispatched_completed hq ha parking coasts present seen kind)
      · obtain ⟨free, gone⟩ := own.unqueued ended
          (State.referenceSeen_freed bound nonzero queues group unstarved low member (State.dispatched_idle idle))
        refine ⟨free, gone, ?_⟩
        rw [obs.creditSeen hq own idle, creditAfter_eq]
  · rw [starved, State.isStarved_referenceSeen_other queues fun ms k lo hi h => unreferenced ms k lo hi ?_, before]
    rw [← h, State.dispatched_group]

end Sys2Proof.Machine
end
